-- ==== Sys2Proof/Word.lean ====
section
/-! DEFINITION. The widths of the values the manual treats as bits. -/

namespace Sys2Proof

/-- A word of exchange memory or of a register: 32 bits (00_scope.md, Addresses). -/
abbrev Word := BitVec 32

/-- A reading of the 32-bit millisecond timestamp (R161). -/
abbrev Stamp := BitVec 32

/-- A moment of the elapsed-time base, in its resolution of 10 µs; the base does not wrap (R164). -/
abbrev Moment := Nat

end Sys2Proof
end

