-- ==== Sys2Proof/Syntax.lean ====
section
/-! DEFINITION. The commands: one constructor for each row of spec/opcode_table.json. -/

namespace Sys2Proof

/-- What the line held in one roll-call answer slot (R62): nothing, the four bits of an answer in the order sent,
or activity outside the answer pattern. -/
inductive SlotAnswer where
  | nothing
  | bits (present attention notPresent notAttention : Bool)
  | activity
  deriving DecidableEq, Repr

/-- A host access to one word of exchange memory: a read, or a write of a value (R197). -/
inductive HostAccess where
  | read
  | write (value : Word)
  deriving DecidableEq, Repr

/-- A survey timer, and how many triggers of its series come before another event (R165, log 32): 32 is the whole series. -/
structure SurveyOffer where
  timer : Fin 4
  offers : Nat
  deriving DecidableEq, Repr

/-- The commands of the H40. A request kind carries no operand, because the Request Table works from the copy it
read when it took the slot (R170); a step kind carries none, because each step is read from exchange memory when it
begins (R15). -/
inductive Instr where
  | powerOn
  | brownOut
  | supplyRestored
  | memoryClearDone
  | hardResetAssert
  | hardResetRelease
  | softReset
  | deferredResetBegin
  | sweep (value : Word)
  | wakeClear (value : Word)
  | registerWriteIgnored (offset : Fin 4) (value : Word)
  | sweepTimerExpiry
  | sweepSlot
  | settingsApply
  | listRun
  | listCut
  | engineHold
  | engineResume
  | watchArm
  | watchDisarm
  | watchFeed
  | collectionClose
  | collectionRestart
  | timeSet
  | dutySet
  | stationForget
  | identProgram
  | identProgramEnd (routeRead : BitVec 16) (hutRead : BitVec 12)
  | read
  | retrySpacingExpiry
  | blockRead
  | write
  | control
  | statusPoll
  | rollCall
  | sampleAll
  | clear
  | sampleLocal
  | stamp
  | mark
  | loop
  | wait
  | waitExpiry
  | raise
  | close
  | chain
  | endStep
  | commandFrameSent
  | broadcastSent
  | rollCallFrameSent
  | rollCallSlot (answer : SlotAnswer)
  | replyBegin
  | replyEnd (bits : List Bool)
  | replyTimeout
  | strayFrame
  | drainEnd
  | settlingEnd
  | watchTick
  | freshnessExpiry (watch : Fin 64)
  | closeAgeExpiry
  | rawLevelChange (input : Fin 16) (high : Bool)
  | debounceWindowExpiry (input : Fin 16)
  | firstWindowExpiry (input : Fin 16)
  | tachActiveEdge (input : Fin 16) (elapsed : Nat)
  | stallIntervalExpiry (input : Fin 16)
  | endDelayExpiry
  | rampTick
  | burstStart (channel : Fin 4)
  | burstExpiry (channel : Fin 4)
  | spacingExpiry (channel : Fin 4)
  | timestampAdvance
  | timeWrap
  | surveyTimerExpiry (timer : SurveyOffer)
  | hostWordAccess (address : BitVec 15) (access : HostAccess)
  deriving DecidableEq, Repr

end Sys2Proof
end

