-- ==== Sys2Proof/Decode.lean ====
section
/-! DEFINITION. Reading a command from a word of table bits. -/

namespace Sys2Proof

/-- No row of spec/opcode_table.json gives bits (every row's `fields` is empty), so no word spells a command. -/
def decodeTableWord (_nbits _w : Nat) : Option Instr := none

end Sys2Proof
end

