-- ==== Sys2Proof/Config.lean ====
section
/-! DEFINITION. What one implementation fixes, and the values the manual leaves free. -/

namespace Sys2Proof.Config

/-- The part revision that IDENT shows (R188). -/
def partRevision : Nat := 1

/-- The words of exchange memory (R191). -/
def memoryWords : Nat := 32768

/-- The cause a STATION record carries when a LOST station is heard in a transaction: R68 calls for the record, and
11.8 gives no code for that event. Free (log 5): DESIGN CHOICE that it is a value at all; nothing fixes which. -/
opaque stationCauseHeard : Nat → BitVec 2

end Sys2Proof.Config
end

