-- ==== Sys2Proof/Machine/Fields.lean ====
section
/-! DEFINITION. Bit fields: reading, packing and replacing them (chapter 11, R199). -/

namespace Sys2Proof.Machine

/-- The `len` bits of `w` from bit `lo` up, as an unsigned number. -/
def field (w : Word) (lo len : Nat) : Nat := (w.toNat >>> lo) % 2 ^ len

/-- Bit `i` of `w`. -/
def bitOf (w : Word) (i : Nat) : Bool := field w i 1 == 1

/-- A two's-complement reading of the `n`-bit unsigned number `v` (R199). -/
def signed (n v : Nat) : Int := if v < 2 ^ (n - 1) then (v : Int) else (v : Int) - 2 ^ n

/-- The two's-complement encoding of `x` at `n` bits (R199). -/
def unsigned (n : Nat) (x : Int) : Nat := (x % (2 ^ n : Nat)).toNat

/-- Fields of (width, value), packed from bit 0 in the order listed (11.4, 11.7). -/
def packNat : List (Nat × Nat) → Nat
  | [] => 0
  | (n, v) :: rest => v % 2 ^ n + 2 ^ n * packNat rest

/-- The word of packed fields; bits left over are 0 (R199). -/
def pack (fields : List (Nat × Nat)) : Word := BitVec.ofNat 32 (packNat fields)

/-- `w` with the `len` bits from `lo` replaced by `v`. -/
def setField (w : Word) (lo len v : Nat) : Word :=
  BitVec.ofNat 32 (w.toNat - field w lo len * 2 ^ lo + (v % 2 ^ len) * 2 ^ lo)

/-- A flag as a packed bit. -/
def bit (b : Bool) : Nat := if b then 1 else 0

/-- An optional packed field of `n` bits: absence is the all-ones value of the width (R199). -/
def optField (n : Nat) : Option Nat → Nat
  | some v => v
  | none => 2 ^ n - 1

/-- A byte that holds a number below `n`, or FFH for absence (R199). Other values are out of range. -/
def optByte (n : Nat) [NeZero n] (v : Nat) : Option (Fin n) := if v = 255 then none else some (Fin.ofNat n v)

/-- A count that stops at its largest value (00_scope.md, Saturating counts). -/
def satInc (limit n : Nat) : Nat := min (n + 1) limit

/-- The `n` bits of `v`, most significant first: the order on the instrument bus (11.9). -/
def bitsOf (n v : Nat) : List Bool := (List.range n).map fun i => v.testBit (n - 1 - i)

/-- The number that bits spell, most significant first (11.9). -/
def natOfBits (bits : List Bool) : Nat := bits.foldl (fun acc b => 2 * acc + bit b) 0

end Sys2Proof.Machine
end

