-- ==== Sys2Proof/Machine/Memory.lean ====
section
/-! DEFINITION. Exchange memory (R197, 11.2) as a list of address and byte pairs in one canonical form. -/

namespace Sys2Proof.Machine

/-- Exchange memory. Word `a` stands at byte addresses `4a` to `4a + 3` (00_scope.md, Addresses), least significant byte
first: DESIGN CHOICE, never seen, since every access is of a whole word (log 8). Safe. -/
abbrev Memory := List Host.Cell

/-- What an unlisted byte reads as: 0, since the Memory Port clears exchange memory at power-on (R191). -/
def unlisted : BitVec 8 := 0

/-- The byte at a byte address. -/
def byteAt : Memory → Nat → BitVec 8
  | [], _ => unlisted
  | (k, b) :: rest, a => if k = a then b else byteAt rest a

/-- The canonical form: addresses strictly rising, inside the space, and no entry equal to an unlisted byte. -/
abbrev Memory.wf (m : Memory) : Prop :=
  m.Pairwise (fun c d => c.1 < d.1) ∧ ∀ c ∈ m, c.2 ≠ unlisted ∧ c.1 < 4 * Config.memoryWords

/-- Byte `i` of a word, from the least significant. -/
def byteOf (v : Word) (i : Nat) : BitVec 8 := BitVec.ofNat 8 (v.toNat / 256 ^ i)

/-- The word at word address `a`, read whole (R197). -/
def readWord (m : Memory) (a : Nat) : Word :=
  BitVec.ofNat 32 ((byteAt m (4 * a)).toNat + 256 * (byteAt m (4 * a + 1)).toNat
    + 65536 * (byteAt m (4 * a + 2)).toNat + 16777216 * (byteAt m (4 * a + 3)).toNat)

/-- The listed cells of a word. -/
def wordCells (a : Nat) (v : Word) : Memory :=
  [(4 * a, byteOf v 0), (4 * a + 1, byteOf v 1), (4 * a + 2, byteOf v 2), (4 * a + 3, byteOf v 3)].filter
    fun c => c.2 ≠ unlisted

/-- The write of a whole word (R197). A word address outside 0000H–7FFFH names no word, and nothing is written (log 9). -/
def writeWord (m : Memory) (a : Nat) (v : Word) : Memory :=
  if a < Config.memoryWords then
    m.filter (fun c => c.1 < 4 * a) ++ wordCells a v ++ m.filter (fun c => 4 * a + 4 ≤ c.1)
  else m

/-- The writes of several words from an address up. -/
def writeWords (m : Memory) (a : Nat) : List Word → Memory
  | [] => m
  | v :: rest => writeWords (writeWord m a v) (a + 1) rest

end Sys2Proof.Machine
end

