-- ==== Sys2Proof/Machine/Types.lean ====
section
/-! DEFINITION. The pieces of state each block owns, and the codes of 11.8. -/

namespace Sys2Proof.Machine

/-! ## Names and their codes (11.8) -/

/-- Engine states (1.4). -/
inductive EngineMode where
  | idle | running | holding | held
  deriving DecidableEq, Repr

/-- Engine state codes (11.8, R188). -/
def EngineMode.code : EngineMode → Nat
  | .idle => 0 | .running => 1 | .holding => 2 | .held => 3

/-- Shed levels (R157). -/
inductive ShedLevel where
  | none | economy | survival
  deriving DecidableEq, Repr

/-- Shed level codes (11.8, R188). -/
def ShedLevel.code : ShedLevel → Nat
  | .none => 0 | .economy => 1 | .survival => 2

/-- Visit states (R135). -/
inductive VisitState where
  | off | starting | on | leaving | ending
  deriving DecidableEq, Repr

/-- Visit state codes (11.8, R188). -/
def VisitState.code : VisitState → Nat
  | .off => 0 | .starting => 1 | .on => 2 | .leaving => 3 | .ending => 4

/-- Reset causes (R190). -/
inductive ResetCause where
  | powerOn | brownOut | hard | soft
  deriving DecidableEq, Repr

/-- Reset cause codes (11.8, R188). -/
def ResetCause.code : ResetCause → Nat
  | .powerOn => 0 | .brownOut => 1 | .hard => 2 | .soft => 3

/-- Trigger sources (R4). -/
inductive Source where
  | timer (n : Fin 4) | edge | grade | attention | visit | chain | requested
  deriving DecidableEq, Repr

/-- Trigger source codes (11.8). -/
def Source.code : Source → Nat
  | .timer n => n.val | .edge => 4 | .grade => 5 | .attention => 6 | .visit => 7 | .chain => 8 | .requested => 9

/-- Step outcomes (R23). -/
inductive StepOutcome where
  | done | notReady | silent | refused | garbled | odd | lost | held
  deriving DecidableEq, Repr

/-- Step outcome codes (11.8). -/
def StepOutcome.code : StepOutcome → Nat
  | .done => 0 | .notReady => 1 | .silent => 2 | .refused => 3 | .garbled => 4 | .odd => 5 | .lost => 6 | .held => 7

/-- List outcomes (R19). -/
inductive ListOutcome where
  | completed | stopped | aborted | badStep | cut | stepLimit
  deriving DecidableEq, Repr

/-- List outcome codes; 0 stands for absence (11.8). -/
def ListOutcome.code : ListOutcome → Nat
  | .completed => 1 | .stopped => 2 | .aborted => 3 | .badStep => 4 | .cut => 5 | .stepLimit => 6

/-- The grades of a watch (R89). -/
inductive Grade where
  | unrated | normal | warnLow | warnHigh | critLow | critHigh
  deriving DecidableEq, Repr

/-- Grade codes (11.8). -/
def Grade.code : Grade → Nat
  | .unrated => 0 | .normal => 1 | .warnLow => 2 | .warnHigh => 3 | .critLow => 4 | .critHigh => 5

/-- Severities (R89). -/
def Grade.severity : Grade → Nat
  | .unrated | .normal => 0
  | .warnLow | .warnHigh => 1
  | .critLow | .critHigh => 2

/-- The grades of the low side (R89). -/
def Grade.isLow (g : Grade) : Bool := g = .warnLow ∨ g = .critLow

/-- The grades of the high side (R89). -/
def Grade.isHigh (g : Grade) : Bool := g = .warnHigh ∨ g = .critHigh

/-- The bit of a grade's class among the wake classes: NORMAL, WARN, CRIT, UNRATED (R89, 11.5). -/
def Grade.classBit : Grade → Nat
  | .normal => 0
  | .warnLow | .warnHigh => 1
  | .critLow | .critHigh => 2
  | .unrated => 3

/-- Causes of a GRADE record (R95). -/
inductive GradeCause where
  | evaluation | freshness | definition
  deriving DecidableEq, Repr

/-- GRADE cause codes (11.8). -/
def GradeCause.code : GradeCause → Nat
  | .evaluation => 0 | .freshness => 1 | .definition => 2

/-- Block endings (R34). -/
inductive BlockEnding where
  | count | last | terminator | notReady | refused | silent | garbled | odd | lost
  deriving DecidableEq, Repr

/-- Block ending codes (11.8). -/
def BlockEnding.code : BlockEnding → Nat
  | .count => 0 | .last => 1 | .terminator => 2 | .notReady => 3 | .refused => 4 | .silent => 5 | .garbled => 6
  | .odd => 7 | .lost => 8

/-- Station states (R66). -/
inductive StationState where
  | unknown | present | lost
  deriving DecidableEq, Repr

/-- Station state codes (11.8). -/
def StationState.code : StationState → Nat
  | .unknown => 0 | .present => 1 | .lost => 2

/-- Close reasons (R113). -/
inductive CloseReason where
  | full | age | asked | list | reset
  deriving DecidableEq, Repr

/-- Close reason codes; 0 stands for none (11.8). -/
def CloseReason.code : CloseReason → Nat
  | .full => 1 | .age => 2 | .asked => 3 | .list => 4 | .reset => 5

/-- Channel modes (R144). -/
inductive ChannelMode where
  | off | manual | adaptive
  deriving DecidableEq, Repr

/-- Channel mode codes (11.8). -/
def ChannelMode.code : ChannelMode → Nat
  | .off => 0 | .manual => 1 | .adaptive => 2

/-- Burst states, with the end of the interval that runs in them (R152, R153). -/
inductive BurstState where
  | none | burst (due : Moment) | spacing (due : Moment) | waiting | failed
  deriving DecidableEq, Repr

/-- Burst state codes (11.8). -/
def BurstState.code : BurstState → Nat
  | .none => 0 | .burst _ => 1 | .spacing _ => 2 | .waiting => 3 | .failed => 4

/-- Events of a STALL record (R152, R155). -/
inductive StallEvent where
  | begin | failed | clear
  deriving DecidableEq, Repr

/-- STALL event codes (11.8). -/
def StallEvent.code : StallEvent → Nat
  | .begin => 0 | .failed => 1 | .clear => 2

/-- Events of a VISIT record (R138). -/
inductive VisitEvent where
  | begin | ended | aborted
  deriving DecidableEq, Repr

/-- VISIT event codes (11.8). -/
def VisitEvent.code : VisitEvent → Nat
  | .begin => 0 | .ended => 1 | .aborted => 2

/-- Causes of a SHED record (R158). -/
inductive ShedCause where
  | grade | arm | disarm | settings
  deriving DecidableEq, Repr

/-- SHED cause codes (11.8). -/
def ShedCause.code : ShedCause → Nat
  | .grade => 0 | .arm => 1 | .disarm => 2 | .settings => 3

/-- Wake causes (R193). -/
inductive WakeCause where
  | request | closed | grade | edge | raise | station | overrun | stall | visit | shed | restart
  deriving DecidableEq, Repr

/-- The bit of a cause in WAKE and in the masks (R193). -/
def WakeCause.index : WakeCause → Nat
  | .request => 0 | .closed => 1 | .grade => 2 | .edge => 3 | .raise => 4 | .station => 5 | .overrun => 6
  | .stall => 7 | .visit => 8 | .shed => 9 | .restart => 10

/-- Record kinds (R105). -/
inductive RecordKind where
  | reading | block | status | roll | station | odd | stamp | raise | listEnd | grade | edge | stall | visit | shed
  | overrun | timeWrap | timeSet | restart
  deriving DecidableEq, Repr

/-- Record kind codes (11.7). -/
def RecordKind.code : RecordKind → Nat
  | .reading => 1 | .block => 2 | .status => 3 | .roll => 4 | .station => 5 | .odd => 6 | .stamp => 7 | .raise => 8
  | .listEnd => 9 | .grade => 10 | .edge => 11 | .stall => 12 | .visit => 13 | .shed => 14 | .overrun => 15
  | .timeWrap => 16 | .timeSet => 17 | .restart => 18

/-- A record as a block offers it (R105): its kind, its header fields packed from bit 17 up, and its payload. The
timestamp word is the Collection Unit's to write. -/
structure Record where
  kind : RecordKind
  flags : List (Nat × Nat) := []
  payload : List Word
  deriving DecidableEq, Repr

/-- Request kinds (R178). -/
inductive ReqKind where
  | settingsApply | listRun | listCut | engineHold | engineResume | watchArm | watchDisarm | watchFeed
  | collectionClose | collectionRestart | timeSet | dutySet | stationForget | identProgram
  deriving DecidableEq, Repr

/-- The kind a code names: codes 1–14 (R178). -/
def ReqKind.ofCode : Nat → Option ReqKind
  | 1 => some .settingsApply | 2 => some .listRun | 3 => some .listCut | 4 => some .engineHold
  | 5 => some .engineResume | 6 => some .watchArm | 7 => some .watchDisarm | 8 => some .watchFeed
  | 9 => some .collectionClose | 10 => some .collectionRestart | 11 => some .timeSet | 12 => some .dutySet
  | 13 => some .stationForget | 14 => some .identProgram | _ => none

/-- Results of a request (R177). -/
inductive Result where
  | ok | busy | badKind | badArgument | badSettings | badLimits | notActive | alreadySet | withdrawn | interrupted
  | storeFault
  deriving DecidableEq, Repr

/-- Result codes (R177). -/
def Result.code : Result → Nat
  | .ok => 0 | .busy => 1 | .badKind => 2 | .badArgument => 3 | .badSettings => 4 | .badLimits => 5
  | .notActive => 6 | .alreadySet => 7 | .withdrawn => 8 | .interrupted => 9 | .storeFault => 10

/-- Step kinds (chapter 2). -/
inductive StepKind where
  | read | blockRead | write | control | statusPoll | rollCall | sampleAll | clear | sampleLocal | stamp | mark | loop
  | wait | raise | close | chain | endStep
  deriving DecidableEq, Repr

/-- The step kind a code names: codes 01H–11H (11.6). -/
def StepKind.ofCode : Nat → Option StepKind
  | 1 => some .read | 2 => some .blockRead | 3 => some .write | 4 => some .control | 5 => some .statusPoll
  | 6 => some .rollCall | 7 => some .sampleAll | 8 => some .clear | 9 => some .sampleLocal | 10 => some .stamp
  | 11 => some .mark | 12 => some .loop | 13 => some .wait | 14 => some .raise | 15 => some .close
  | 16 => some .chain | 17 => some .endStep | _ => none

/-- The words of a step (2.5, 11.6). -/
def StepKind.words : StepKind → Nat
  | .read | .write => 2
  | .blockRead => 3
  | .control | .statusPoll | .rollCall | .sampleAll | .clear | .sampleLocal | .stamp | .mark | .loop | .wait | .raise
  | .close | .chain | .endStep => 1

/-! ## Settings (R179, 11.3) -/

/-- A set of edges among ACTIVATE and RELEASE (R123). -/
structure EdgeSet where
  activate : Bool
  release : Bool
  deriving DecidableEq, Repr

/-- The settings of a contact input (R123). Debounce is in ms, stall time in units of 10 ms. -/
structure InputSettings where
  enabled : Bool
  activeLow : Bool
  debounce : Nat
  recordEdges : EdgeSet
  wakeEdges : EdgeSet
  triggerList : Option (Fin 32)
  triggerEdge : EdgeSet
  firstHold : Bool
  tach : Bool
  stallTime : Nat
  deriving DecidableEq, Repr

/-- The settings of a fan channel (R142). -/
structure ChannelSettings where
  source : Option (Fin 64)
  start : Int
  slope : Nat
  minimum : Nat
  step : Nat
  fallback : Nat
  ramp : Bool
  tach : Option (Fin 16)
  deriving DecidableEq, Repr

/-- The settings in force (R179, 9.4). -/
structure Settings where
  retrySpacing : Nat
  replyTimeout : Nat
  lostLimit : Nat
  attention : Vector (Option (Fin 32)) 30
  base : Nat
  count : Nat
  size : Nat
  closeAge : Nat
  timers : Vector Nat 4
  sweepPeriod : Nat
  wakeMask : BitVec 11
  survivalMask : BitVec 11
  visitInput : Option (Fin 16)
  endDelay : Nat
  visitList : Option (Fin 32)
  economyCap : Nat
  survivalCap : Nat
  shedWatch : Option (Fin 64)
  channels : Vector ChannelSettings 4
  inputs : Vector InputSettings 16
  deriving DecidableEq, Repr

/-! ## Register window and resets (R188–R192) -/

/-- Where a reset stands: READY set; supply low in a brown-out; memory being cleared; memory cleared and the reset
input still active; a hard reset with the reset input active; the reset work, which a second cause meets (R190, log 19). -/
inductive ResetPhase where
  | ready | supplyLow | clearing | clearedHeld | hardHeld | working
  deriving DecidableEq, Repr

/-- A reset waiting for a slot's completion (R190). -/
inductive DeferredReset where
  | hard | soft
  deriving DecidableEq, Repr

/-- The reset state: phase, reset input pin, last reset cause, and a deferred reset (R188, R190). -/
structure Power where
  phase : ResetPhase
  pin : Bool
  cause : ResetCause
  deferred : Option DeferredReset
  deriving DecidableEq, Repr

/-! ## Time Base (R161–R169) -/

/-- The Time Base. `msMoment` is the moment of the base at which the timestamp last advanced (log 6). `series` holds, for
each survey timer, the lists whose triggers its last expiry has still to offer (R165, log 32). `checked` counts the watches
whose check at the watch tick that is due has been made (R98, log 29). -/
structure TimeBase where
  base : Moment
  msMoment : Moment
  timestamp : Stamp
  wrapCount : Nat
  surveyDue : Vector (Option Moment) 4
  series : Vector (List (Fin 32)) 4
  sweepDue : Moment
  rampDue : Moment
  watchDue : Moment
  checked : Nat
  deriving DecidableEq, Repr

/-! ## Wake Unit and Identity Store (R193–R196) -/

/-- The pending causes and the wake line (R193, R194). -/
structure WakeUnit where
  pending : BitVec 11
  line : Bool
  deriving DecidableEq, Repr

/-- An identity programming in progress: its values and the moment it ends (R186). -/
structure Programming where
  route : BitVec 16
  hut : BitVec 12
  due : Moment
  deriving DecidableEq, Repr

/-- The cells and programmed marker of the Identity Store, and a programming in progress (R186, R196). -/
structure IdentStore where
  routeCell : BitVec 16
  hutCell : BitVec 12
  marker : Bool
  programming : Option Programming
  deriving DecidableEq, Repr

/-! ## Request Table (R170–R178) -/

/-- A taken request: the table's own copy (R170, R174). -/
structure Taken where
  slot : Fin 16
  kind : ReqKind
  wake : Bool
  p1 : Word
  p2 : Word
  p3 : Word
  p4 : Word
  deriving DecidableEq, Repr

/-- The kinds that can outlast their sweep (R174). -/
inductive HeldKind where
  | hold | cut | ident
  deriving DecidableEq, Repr

/-- An entry of the in-flight set (R174). -/
structure HeldRequest where
  slot : Fin 16
  kind : HeldKind
  wake : Bool
  deriving DecidableEq, Repr

/-- The Request Table. `sweep` is the slot a sweep in progress examines next; `current` is the request being carried
out at once (R172, R174, R178). -/
structure RequestTable where
  sweep : Option (Fin 16)
  sweepPending : Bool
  sweepCount : Word
  current : Option Taken
  inflight : List HeldRequest
  deriving DecidableEq, Repr

/-! ## Survey Engine (R1–R51) -/

/-- An entry of the run queue (1.3). -/
structure QEntry where
  list : Fin 32
  urgent : Bool
  source : Source
  deriving DecidableEq, Repr

/-- Ready policies (R25). -/
inductive ReadyPolicy where
  | stop | pass | retry
  deriving DecidableEq, Repr

/-- Failure policies (R26). -/
inductive FailurePolicy where
  | abort | continue
  deriving DecidableEq, Repr

/-- The fields of a READ step. Station index `i` is address `i + 1`; `wide` is width 24. -/
structure ReadStep where
  station : Fin 30
  sub : Fin 16
  wide : Bool
  ready : ReadyPolicy
  budget : Nat
  failure : FailurePolicy
  record : Bool
  watch : Option (Fin 64)
  deriving DecidableEq, Repr

/-- The fields of a BLOCK_READ step. -/
structure BlockStep where
  station : Fin 30
  sub : Fin 16
  wide : Bool
  count : Nat
  terminator : Option Nat
  ready : ReadyPolicy
  failure : FailurePolicy
  deriving DecidableEq, Repr

/-- The fields of a WRITE step. -/
structure WriteStep where
  station : Fin 30
  sub : Fin 16
  wide : Bool
  value : Nat
  ready : ReadyPolicy
  failure : FailurePolicy
  deriving DecidableEq, Repr

/-- The fields of a CONTROL step. -/
structure ControlStep where
  station : Fin 30
  sub : Fin 16
  controlCode : Nat
  failure : FailurePolicy
  deriving DecidableEq, Repr

/-- The source of a SAMPLE_LOCAL step (R42). -/
inductive LocalSource where
  | tach (input : Fin 16) | output (channel : Fin 4) | count (input : Fin 16)
  deriving DecidableEq, Repr

/-- The fields of a SAMPLE_LOCAL step. -/
structure LocalStep where
  source : LocalSource
  record : Bool
  watch : Option (Fin 64)
  deriving DecidableEq, Repr

/-- A bus step whose work the Instrument Bus Controller has; READ with its retries remaining (R31). -/
inductive BusStep where
  | read (st : ReadStep) (left : Nat)
  | block (st : BlockStep)
  | write (st : WriteStep)
  | control (st : ControlStep)
  | statusPoll (station : Fin 30)
  | rollCall
  | sampleAll
  | clear
  deriving DecidableEq, Repr

/-- Where the running list stands: between two steps, in a bus step, in a WAIT, or in a retry spacing (R10, R17). -/
inductive Phase where
  | between
  | bus (step : BusStep)
  | waiting (due : Moment)
  | spacing (st : ReadStep) (left : Nat) (due : Moment)
  deriving DecidableEq, Repr

/-- The list context (1.5). `lastDone` is the address of the last step completed (R19). -/
structure Ctx where
  list : Fin 32
  source : Source
  endRecord : Bool
  addr : Nat
  executed : Nat
  mark : Option (Nat × Nat)
  cut : Bool
  start : Stamp
  lastDone : Option Nat
  phase : Phase
  deriving DecidableEq, Repr

/-- The Survey Engine. `holds` and `cuts` count the pending ENGINE_HOLD and LIST_CUT requests, detached ones too
(R12, R17, R176). -/
structure Engine where
  mode : EngineMode
  queue : List QEntry
  ctx : Option Ctx
  holds : Nat
  cuts : Nat
  completed : Word
  deriving DecidableEq, Repr

/-! ## Instrument Bus Controller (R52–R77) -/

/-- A transaction's command (R53). -/
inductive Transaction where
  | read (station : Fin 30) (sub : Fin 16) (wide : Bool)
  | write (station : Fin 30) (sub : Fin 16) (wide : Bool) (value : Nat)
  | control (station : Fin 30) (sub : Fin 16) (controlCode : Nat)
  | status (station : Fin 30)
  | clear (station : Fin 30)
  deriving DecidableEq, Repr

/-- A block read (R63). -/
structure BlockRead where
  station : Fin 30
  sub : Fin 16
  wide : Bool
  count : Nat
  terminator : Option Nat
  deriving DecidableEq, Repr

/-- A unit of bus work handed by a step (R52). -/
inductive Work where
  | transaction (t : Transaction)
  | block (b : BlockRead)
  | sampleAll
  | clearAll
  | rollCall
  deriving DecidableEq, Repr

/-- Visit broadcasts (R74). -/
inductive VisitBroadcast where
  | localRelease | remoteTake
  deriving DecidableEq, Repr

/-- What a frame going out is for: a unit of work with the reply timeout in force when it began, a visit broadcast, or
the controller's own REMOTE_TAKE (R52, R72, R75). -/
inductive Sending where
  | work (w : Work) (timeout : Nat)
  | visit (b : VisitBroadcast)
  | ownTake
  deriving DecidableEq, Repr

/-- The controller's state (R52). A `due` that is absent means the interval is stopped: a reply has begun, or a stray
frame is arriving. -/
inductive BusCtl where
  | settling (due : Option Moment)
  | idle
  | sending (what : Sending)
  | awaiting (t : Transaction) (due : Option Moment)
  | streaming (b : BlockRead) (timeout : Nat) (words : List Nat) (due : Option Moment)
  | slots (next : Fin 30) (present attention : Word)
  | draining (interval : Nat) (due : Option Moment)
  deriving DecidableEq, Repr

/-- Bus state codes (11.8). -/
def BusCtl.code : BusCtl → Nat
  | .settling _ => 0 | .idle => 1 | .sending _ => 2 | .awaiting _ _ => 3 | .streaming _ _ _ _ => 4
  | .slots _ _ _ => 5 | .draining _ _ => 6

/-- A record of the station table (R66). -/
structure Station where
  state : StationState
  silences : Nat
  attention : Bool
  status : Option (BitVec 8)
  garbles : Nat
  lastReply : Stamp
  deriving DecidableEq, Repr

/-- The seven bus counts (R71). -/
structure BusCounts where
  frames : Word
  good : Word
  silent : Word
  garbled : Word
  odd : Word
  stray : Word
  rollCalls : Word
  deriving DecidableEq, Repr

/-- The Instrument Bus Controller. -/
structure Bus where
  ctl : BusCtl
  waiting : Option Work
  visitPending : Option VisitBroadcast
  strayArriving : Bool
  stations : Vector Station 30
  counts : BusCounts
  deriving DecidableEq, Repr

/-! ## Watch Unit (R78–R101) -/

/-- A watch's state (R79). -/
structure Watch where
  armed : Bool
  grade : Grade
  cand : Option Grade
  pcount : Nat
  lastRaw : Int
  eng : Int
  smooth : Int
  clamp : Bool
  restart : Bool
  samples : Nat
  lastEval : Stamp
  mark : Option Moment
  deriving DecidableEq, Repr

/-- A watch's definition, as read from its five words (R78, 11.5). -/
structure WatchDef where
  signedRaw : Bool
  scale : Int
  shift : Nat
  offset : Int
  k : Nat
  lowCrit : Int
  lowWarn : Int
  highWarn : Int
  highCrit : Int
  hyst : Nat
  persist : Nat
  fresh : Nat
  worsen : Nat
  classes : Nat
  deriving DecidableEq, Repr

/-! ## Collection Unit (R102–R122) -/

/-- The collection state; FILLING with its index and age start (R106). -/
inductive CollState where
  | between
  | filling (index : Fin 16) (ageStart : Moment)
  | starved
  deriving DecidableEq, Repr

/-- Collection state codes (11.8). -/
def CollState.code : CollState → Nat
  | .between => 0 | .filling _ _ => 1 | .starved => 2

/-- The Collection Unit (R106), with its own copies of the filling segment's header fields. -/
structure Coll where
  st : CollState
  next : Fin 16
  nextSeq : BitVec 16
  recs : Nat
  used : Nat
  opened : Stamp
  seq : BitVec 16
  route : BitVec 16
  hut : BitVec 12
  drops : Nat
  firstDrop : Stamp
  lastDrop : Stamp
  offered : Word
  written : Word
  dropped : Word
  deriving DecidableEq, Repr

/-! ## Contact Input Unit (R123–R141) -/

/-- A debounce window or a first window in progress, with its end (R125, R126). -/
inductive Window where
  | none
  | debounce (due : Moment)
  | first (due : Moment)
  deriving DecidableEq, Repr

/-- A contact input (R124, R125, R130, R132). `raw` is the level on the pin, high or low; `level` is the debounced
level, active or not; the held flags stand in the status word (R124). -/
structure Input where
  raw : Bool
  level : Bool
  settled : Bool
  stalled : Bool
  count : Nat
  period : Nat
  actCap : Stamp
  relCap : Stamp
  window : Window
  lastEdge : Option Moment
  stallFrom : Option Moment
  deriving DecidableEq, Repr

/-- The visit machine (R135). `input` is the input whose event began the visit (log 7). -/
structure Visit where
  state : VisitState
  begin : Stamp
  input : Fin 16
  endDue : Option Moment
  deriving DecidableEq, Repr

/-! ## Duty Controller (R142–R160) -/

/-- A fan channel (R144). The failed flag is set exactly while the burst state is FAILED; `handed` is a burst start a
tick has handed over (R150). -/
structure Channel where
  mode : ChannelMode
  manual : Nat
  target : Nat
  output : Nat
  stalled : Bool
  burst : BurstState
  used : Nat
  handed : Bool
  deriving DecidableEq, Repr

/-- The Duty Controller: four channels and the shed level (R144, R157). -/
structure Duty where
  channels : Vector Channel 4
  shed : ShedLevel
  deriving DecidableEq, Repr

end Sys2Proof.Machine
end

