-- ==== Sys2Proof/Machine/Defaults.lean ====
section
/-! DEFINITION. The built-in default settings (the settings tables of chapters 2 to 10, and 11.3). -/

namespace Sys2Proof.Machine

/-- Built-in defaults of a contact input (R123). -/
def builtInInput : InputSettings where
  enabled := false
  activeLow := false
  debounce := 20
  recordEdges := ⟨false, false⟩
  wakeEdges := ⟨false, false⟩
  triggerList := none
  triggerEdge := ⟨true, false⟩
  firstHold := false
  tach := false
  stallTime := 100

/-- Built-in defaults of a fan channel (R142). -/
def builtInChannel : ChannelSettings where
  source := none
  start := 0
  slope := 0
  minimum := 0
  step := 255
  fallback := 255
  ramp := false
  tach := none

/-- The built-in default settings (R31, R72, R102, R103, R123, R134, R142, R143, R166, R167, R194). -/
def builtInSettings : Settings where
  retrySpacing := 10
  replyTimeout := 3
  lostLimit := 3
  attention := Vector.replicate 30 none
  base := 0x2000
  count := 8
  size := 3072
  closeAge := 600
  timers := Vector.replicate 4 0
  sweepPeriod := 20
  wakeMask := 0x7FF
  survivalMask := 0x7C4
  visitInput := none
  endDelay := 30
  visitList := none
  economyCap := 160
  survivalCap := 96
  shedWatch := none
  channels := Vector.replicate 4 builtInChannel
  inputs := Vector.replicate 16 builtInInput

/-- The 64 words that the built-in defaults write into the settings block, from 0000H up (R191, 11.3). -/
def builtInBlock : List Word :=
  [0x0014330A] ++ List.replicate 8 0xFFFFFFFF ++ [0x00082000, 0x02580C00, 0, 0, 0x07C407FF, 0x00FF1EFF, 0x00FF60A0]
    ++ (List.replicate 4 [0x000000FF, 0xFFFF0000, 0x0000FF00]).flatten ++ List.replicate 16 0x6414FD00
    ++ List.replicate 20 0

/-- A timer's units of 10 ms, in units of the elapsed-time base (R164). -/
def tens (n : Nat) : Moment := 1000 * n

/-- Milliseconds in units of the elapsed-time base (R164). -/
def millis (n : Nat) : Moment := 100 * n

/-- Seconds in units of the elapsed-time base (R164). -/
def seconds (n : Nat) : Moment := 100000 * n

end Sys2Proof.Machine
end

