-- ==== Sys2Proof/Machine/State.lean ====
section
/-! DEFINITION. The state of the H40, the reasons a command could stop, and the state after a power-on reset. -/

namespace Sys2Proof.Machine

/-- Everything the manual gives the part, and three fields of the model's own: the queue of commands `pending`, the
word last given to the host `hostData`, and the count of free values used `freeIdx`. -/
structure State where
  pending : List Instr
  mem : Memory
  hostData : Word
  power : Power
  settings : Settings
  refused : Nat
  time : TimeBase
  wake : WakeUnit
  ident : IdentStore
  req : RequestTable
  engine : Engine
  bus : Bus
  watches : Vector Watch 64
  coll : Coll
  inputs : Vector Input 16
  visit : Visit
  duty : Duty
  freeIdx : Nat
  deriving DecidableEq, Repr

/-- No command of the H40 ends in a fault: each has an effect, or is ignored or discarded (R188, R189, R198), and every
failure the manual names is an outcome, a result code or a record. Nothing raises one. -/
inductive Fault where
  deriving DecidableEq, Repr

/-- Why a command has no meaning. -/
inductive Refusal where
  /-- Raised by an arm of `exec` whose command has no meaning yet. Safe. -/
  | notModelled (mnemonic : String)
  deriving DecidableEq, Repr

namespace State

/-- A watch after a power-on reset (R101). -/
def resetWatch : Watch where
  armed := false
  grade := .unrated
  cand := none
  pcount := 0
  lastRaw := 0
  eng := 0
  smooth := 0
  clamp := false
  restart := true
  samples := 0
  lastEval := 0
  mark := none

/-- A station record after any reset (R77). -/
def resetStation : Station where
  state := .unknown
  silences := 0
  attention := false
  status := none
  garbles := 0
  lastReply := 0

/-- A contact input, disabled by the built-in defaults, after a power-on reset (R123, R139). The raw level low is a
DESIGN CHOICE (log 4). Unsafe. -/
def resetInput : Input where
  raw := false
  level := false
  settled := false
  stalled := false
  count := 0
  period := 0
  actCap := 0
  relCap := 0
  window := .none
  lastEdge := none
  stallFrom := none

/-- A fan channel after a power-on reset (R159). -/
def resetChannel : Channel where
  mode := .adaptive
  manual := 0
  target := 255
  output := 255
  stalled := false
  burst := .none
  used := 0
  handed := false

/-- The words of exchange memory that are not 0 after a power-on reset, by ascending address: the default settings
(R191), the station mirrors (R77, log 12), the collection mirror (R106, R122), the channel mirrors (R144, R159), the watch
state words (R101), and segment 0 with the RESTART record (R122). -/
def resetWords : List (Nat × Word) :=
  builtInBlock.zipIdx.map (fun p => (p.2, p.1))
    ++ (List.range 30).map (fun n => (0x5E + 2 * n, pack [(8, 0), (8, 255)]))
    ++ [(0x9A, pack [(2, 1), (5, 0), (4, 1), (16, 1)]), (0x9B, pack [(14, 1), (15, 3)]), (0xA0, 1), (0xA1, 1)]
    ++ ((List.range 4).map fun c => [(0xA3 + 2 * c, pack [(2, 2), (15, 0), (8, 255)]), (0xA4 + 2 * c, 255)]).flatten
    ++ (List.range 64).map (fun n => (0x205 + 9 * n, pack [(4, 0), (3, 7), (7, 0), (1, 1)]))
    ++ [(0x2000, 1), (0x2001, pack [(14, 1), (15, 3)]), (0x2005, pack [(8, 18), (9, 3)])]

/-- The machine right after a power-on reset, at the moment from which the manual counts "after the reset": READY set,
the built-in settings in force, RESTART pending and its record written (R190, R191, R195, R122; log 2). Fields the manual
gives no value are named in log 4. -/
def reset : State where
  pending := []
  mem := (resetWords.map fun p => wordCells p.1 p.2).flatten
  hostData := 0
  power := { phase := .ready, pin := false, cause := .powerOn, deferred := none }
  settings := builtInSettings
  refused := 0
  time :=
    { base := 0, msMoment := 0, timestamp := 0, wrapCount := 0, surveyDue := Vector.replicate 4 none
      series := Vector.replicate 4 []
      sweepDue := tens 20, rampDue := millis 100, watchDue := seconds 1, checked := 0 }
  wake := { pending := 0x400, line := true }
  ident := { routeCell := 0, hutCell := 0, marker := false, programming := none }
  req := { sweep := none, sweepPending := false, sweepCount := 0, current := none, inflight := [] }
  engine := { mode := .idle, queue := [], ctx := none, holds := 0, cuts := 0, completed := 0 }
  bus :=
    { ctl := .settling (some (millis 15)), waiting := none, visitPending := none, strayArriving := false
      stations := Vector.replicate 30 resetStation
      counts := { frames := 0, good := 0, silent := 0, garbled := 0, odd := 0, stray := 0, rollCalls := 0 } }
  watches := Vector.replicate 64 resetWatch
  coll :=
    { st := .filling 0 0, next := 1, nextSeq := 1, recs := 1, used := 3, opened := 0, seq := 0, route := 0, hut := 0
      drops := 0, firstDrop := 0, lastDrop := 0, offered := 1, written := 1, dropped := 0 }
  inputs := Vector.replicate 16 resetInput
  visit := { state := .off, begin := 0, input := 0, endDue := none }
  duty := { channels := Vector.replicate 4 resetChannel, shed := .none }
  freeIdx := 0

end State

end Sys2Proof.Machine
end

