-- ==== Sys2Proof/Machine/Ops.lean ====
section
/-! DEFINITION. The named operations over State: one setter for each unit, exchange memory, time, and the mirrors that the
blocks keep in the status block (11.4). -/

namespace Sys2Proof.Machine.State

/-! ## Setters, one for each field of State -/

/-- `s` with `pending` replaced. -/
def setPending (s : State) (q : List Instr) : State := { s with pending := q }

/-- `s` with `mem` replaced. -/
def setMem (s : State) (m : Memory) : State := { s with mem := m }

/-- `s` with `hostData` replaced. -/
def setHostData (s : State) (v : Word) : State := { s with hostData := v }

/-- `s` with `power` replaced. -/
def setPower (s : State) (p : Power) : State := { s with power := p }

/-- `s` with `settings` replaced. -/
def setSettings (s : State) (g : Settings) : State := { s with settings := g }

/-- `s` with `refused` replaced. -/
def setRefused (s : State) (n : Nat) : State := { s with refused := n }

/-- `s` with `time` replaced. -/
def setTime (s : State) (t : TimeBase) : State := { s with time := t }

/-- `s` with `wake` replaced. -/
def setWake (s : State) (w : WakeUnit) : State := { s with wake := w }

/-- `s` with `ident` replaced. -/
def setIdent (s : State) (d : IdentStore) : State := { s with ident := d }

/-- `s` with `req` replaced. -/
def setReq (s : State) (r : RequestTable) : State := { s with req := r }

/-- `s` with `engine` replaced. -/
def setEngine (s : State) (e : Engine) : State := { s with engine := e }

/-- `s` with `bus` replaced. -/
def setBus (s : State) (b : Bus) : State := { s with bus := b }

/-- `s` with `watches` replaced. -/
def setWatches (s : State) (w : Vector Watch 64) : State := { s with watches := w }

/-- `s` with `coll` replaced. -/
def setColl (s : State) (c : Coll) : State := { s with coll := c }

/-- `s` with `inputs` replaced. -/
def setInputs (s : State) (i : Vector Input 16) : State := { s with inputs := i }

/-- `s` with `visit` replaced. -/
def setVisit (s : State) (v : Visit) : State := { s with visit := v }

/-- `s` with `duty` replaced. -/
def setDuty (s : State) (d : Duty) : State := { s with duty := d }

/-- `s` with `freeIdx` replaced. -/
def setFreeIdx (s : State) (n : Nat) : State := { s with freeIdx := n }

/-! ## Exchange memory (R197) -/

/-- The part reads word `a` of exchange memory. -/
def peek (s : State) (a : Nat) : Word := readWord s.mem a

/-- The part writes word `a` of exchange memory. -/
def poke (s : State) (a : Nat) (v : Word) : State := s.setMem (writeWord s.mem a v)

/-- The part writes words from `a` up. -/
def pokes (s : State) (a : Nat) (vs : List Word) : State := s.setMem (writeWords s.mem a vs)

/-- The part rewrites a mirror word when what it shows changes ("as it changes": R106, R144). -/
def pokeIf (s : State) (a : Nat) (old new : Word) : State := if old = new then s else s.poke a new

/-! ## READY and time -/

/-- READY is set: no reset is in progress (R188, R190). -/
abbrev ready (s : State) : Prop := s.power.phase = .ready

/-- A command that reaches a part in reset finds every block's work abandoned, and changes nothing (R190). -/
def whenReady (s : State) (f : State → State) : State := if s.ready then f s else s

/-- The moment of the elapsed-time base (R164). -/
def now (s : State) : Moment := s.time.base

/-- The expiry of an interval that ends at `m` is an event once the base has come to `m`; a command that names it earlier
finds the interval running, and changes nothing (R164, log 6). -/
def whenDue (s : State) (m : Moment) (f : State → State) : State := if m ≤ s.now then f s else s

/-- The base advances by `n` units of 10 µs (R164). -/
def elapse (s : State) (n : Nat) : State := s.setTime { s.time with base := s.time.base + n }

/-! ## Mirrors in the status block (11.4) -/

/-- The word at 0040H: engine state, bus state, shed level, visit state, reset cause, settings-refused field. -/
def word40 (s : State) : Word :=
  pack [(2, s.engine.mode.code), (3, s.bus.ctl.code), (2, s.duty.shed.code), (3, s.visit.state.code),
    (2, s.power.cause.code), (8, s.refused)]

/-- The word at 0040H is rewritten. -/
def show40 (s : State) : State := s.poke 0x40 s.word40

/-- The timestamp word is rewritten (R161). -/
def showTimestamp (s : State) : State := s.poke 0x41 s.time.timestamp

/-- The word at 0042H: the wrap count, and the last raise code `code` (11.4). -/
def word42 (s : State) (code : Nat) : Word := pack [(16, s.time.wrapCount), (8, code)]

/-- The wrap count is written to 0042H, the last raise code kept as it is read there (R162, R199, log 20). -/
def showWrapCount (s : State) : State := s.poke 0x42 (s.word42 (field (s.peek 0x42) 16 8))

/-- The sweep count is written (R172). -/
def showSweepCount (s : State) : State := s.poke 0x43 s.req.sweepCount

/-- The lists-completed count is written (R20). -/
def showCompleted (s : State) : State := s.poke 0x44 s.engine.completed

/-- The word at 0045H for a running list (11.4); 0 when none runs (log 13). -/
def runningWord : Option Ctx → Word
  | some c => pack [(5, c.list.val), (3, 0), (4, c.source.code), (3, 0), (1, 1), (16, c.addr)]
  | none => 0

/-- The running list, its source and its step address are written (R14, R15, R20). -/
def showRunning (s : State) : State := s.poke 0x45 (runningWord s.engine.ctx)

/-- A queue entry in 16 bits (11.4). -/
def entryBits (e : QEntry) : Nat := packNat [(5, e.list.val), (2, 0), (1, bit e.urgent), (4, e.source.code)]

/-- The sixteen words of queue entries, two to a word, low half first (11.4); places beyond the count are 0. -/
def queueWords (q : List QEntry) : List Word :=
  (List.range 16).map fun k =>
    pack [(16, (q[2 * k]?.map entryBits).getD 0), (16, (q[2 * k + 1]?.map entryBits).getD 0)]

/-- The snapshot of the run queue: the entries first, the count last (R8). -/
def showQueue (s : State) : State :=
  (s.pokes 0x47 (queueWords s.engine.queue)).poke 0x46 (BitVec.ofNat 32 s.engine.queue.length)

/-- The seven words of the bus counts from 0057H up (11.4). -/
def countWords (c : BusCounts) : List Word := [c.frames, c.good, c.silent, c.garbled, c.odd, c.stray, c.rollCalls]

/-- The word of a station's mirror that carries the state (11.4); an absent status byte is FFH (R199, log 12). -/
def stationWord (t : Station) : Word :=
  pack [(2, t.state.code), (4, t.silences), (1, bit t.attention), (1, bit t.status.isSome),
    (8, optField 8 (t.status.map BitVec.toNat)), (8, t.garbles)]

/-- A station's mirror is written, the state's word last (R66). -/
def showStation (s : State) (i : Fin 30) : State :=
  (s.poke (0x5F + 2 * i.val) s.bus.stations[i].lastReply).poke (0x5E + 2 * i.val) (stationWord s.bus.stations[i])

/-- The filling index of the collection state. -/
def fillIndex (c : Coll) : Option Nat :=
  match c.st with
  | .filling i _ => some i.val
  | .between | .starved => none

/-- The word at 009BH: the filling record count and words used (11.4, R106). -/
def fillingWord (c : Coll) : Word := pack [(14, c.recs), (15, c.used)]

/-- The filling record count and words used are written. -/
def showFilling (s : State) : State := s.poke 0x9B (fillingWord s.coll)

/-- The nine words of the Collection Unit's mirror from 009AH up (11.4, R106). -/
def collWords (c : Coll) : List Word :=
  [pack [(2, c.st.code), (5, optField 5 (fillIndex c)), (4, c.next.val), (16, c.nextSeq.toNat)],
    fillingWord c, c.opened, BitVec.ofNat 32 c.drops, c.firstDrop, c.lastDrop, c.offered, c.written,
    c.dropped]

/-- Mirror words from `a` up are rewritten where what they show changed. -/
def pokeChanged (s : State) (a : Nat) : List Word → List Word → State
  | o :: os, n :: ns => pokeChanged (s.pokeIf a o n) (a + 1) os ns
  | [], _ => s
  | _ :: _, [] => s

/-- The Collection Unit's items that changed since `old` are mirrored, records offered last (R106, R112, R197). The filling
record count and words used are mirrored where they change, with each record (`putRecord`); no other item changes twice within
one offer. -/
def showColl (s : State) (old : Coll) : State :=
  (((s.pokeChanged 0x9A ((collWords old).take 1) ((collWords s.coll).take 1)).pokeChanged 0x9C
      (((collWords old).drop 2).take 4) (((collWords s.coll).drop 2).take 4)).pokeChanged 0xA1 [old.written, old.dropped]
    [s.coll.written, s.coll.dropped]).pokeIf 0xA0 old.offered s.coll.offered

/-- The whole mirror of the Collection Unit is written, records offered last (R106, R112, R197). -/
def writeColl (s : State) : State :=
  ((s.pokes 0x9A ((collWords s.coll).take 6)).pokes 0xA1 [s.coll.written, s.coll.dropped]).poke 0xA0 s.coll.offered

/-- The word of a channel's mirror that holds all but the output (11.4). -/
def channelWord (c : Channel) : Word :=
  pack [(2, c.mode.code), (3, c.burst.code), (2, c.used), (1, bit c.stalled), (1, bit (decide (c.burst = .failed))),
    (8, c.manual), (8, c.target)]

/-- A channel is given its new state, and what changed of it is mirrored, the output last (R144). -/
def setChannel (s : State) (c : Fin 4) (ch : Channel) : State :=
  let old := s.duty.channels[c]
  ((s.setDuty { s.duty with channels := s.duty.channels.set c ch }).pokeIf (0xA3 + 2 * c.val) (channelWord old)
      (channelWord ch)).pokeIf (0xA4 + 2 * c.val) (BitVec.ofNat 32 old.output) (BitVec.ofNat 32 ch.output)

/-- The word at 00ABH: route code, hut number, identity programmed (11.4, R196); an unprogrammed store gives 0 and 0. -/
def identWord (d : IdentStore) : Word :=
  if d.marker then pack [(16, d.routeCell.toNat), (12, d.hutCell.toNat), (1, 1)] else 0

/-- The identity is written to the status block (R196). -/
def showIdent (s : State) : State := s.poke 0xAB (identWord s.ident)

/-! ## Small setters that mirror -/

/-- `t` is `s` after a change; the word at 0040H is rewritten where what it shows changed. -/
def reshow40 (t s : State) : State := if t.word40 = s.word40 then t else t.show40

/-- The engine state changes, and its mirror with it (1.4). -/
def setMode (s : State) (m : EngineMode) : State := (s.setEngine { s.engine with mode := m }).reshow40 s

/-- The run queue changes, and a snapshot is written (R8). -/
def setQueue (s : State) (q : List QEntry) : State := (s.setEngine { s.engine with queue := q }).showQueue

/-- The list context is replaced; 0045H is written where R14, R15 and R20 say. -/
def setCtx (s : State) (c : Option Ctx) : State := s.setEngine { s.engine with ctx := c }

/-- The controller's state changes, and its mirror with it (R52). -/
def setCtl (s : State) (c : BusCtl) : State := (s.setBus { s.bus with ctl := c }).reshow40 s

/-- A station's record changes, and its mirror with it (R66). That both words of the mirror are written at each event, also
where it leaves the record as it was, is a DESIGN CHOICE (log 34). -/
def setStation (s : State) (i : Fin 30) (t : Station) : State :=
  (s.setBus { s.bus with stations := s.bus.stations.set i t }).showStation i

/-- The bus counts change, and are written to the status block as they change (R71). -/
def setCounts (s : State) (c : BusCounts) : State :=
  (s.setBus { s.bus with counts := c }).pokeChanged 0x57 (countWords s.bus.counts) (countWords c)

/-- The visit state changes, mirrored in the status block (R135). -/
def setVisitState (s : State) (v : Visit) : State := (s.setVisit v).reshow40 s

/-- A watch's state is replaced. -/
def setWatchAt (s : State) (n : Fin 64) (w : Watch) : State := s.setWatches (s.watches.set n w)

/-- A contact input's state is replaced. -/
def setInputAt (s : State) (i : Fin 16) (x : Input) : State := s.setInputs (s.inputs.set i x)

/-- A free value is drawn: the counter moves on, so that the next one is another (log 5). -/
def drawFree (s : State) : State := s.setFreeIdx (s.freeIdx + 1)

end Sys2Proof.Machine.State
end

