-- ==== Sys2Proof/Machine/Flags.lean ====
section
/-! DEFINITION. The Wake Unit: pending causes, the mask in force and the wake line (R193, R194). -/

namespace Sys2Proof.Machine.State

/-- The bit of a cause. -/
def causeBit (c : WakeCause) : BitVec 11 := BitVec.ofNat 11 (2 ^ c.index)

/-- The mask in force: the survival mask in SURVIVAL, otherwise the wake enable mask (R194). -/
def maskInForce (s : State) : BitVec 11 :=
  match s.duty.shed with
  | .survival => s.settings.survivalMask
  | .none | .economy => s.settings.wakeMask

/-- Whether pending causes share a cause with the mask in force (R194). -/
def lineAsserted (s : State) : Bool := decide (s.wake.pending &&& s.maskInForce ≠ 0)

/-- The wake line is judged afresh (R194). -/
def judge (s : State) : State := s.setWake { s.wake with line := s.lineAsserted }

/-- A cause is raised: added to the pending set, and the line judged (R193, R194). -/
def raiseCause (s : State) (c : WakeCause) : State :=
  (s.setWake { s.wake with pending := s.wake.pending ||| causeBit c }).judge

/-- Causes are cleared: each cause whose bit is 1 leaves the set, and the line is judged (R193). -/
def clearCauses (s : State) (v : BitVec 11) : State :=
  (s.setWake { s.wake with pending := s.wake.pending &&& ~~~v }).judge

end Sys2Proof.Machine.State
end

