-- ==== Sys2Proof/Machine/Operands.lean ====
section
/-! DEFINITION. What the part reads from exchange memory: step records, request slots, directory entries, watch
definitions and the settings block (11.3, 11.5, 11.6), with every check the manual makes of them. -/

namespace Sys2Proof.Machine

/-! ## Directory entries (R1, 11.5) -/

/-- The address of a directory entry. -/
def dirAddr (l : Fin 32) : Nat := 0x180 + 4 * l.val

/-- The host fields of a directory entry (R1). -/
structure DirEntry where
  enabled : Bool
  urgent : Bool
  sheddable : Bool
  endRecord : Bool
  timers : Nat
  start : Nat
  deriving DecidableEq, Repr

/-- The directory entry of a list, as it stands in exchange memory (R2). -/
def readDir (m : Memory) (l : Fin 32) : DirEntry where
  enabled := bitOf (readWord m (dirAddr l)) 0
  urgent := bitOf (readWord m (dirAddr l)) 1
  sheddable := bitOf (readWord m (dirAddr l)) 2
  endRecord := bitOf (readWord m (dirAddr l)) 3
  timers := field (readWord m (dirAddr l)) 4 4
  start := field (readWord m (dirAddr l + 1)) 0 16

/-! ## Request slots (R170, 11.5) -/

/-- The address of a request slot. -/
def slotAddr (n : Fin 16) : Nat := 0x100 + 8 * n.val

/-- The state of a slot: FREE 0, POSTED 1, TAKEN 2, DONE 3, FAILED 4 (R170). -/
def slotState (m : Memory) (n : Fin 16) : Nat := field (readWord m (slotAddr n)) 0 3

/-- The kind code of a slot. -/
def slotKind (m : Memory) (n : Fin 16) : Nat := field (readWord m (slotAddr n + 1)) 0 8

/-- The wake flag of a slot. -/
def slotWake (m : Memory) (n : Fin 16) : Bool := bitOf (readWord m (slotAddr n + 1)) 8

/-- The copy of a request that the table reads when it takes the slot (R170, R174). -/
def slotCopy (m : Memory) (n : Fin 16) (k : ReqKind) : Taken where
  slot := n
  kind := k
  wake := slotWake m n
  p1 := readWord m (slotAddr n + 2)
  p2 := readWord m (slotAddr n + 3)
  p3 := readWord m (slotAddr n + 4)
  p4 := readWord m (slotAddr n + 5)

/-- The number of the first parameter word that is out of its range (R177, R178). -/
def badParameter (r : Taken) : Option Nat :=
  match r.kind with
  | .listRun | .listCut => if 31 < r.p1.toNat then some 1 else none
  | .watchArm | .watchDisarm | .watchFeed => if 63 < r.p1.toNat then some 1 else none
  | .dutySet => if 3 < r.p1.toNat then some 1 else if 2 < r.p2.toNat then some 2 else none
  | .stationForget => if 30 < r.p1.toNat then some 1 else none
  | .identProgram => if 65535 < r.p1.toNat then some 1 else if 4095 < r.p2.toNat then some 2 else none
  | .settingsApply | .engineHold | .engineResume | .collectionClose | .collectionRestart | .timeSet => none

/-! ## Step records (R15, R28, 11.6) -/

/-- The kind of the step at an address: none where the address is past the list area, the kind code is not a step
kind, or the step's words would pass 1FFFH (R15). -/
def stepKindAt (m : Memory) (a : Nat) : Option StepKind :=
  match StepKind.ofCode (field (readWord m a) 0 8) with
  | some k => if a + k.words ≤ 0x2000 then some k else none
  | none => none

/-- The station field: 1–30 (R28). -/
def stationField (w : Word) : Option (Fin 30) :=
  if h : 1 ≤ field w 8 5 ∧ field w 8 5 ≤ 30 then some ⟨field w 8 5 - 1, by omega⟩ else none

/-- The subaddress field. -/
def subField (w : Word) : Fin 16 := Fin.ofNat 16 (field w 16 4)

/-- The width field: false for 16, true for 24 (R28). -/
def widthField (w : Word) : Option Bool :=
  match field w 20 2 with
  | 0 => some false
  | 1 => some true
  | _ => none

/-- The ready policy field (R28). -/
def readyField (w : Word) : Option ReadyPolicy :=
  match field w 22 2 with
  | 0 => some .stop
  | 1 => some .pass
  | 2 => some .retry
  | _ => none

/-- The failure policy field (R28). -/
def failureField (w : Word) : Option FailurePolicy :=
  match field w 24 2 with
  | 0 => some .abort
  | 1 => some .continue
  | _ => none

/-- A watch byte: FFH absent, 0–63, and out of range above (R28). -/
def watchByte (v : Nat) : Option (Option (Fin 64)) :=
  if v = 255 then some none else if h : v < 64 then some (some ⟨v, h⟩) else none

/-- The fields of READ, when every check passes (R28). -/
def readFields (w0 w1 : Word) : Option ReadStep := do
  let station ← stationField w0
  let wide ← widthField w0
  let watch ← watchByte (field w1 0 8)
  let ready ← readyField w0
  let failure ← failureField w0
  if ready = .retry ∧ field w0 28 4 = 0 then none else
    some
      { station, sub := subField w0, wide, ready, budget := field w0 28 4, failure, record := bitOf w0 26, watch }

/-- A value of 24 bits that must fit the width (R28). -/
def fits (wide : Bool) (v : Nat) : Bool := wide || decide (v ≤ 65535)

/-- The fields of BLOCK_READ, when every check passes (R28). -/
def blockFields (w0 w1 w2 : Word) : Option BlockStep := do
  let station ← stationField w0
  let wide ← widthField w0
  let ready ← readyField w0
  let failure ← failureField w0
  let count := field w1 0 10
  let terminator := if bitOf w1 31 then some (field w2 0 24) else none
  if ready = .retry ∨ count = 0 ∨ 256 < count ∨ ¬ terminator.all (fits wide) then none else
    some { station, sub := subField w0, wide, count, terminator, ready, failure }

/-- The fields of WRITE, when every check passes (R28). -/
def writeFields (w0 w1 : Word) : Option WriteStep := do
  let station ← stationField w0
  let wide ← widthField w0
  let ready ← readyField w0
  let failure ← failureField w0
  if ready = .retry ∨ ¬ fits wide (field w1 0 24) then none else
    some { station, sub := subField w0, wide, value := field w1 0 24, ready, failure }

/-- The fields of CONTROL, when every check passes (R28). -/
def controlFields (w0 : Word) : Option ControlStep := do
  let station ← stationField w0
  let failure ← failureField w0
  some { station, sub := subField w0, controlCode := field w0 28 4, failure }

/-- The fields of CLEAR: none stands for all stations, and the station is then not checked (R28, R41). -/
def clearFields (w0 : Word) : Option (Option (Fin 30)) :=
  if bitOf w0 31 then some none else (stationField w0).map some

/-- The source of SAMPLE_LOCAL (R28, R42). -/
def localSource (w0 : Word) : Option LocalSource :=
  let n := field w0 12 4
  match field w0 8 2 with
  | 0 => if 12 ≤ n then some (.tach (Fin.ofNat 16 n)) else none
  | 1 => if n ≤ 3 then some (.output (Fin.ofNat 4 n)) else none
  | 2 => some (.count (Fin.ofNat 16 n))
  | _ => none

/-- The fields of SAMPLE_LOCAL, when every check passes (R28). -/
def localFields (w0 : Word) : Option LocalStep := do
  let source ← localSource w0
  let watch ← watchByte (field w0 16 8)
  some { source, record := bitOf w0 26, watch }

/-- The count of MARK: not 0 (R28). -/
def markField (w0 : Word) : Option Nat := if field w0 16 8 = 0 then none else some (field w0 16 8)

/-- The time of WAIT: not 0 (R28). -/
def timeField (w0 : Word) : Option Nat := if field w0 16 16 = 0 then none else some (field w0 16 16)

/-- The list of CHAIN: 0–31 (R28). -/
def listField (w0 : Word) : Option (Fin 32) :=
  if h : field w0 16 8 < 32 then some ⟨field w0 16 8, h⟩ else none

/-! ## Watch definitions (R78, 11.5) -/

/-- The address of a watch's entry (4.1). -/
def watchAddr (n : Fin 64) : Nat := 0x200 + 9 * n.val

/-- The definition of a watch as its five words give it (R78, R80). -/
def readDef (m : Memory) (n : Fin 64) : WatchDef :=
  let w0 := readWord m (watchAddr n)
  let w1 := readWord m (watchAddr n + 1)
  let w2 := readWord m (watchAddr n + 2)
  let w3 := readWord m (watchAddr n + 3)
  let w4 := readWord m (watchAddr n + 4)
  { signedRaw := bitOf w3 25, scale := signed 16 (field w0 0 16), shift := field w3 20 5
    offset := signed 16 (field w0 16 16), k := field w3 28 4, lowCrit := signed 16 (field w1 0 16)
    lowWarn := signed 16 (field w1 16 16), highWarn := signed 16 (field w2 0 16)
    highCrit := signed 16 (field w2 16 16), hyst := field w3 0 16, persist := field w3 16 4, fresh := field w4 0 8
    worsen := field w4 8 8, classes := field w4 16 4 }

/-- The number of the first check of a definition that fails (R81). -/
def WatchDef.firstFault (d : WatchDef) : Option Nat :=
  if ¬ (d.lowCrit ≤ d.lowWarn ∧ d.lowWarn ≤ d.highWarn ∧ d.highWarn ≤ d.highCrit) then some 1
  else if 4095 < d.hyst then some 2
  else if d.persist = 0 then some 3
  else if 7 < d.k then some 4
  else if 15 < d.shift then some 5
  else if d.worsen ≠ 255 ∧ 31 < d.worsen then some 6
  else none

/-- The worsen list a definition names (R78). -/
def WatchDef.worsenList (d : WatchDef) : Option (Fin 32) := optByte 32 d.worsen

/-- Whether a grade's class is among the wake classes (R97). -/
def WatchDef.wakes (d : WatchDef) (g : Grade) : Bool := d.classes.testBit g.classBit

/-! ## The settings block (R179, 11.3) -/

/-- The edge set of a 2-bit code: 1 ACTIVATE, 2 RELEASE, 3 both (11.3). -/
def edgeSet (code : Nat) : EdgeSet := ⟨code.testBit 0, code.testBit 1⟩

/-- The settings of input `i` that the block holds (11.3). -/
def blockInput (m : Memory) (i : Fin 16) : InputSettings :=
  let w := readWord m (0x1C + i.val)
  { enabled := bitOf w 0, activeLow := bitOf w 1, debounce := field w 16 8, recordEdges := edgeSet (field w 4 2)
    wakeEdges := edgeSet (field w 6 2)
    triggerList := if field w 10 6 = 63 then none else some (Fin.ofNat 32 (field w 10 6))
    triggerEdge := edgeSet (field w 8 2), firstHold := bitOf w 3, tach := bitOf w 2, stallTime := field w 24 8 }

/-- The settings of channel `c` that the block holds (11.3). -/
def blockChannel (m : Memory) (c : Fin 4) : ChannelSettings :=
  let w0 := readWord m (0x10 + 3 * c.val)
  let w1 := readWord m (0x11 + 3 * c.val)
  let w2 := readWord m (0x12 + 3 * c.val)
  { source := optByte 64 (field w0 0 8), start := signed 16 (field w0 16 16), slope := field w1 0 8
    minimum := field w1 8 8, step := field w1 16 8, fallback := field w1 24 8, ramp := bitOf w2 0
    tach := optByte 16 (field w2 8 8) }

/-- The byte that names the attention list of station `i + 1` (11.3). -/
def attentionByte (m : Memory) (i : Fin 30) : Nat := field (readWord m (1 + i.val / 4)) (8 * (i.val % 4)) 8

/-- The settings that the settings block holds; they mean something when the block passes its checks (R179). -/
def blockSettings (m : Memory) : Settings :=
  let w0 := readWord m 0
  let w9 := readWord m 9
  let wA := readWord m 0xA
  let wD := readWord m 0xD
  let wE := readWord m 0xE
  let wF := readWord m 0xF
  { retrySpacing := field w0 0 8, replyTimeout := field w0 8 4, lostLimit := field w0 12 4
    attention := Vector.ofFn fun i => optByte 32 (attentionByte m i)
    base := field w9 0 16, count := field w9 16 5, size := field wA 0 16, closeAge := field wA 16 12
    timers := Vector.ofFn fun n => field (readWord m (0xB + n.val / 2)) (16 * (n.val % 2)) 16
    sweepPeriod := field w0 16 8
    wakeMask := BitVec.ofNat 11 (field wD 0 16), survivalMask := BitVec.ofNat 11 (field wD 16 16)
    visitInput := optByte 16 (field wE 0 8), endDelay := field wE 8 8, visitList := optByte 32 (field wE 16 8)
    economyCap := field wF 0 8, survivalCap := field wF 8 8, shedWatch := optByte 64 (field wF 16 8)
    channels := Vector.ofFn (blockChannel m), inputs := Vector.ofFn (blockInput m) }

/-- A byte is FFH or below `n` (R199). -/
def byteInRange (n v : Nat) : Bool := v == 255 || decide (v < n)

/-- The tests of the fields that channel `c` owns, by number (R142, R179). -/
def channelTests (m : Memory) (c : Fin 4) : List (Nat × Bool) :=
  let tach := field (readWord m (0x12 + 3 * c.val)) 8 8
  let named := blockInput m (Fin.ofNat 16 tach)
  [(51 + 8 * c.val, byteInRange 64 (field (readWord m (0x10 + 3 * c.val)) 0 8)),
    (55 + 8 * c.val, decide (1 ≤ field (readWord m (0x11 + 3 * c.val)) 16 8)),
    (58 + 8 * c.val, tach == 255 || (decide (12 ≤ tach ∧ tach ≤ 15) && named.enabled && named.tach))]

/-- The tests of the fields that input `i` owns, by number (R123, R179). -/
def inputTests (m : Memory) (i : Fin 16) : List (Nat × Bool) :=
  let w := readWord m (0x1C + i.val)
  [(88 + 10 * i.val, field w 10 6 == 63 || decide (field w 10 6 < 32)),
    (89 + 10 * i.val, decide (field w 8 2 ≠ 0)),
    (91 + 10 * i.val, !bitOf w 2 || decide (12 ≤ i.val)),
    (92 + 10 * i.val, decide (1 ≤ field w 24 8))]

/-- Every test of the settings block, by ascending field number, with whether it passes (R72, R102, R103, R123, R134,
R142, R143, R166, R167, R179, R194). A field every value of which is in range has no test. -/
def settingsTests (m : Memory) : List (Nat × Bool) :=
  let w0 := readWord m 0
  let base := field (readWord m 9) 0 16
  let count := field (readWord m 9) 16 5
  let size := field (readWord m 0xA) 0 16
  let baseOk := decide (0x2000 ≤ base ∧ base ≤ 0x7ED4)
  let countOk := decide (1 ≤ count ∧ count ≤ 16)
  let visit := field (readWord m 0xE) 0 8
  let named := blockInput m (Fin.ofNat 16 visit)
  [(1, decide (1 ≤ field w0 0 8)), (2, decide (1 ≤ field w0 8 4)), (3, decide (1 ≤ field w0 12 4))]
    ++ (List.finRange 30).map (fun i => (4 + i.val, byteInRange 32 (attentionByte m i)))
    ++ [(34, baseOk), (35, countOk),
      (36, decide (300 ≤ size ∧ size ≤ 24576) && (!(baseOk && countOk) || decide (base + count * size ≤ 0x8000))),
      (37, decide (field (readWord m 0xA) 16 12 ≤ 3600)), (42, decide (1 ≤ field w0 16 8)),
      (43, decide (field (readWord m 0xD) 0 16 < 2048)), (44, decide (field (readWord m 0xD) 16 16 < 2048)),
      (45, visit == 255 || (decide (visit < 16) && named.enabled && !named.tach)),
      (47, byteInRange 32 (field (readWord m 0xE) 16 8)), (50, byteInRange 64 (field (readWord m 0xF) 16 8))]
    ++ ((List.finRange 4).map (channelTests m)).flatten
    ++ ((List.finRange 16).map (inputTests m)).flatten

/-- The number of the first bad field of the settings block (R179). -/
def firstBadField (m : Memory) : Option Nat := ((settingsTests m).find? fun p => !p.2).map Prod.fst

end Sys2Proof.Machine
end

