-- ==== Sys2Proof/Machine/Collection.lean ====
section
/-! DEFINITION. The Collection Unit: records, the offer rule, opening, closing, loss and restart (chapter 5, 11.7). -/

namespace Sys2Proof.Machine

/-- The length of a record in words: header, timestamp and payload (R105). -/
def Record.length (r : Record) : Nat := 2 + r.payload.length

/-- The record header word (11.7). -/
def Record.header (r : Record) : Word := pack ([(8, r.kind.code), (9, r.length)] ++ r.flags)

/-- Header word 0 of a segment: state and hut number (11.7). -/
def segWord0 (state : Nat) (hut : BitVec 12) : Word := pack [(2, state), (14, 0), (12, hut.toNat)]

/-- Header word 1 of a segment: record count, words used, close reason (11.7). -/
def segWord1 (recs used reason : Nat) : Word := pack [(14, recs), (15, used), (3, reason)]

/-- Header word 2 of a segment: sequence number and route code (11.7). -/
def segWord2 (seq route : BitVec 16) : Word := pack [(16, seq.toNat), (16, route.toNat)]

/-- The OVERRUN record of a loss episode (R111). -/
def overrunRecord (c : Coll) : Record where
  kind := .overrun
  payload := [BitVec.ofNat 32 c.drops, c.firstDrop, c.lastDrop]

namespace State

/-- The address of segment `i` of the geometry in force (R102). -/
def segAddr (s : State) (i : Nat) : Nat := s.settings.base + i * s.settings.size

/-- The state field of a segment's header: EMPTY 0, FILLING 1, CLOSED 2 (R104). -/
def segState (s : State) (i : Nat) : Nat := field (s.peek (s.segAddr i)) 0 2

/-- The route code the Identity Store gives a reader (R196). -/
def routeCode (s : State) : BitVec 16 := if s.ident.marker then s.ident.routeCell else 0

/-- The hut number the Identity Store gives a reader (R196). -/
def hutNumber (s : State) : BitVec 12 := if s.ident.marker then s.ident.hutCell else 0

/-- A record is written whole into segment `i`, directly after the last record, and the header's record count and words
used follow, with their mirror (R106, R107). -/
def putRecord (s : State) (i : Fin 16) (r : Record) : State :=
  let at_ := s.segAddr i.val
  let recs := s.coll.recs + 1
  let used := s.coll.used + r.length
  (((s.pokes (at_ + 5 + s.coll.used) (r.header :: s.time.timestamp :: r.payload)).poke (at_ + 1)
    (segWord1 recs used 0)).setColl { s.coll with recs, used, written := s.coll.written + 1 }).showFilling

/-- The segment at the next index, found EMPTY, is opened: its header is written, the state FILLING last (R109). -/
def openNext (s : State) : State :=
  let i := s.coll.next
  let at_ := s.segAddr i.val
  ((s.pokes (at_ + 1) [segWord1 0 0 0, segWord2 s.coll.nextSeq s.routeCode, s.time.timestamp, 0]).poke at_
    (segWord0 1 s.hutNumber)).setColl
    { s.coll with
      st := .filling i s.now, next := Fin.ofNat 16 ((i.val + 1) % s.settings.count), nextSeq := s.coll.nextSeq + 1
      recs := 0, used := 0, opened := s.time.timestamp, seq := s.coll.nextSeq, route := s.routeCode, hut := s.hutNumber }

/-- After an open, a loss episode with drops is accounted for by an OVERRUN record, counted in records offered and
written, and cleared (R109, R111). -/
def accountLoss (s : State) (i : Fin 16) : State :=
  if s.coll.drops = 0 then s
  else
    let s := s.putRecord i (overrunRecord s.coll)
    s.setColl { s.coll with offered := s.coll.offered + 1, drops := 0, firstDrop := 0, lastDrop := 0 }

/-- An offered record is dropped: counted, its time kept in the loss episode, and OVERRUN raised at the episode's first
drop; the collection starves (R108, R110). -/
def dropRecord (s : State) : State :=
  let c := s.coll
  let first := if c.drops = 0 then s.time.timestamp else c.firstDrop
  let s := s.setColl
    { c with
      st := .starved, dropped := c.dropped + 1, drops := satInc 4294967295 c.drops, firstDrop := first
      lastDrop := s.time.timestamp }
  if c.drops = 0 then s.raiseCause .overrun else s

/-- The next segment is tried: opened if EMPTY, and otherwise the unit starves and drops the record (R108, R109). -/
def tryNext (s : State) (r : Record) : State :=
  let i := s.coll.next
  if s.segState i.val = 0 then (s.openNext.accountLoss i).putRecord i r else s.dropRecord

/-- The filling segment `i` is closed: every header word is written from the unit's own copies, the state CLOSED last, and
CLOSED is raised (R113). -/
def closeAt (s : State) (i : Fin 16) (reason : CloseReason) : State :=
  let c := s.coll
  let at_ := s.segAddr i.val
  (((s.pokes (at_ + 1) [segWord1 c.recs c.used reason.code, segWord2 c.seq c.route, c.opened, s.time.timestamp]).poke at_
    (segWord0 2 c.hut)).setColl { c with st := .between }).raiseCause .closed

/-- A record is taken by the collection state (R107). -/
def placeRecord (s : State) (r : Record) : State :=
  match s.coll.st with
  | .filling i _ =>
    if r.length + s.coll.used ≤ s.settings.size - 5 then s.putRecord i r else (s.closeAt i .full).tryNext r
  | .between | .starved => s.tryNext r

/-- The offer rule: records offered is incremented, and the unit acts by its collection state (R107, R112). -/
def offer (s : State) (r : Record) : State :=
  ((s.setColl { s.coll with offered := s.coll.offered + 1 }).placeRecord r).showColl s.coll

/-- The filling segment, if there is one, is closed (R113, R116). -/
def closeFilling (s : State) (reason : CloseReason) : State :=
  match s.coll.st with
  | .filling i _ => (s.closeAt i reason).showColl s.coll
  | .between | .starved => s

/-- The filling segment closes AGE where the close age in force is above 0 and has elapsed (R103, R114). -/
def closeByAge (s : State) : State :=
  match s.coll.st with
  | .filling _ start =>
    if 0 < s.settings.closeAge ∧ start + seconds s.settings.closeAge ≤ s.now then s.closeFilling .age else s
  | .between | .starved => s

/-- The header of segment `i` is written EMPTY, every other field 0, the state last (R119, R197). -/
def emptyHeader (s : State) (i : Nat) : State := (s.pokes (s.segAddr i + 1) (List.replicate 4 0)).poke (s.segAddr i) 0

/-- Every segment header of the geometry in force is emptied, in ascending index (R119). -/
def emptyHeaders (s : State) : State := (List.range s.settings.count).foldl emptyHeader s

/-- A collection restart under the geometry in force (R119, R120). -/
def restartCollection (s : State) : State :=
  (s.emptyHeaders.setColl
    { s.coll with st := .between, next := 0, nextSeq := 0, drops := 0, firstDrop := 0, lastDrop := 0 }).showColl s.coll

end State

/-- CLOSE_AGE_EXPIRY: the filling segment closes AGE where a close age above 0 has elapsed since its age start. An expiry that
finds the segment it was for closed already finds a younger one, or none, and closes nothing (R103, R114). -/
def execCloseAgeExpiry (s : State) : Host.Outcome State Fault Refusal := .next (s.whenReady State.closeByAge)

end Sys2Proof.Machine
end

