-- ==== Sys2Proof/Machine/Requests.lean ====
section
/-! DEFINITION. The Request Table: completing, detaching, taking and sweeping (R171–R177). -/

namespace Sys2Proof.Machine.State

/-- A request completes: if its slot reads TAKEN, the result code, the result value and the state are written, and REQUEST
is raised where its wake flag is set; otherwise the result is discarded (R175). -/
def completeSlot (s : State) (slot : Fin 16) (wake : Bool) (r : Result) (value : Word) : State :=
  if slotState s.mem slot = 2 then
    let a := slotAddr slot
    let s := ((s.poke (a + 6) (BitVec.ofNat 32 r.code)).poke (a + 7) value).poke a (if r = .ok then 3 else 4)
    if wake then s.raiseCause .request else s
  else s

/-- Every request of a kind held in flight completes, one after another in the order taken, each in its own slot
(R175, log 11). -/
def completeHeld (s : State) (k : HeldKind) (r : Result) (value : Word) : State :=
  let mine := s.req.inflight.filter fun e => e.kind = k
  let s := s.setReq { s.req with inflight := s.req.inflight.filter fun e => e.kind ≠ k }
  mine.foldl (fun s e => s.completeSlot e.slot e.wake r value) s

/-- A request becomes held in flight (R174). -/
def holdInFlight (s : State) (r : Taken) (k : HeldKind) : State :=
  s.setReq { s.req with inflight := s.req.inflight ++ [{ slot := r.slot, kind := k, wake := r.wake }] }

/-- An entry of a slot leaves the in-flight set; its request's work goes on (R176). -/
def detach (s : State) (slot : Fin 16) : State :=
  s.setReq { s.req with inflight := s.req.inflight.filter fun e => e.slot ≠ slot }

/-- Whether a slot is held in flight (R173). -/
def heldInFlight (s : State) (slot : Fin 16) : Bool := s.req.inflight.any fun e => e.slot = slot

/-- A sweep request: a sweep begins, or the sweep-pending flag is set (R172). -/
def requestSweep (s : State) : State :=
  match s.req.sweep with
  | none => s.setReq { s.req with sweep := some 0 }
  | some _ => s.setReq { s.req with sweepPending := true }

/-- The examination of a slot is done: the sweep moves to the next slot, or ends; at its end the sweep count rises, and a
pending sweep begins (R172, R173). -/
def advanceSweep (s : State) : State :=
  match s.req.sweep with
  | none => s
  | some k =>
    if h : k.val + 1 < 16 then s.setReq { s.req with sweep := some ⟨k.val + 1, h⟩ }
    else
      (s.setReq
        { s.req with
          sweep := if s.req.sweepPending then some 0 else none, sweepPending := false
          sweepCount := s.req.sweepCount + 1 }).showSweepCount

/-- The request carried out at once is done with, and the sweep moves on (R174). -/
def endExamination (s : State) : State := (s.setReq { s.req with current := none }).advanceSweep

/-- A POSTED slot is taken: an earlier request held in its slot is detached, TAKEN is written, the kind, wake flag and
parameters are read once, and the kind and parameters are checked (R174, R176, R177). -/
def takeSlot (s : State) (k : Fin 16) : State :=
  let code := slotKind s.mem k
  let s := (s.detach k).poke (slotAddr k) 2
  match ReqKind.ofCode code with
  | none => (s.completeSlot k (slotWake s.mem k) .badKind 0).advanceSweep
  | some kind =>
    let r := slotCopy s.mem k kind
    match badParameter r with
    | some n => (s.completeSlot k r.wake .badArgument (BitVec.ofNat 32 n)).advanceSweep
    | none => s.setReq { s.req with current := some r }

/-- The slot whose examination comes next: none while no sweep is in progress, while a request is being carried out, and while
a reset waits, which begins when that request's slot has been completed (R173, R178, R190). That no further slot is examined
before such a reset is a DESIGN CHOICE where R178 is silent (log 31). -/
def nextSlot (s : State) : Option (Fin 16) :=
  if s.req.current.isSome ∨ s.power.deferred.isSome then none else s.req.sweep

/-- The sweep examines the slot it stands at (R173): POSTED is taken; TAKEN and not held in flight completes INTERRUPTED;
any other is passed over. -/
def sweepSlot (s : State) : State :=
  match s.nextSlot with
  | some k =>
    match slotState s.mem k with
    | 1 => s.takeSlot k
    | 2 =>
      if s.heldInFlight k then s.advanceSweep
      else (s.completeSlot k (slotWake s.mem k) .interrupted 0).advanceSweep
    | _ => s.advanceSweep
  | none => s

/-- The kind of the POSTED request the sweep stands at, when its examination comes next. -/
def postedKind (s : State) : Option ReqKind :=
  match s.nextSlot with
  | some k => if slotState s.mem k = 1 then ReqKind.ofCode (slotKind s.mem k) else none
  | none => none

/-- What a request's work answers: the state after it, and a result unless it is held in flight. -/
abbrev Carried := State × Option (Result × Word)

/-- A request of kind `k` is carried out and its slot completed (R174, R175). The request is the one the sweep has taken,
or the POSTED one the sweep stands at, whose examination is then taken whole (R173). A part that is not at such a request
is left as it is (log 10). -/
def carryOut (s : State) (k : ReqKind) (work : Taken → State → Carried) : State :=
  let s := if s.postedKind = some k then s.sweepSlot else s
  match s.req.current with
  | some r =>
    if r.kind = k then
      let (s, result) := work r s
      match result with
      | some (res, value) => (s.completeSlot r.slot r.wake res value).endExamination
      | none => s.endExamination
    else s
  | none => s

end Sys2Proof.Machine.State
end

