-- ==== Sys2Proof/Machine/Engine.lean ====
section
/-! DEFINITION. The Survey Engine: triggers, the run queue, run starts and run ends (chapter 1). -/

namespace Sys2Proof.Machine

/-- The engine's answers to a trigger (R6). -/
inductive Answer where
  | disabled | shed | coalesced | queued
  deriving DecidableEq, Repr

/-- An URGENT entry goes directly after the last URGENT entry, or at the head (R7). -/
def insertUrgent (e : QEntry) : List QEntry → List QEntry
  | [] => [e]
  | x :: xs => if x.urgent || xs.any (·.urgent) then x :: insertUrgent e xs else e :: x :: xs

/-- A new entry is placed by the class it carries (R7). -/
def place (e : QEntry) (q : List QEntry) : List QEntry := if e.urgent then insertUrgent e q else q ++ [e]

/-- The sources a shed level drops for a sheddable list (R5). -/
def ShedLevel.drops (l : ShedLevel) (src : Source) : Bool :=
  match l, src with
  | .none, _ => false
  | .economy, .timer _ => true
  | .economy, _ => false
  | .survival, .requested => false
  | .survival, _ => true

/-- A start address in the list area (R14). -/
abbrev inListArea (a : Nat) : Prop := 0x440 ≤ a ∧ a ≤ 0x1FFF

/-- The LIST_END record of a run (R20, 11.7). -/
def listEndRecord (c : Ctx) (o : ListOutcome) (failing : Option StepOutcome) (addr : Option Nat) : Record where
  kind := .listEnd
  flags := [(3, o.code), (4, optField 4 (failing.map StepOutcome.code)), (1, bit addr.isSome)]
  payload :=
    [pack [(5, c.list.val), (4, c.source.code), (13, c.executed)], pack [(17, optField 17 addr)], c.start]

namespace State

/-! ## Part fields of the directory (R3, 11.4, 11.5) -/

/-- A half of a word is incremented, stopping at 65,535. -/
def bumpHalf (s : State) (a lo : Nat) : State :=
  s.poke a (setField (s.peek a) lo 16 (satInc 65535 (field (s.peek a) lo 16)))

/-- The run count of a list rises (R3). -/
def bumpRunCount (s : State) (l : Fin 32) : State := s.bumpHalf (dirAddr l + 2) 0

/-- The coalesced count of a list rises (R3). -/
def bumpCoalesced (s : State) (l : Fin 32) : State := s.bumpHalf (dirAddr l + 2) 16

/-- The shed-drop count of a list rises; it stands in the status block (R3, 11.4). -/
def bumpShedDrop (s : State) (l : Fin 32) : State := s.bumpHalf (0xAC + l.val / 2) (16 * (l.val % 2))

/-- The last outcome of a list is set; it stands in the status block (R3, 11.4). -/
def setLastOutcome (s : State) (l : Fin 32) (o : ListOutcome) : State :=
  s.poke (0xBC + l.val / 8) (setField (s.peek (0xBC + l.val / 8)) (4 * (l.val % 8)) 4 o.code)

/-! ## Run ends and run starts -/

/-- The run-end actions of R20, but for the engine state's move: the directory part fields, the LIST_END record, the
lists-completed count, the pending cuts, and the context. The lists-completed count goes on from the engine's own copy, also
where the host has written its word: a DESIGN CHOICE (log 20). -/
def finishRun (s : State) (c : Ctx) (o : ListOutcome) (failing : Option StepOutcome) (addr : Option Nat) : State :=
  let s := ((s.bumpRunCount c.list).setLastOutcome c.list o).poke (dirAddr c.list + 3) s.time.timestamp
  let s := if c.endRecord then s.offer (listEndRecord c o failing addr) else s
  let s := (s.setEngine { s.engine with completed := s.engine.completed + 1 }).showCompleted
  let s := s.completeHeld .cut .ok (BitVec.ofNat 32 o.code)
  (s.setEngine { s.engine with ctx := none, cuts := 0 }).showRunning

/-- The head of the queue leaves it, and the context of its run is filled (R14). -/
def startRun (s : State) (e : QEntry) (rest : List QEntry) : State :=
  let s := s.setQueue rest
  let d := readDir s.mem e.list
  ((s.setCtx
    (some
      { list := e.list, source := e.source, endRecord := d.endRecord, addr := d.start, executed := 0, mark := none
        cut := false, start := s.time.timestamp, lastDone := none, phase := .between })).setMode .running).showRunning

/-- Runs start from the head of the queue until one has a start address in the list area or the queue is empty: a run with
another start address ends at once with BAD_STEP (R11, R14). The queue shrinks at each start, so `fuel` above its length is
enough. -/
def startHeads : Nat → State → State
  | 0, s => s
  | fuel + 1, s =>
    match s.engine.queue with
    | [] => s.setMode .idle
    | e :: rest =>
      let t := s.startRun e rest
      match t.engine.ctx with
      | some c =>
        if inListArea c.addr then t else startHeads fuel (t.finishRun c .badStep none (some c.addr))
      | none => t

/-- Heads start as R10 and R11 say. -/
def startNext (s : State) : State := startHeads (s.engine.queue.length + 1) s

/-- The engine state's move at a run's end: HOLDING becomes HELD and the pending holds complete; otherwise the next head
starts, or the engine is IDLE (R11). -/
def leaveRun (s : State) : State :=
  match s.engine.mode with
  | .holding =>
    let s := (s.setEngine { s.engine with holds := 0 }).setMode .held
    s.completeHeld .hold .ok 0
  | .idle | .running | .held => s.startNext

/-- The run ends with an outcome (R11, R19, R20). -/
def endRun (s : State) (o : ListOutcome) (failing : Option StepOutcome) (addr : Option Nat) : State :=
  match s.engine.ctx with
  | some c => (s.finishRun c o failing addr).leaveRun
  | none => s

/-! ## Triggers (R4–R7) and the purge (R9) -/

/-- A trigger is accepted by the first of the four cases that matches; in IDLE a queued list starts (R5, R10). -/
def trigger (s : State) (l : Fin 32) (src : Source) : State × Answer :=
  let d := readDir s.mem l
  if ¬ d.enabled then (s, .disabled)
  else if d.sheddable ∧ s.duty.shed.drops src then (s.bumpShedDrop l, .shed)
  else if s.engine.queue.any (·.list = l) then (s.bumpCoalesced l, .coalesced)
  else
    let t := s.setQueue (place { list := l, urgent := d.urgent, source := src } s.engine.queue)
    (if t.engine.mode = .idle then t.startNext else t, .queued)

/-- A trigger whose answer its source does not use (R6). -/
def offerTrigger (s : State) (l : Fin 32) (src : Source) : State := (s.trigger l src).1

/-- A trigger for a list that may be absent. -/
def offerTriggerTo (s : State) (l : Option (Fin 32)) (src : Source) : State :=
  match l with
  | some l => s.offerTrigger l src
  | none => s

/-- Whether the SURVIVAL purge removes an entry (R9). -/
def purged (m : Memory) (e : QEntry) : Bool := (readDir m e.list).sheddable && decide (e.source ≠ .requested)

/-- The SURVIVAL purge: each removed list's shed-drop count rises, and one snapshot is written (R9). -/
def purge (s : State) : State :=
  let gone := s.engine.queue.filter (purged s.mem)
  let kept := s.engine.queue.filter fun e => !purged s.mem e
  (gone.foldl (fun s e => s.bumpShedDrop e.list) s).setQueue kept

/-! ## Completing a step (R16) -/

/-- What a step's completion says of the run: the run's own outcome with the failing step outcome, or none (R16, case 1). -/
abbrev OwnEnd := Option (ListOutcome × Option StepOutcome)

/-- When a step completes, the engine settles whether the run continues: the step's own outcome, a cut requested, the
runaway guard, or the next step at `next` (R16, R19). -/
def finishStep (s : State) (own : OwnEnd) (next : Nat) : State :=
  match s.engine.ctx with
  | none => s
  | some c =>
    match own with
    | some (o, failing) => s.endRun o failing (if o = .completed then none else some c.addr)
    | none =>
      if c.cut then s.endRun .cut none (some c.addr)
      else if 4096 ≤ c.executed then s.endRun .stepLimit none (some c.addr)
      else s.setCtx (some { c with addr := next, lastDone := some c.addr, phase := .between })

/-- What the policies make of an outcome (R25, R26): NOT_READY stops under STOP, a failure aborts under ABORT. -/
def policyEnd (ready : ReadyPolicy) (failure : FailurePolicy) (o : StepOutcome) : OwnEnd :=
  match o with
  | .done | .held => none
  | .notReady => if ready = .stop then some (.stopped, some .notReady) else none
  | .silent | .refused | .garbled | .odd | .lost => if failure = .abort then some (.aborted, some o) else none

end State

end Sys2Proof.Machine
end

