-- ==== Sys2Proof/Machine/Duty.lean ====
section
/-! DEFINITION. The Duty Controller: targets, ramp, stall episodes and the shed level (chapter 7). -/

namespace Sys2Proof.Machine

/-- The SHED record (R158, 11.7). -/
def shedRecord (old new : ShedLevel) (watch : Option (Fin 64)) (cause : ShedCause) : Record where
  kind := .shed
  payload := [pack [(2, old.code), (2, new.code), (7, optField 7 (watch.map Fin.val)), (2, cause.code)]]

/-- The STALL record (R152, R155, 11.7). -/
def stallRecord (c : Fin 4) (tach : Option (Fin 16)) (e : StallEvent) (used : Nat) : Record where
  kind := .stall
  payload := [pack [(2, c.val), (4, optField 4 (tach.map Fin.val)), (2, e.code), (2, used)]]

/-- The output's move toward the target by the step or the whole distance, whichever is less (R149). -/
def rampTo (step output target : Nat) : Nat :=
  if output < target then output + min step (target - output) else output - min step (output - target)

/-- The level a grade of the armed shed watch gives (R157). -/
def levelOfGrade : Grade → ShedLevel
  | .warnLow => .economy
  | .critLow => .survival
  | .unrated | .normal | .warnHigh | .critHigh => .none

/-- The computed duty of an ADAPTIVE channel whose source is rated, before the minimum (R147). -/
def adaptiveDuty (start : Int) (slope : Nat) (smooth : Int) : Nat :=
  let d := smooth - start
  if d ≤ 0 then 0 else min (d.toNat * slope / 64) 255

namespace State

/-! ## The shed level (R157, R158) -/

/-- The level the shed watch gives (R157). -/
def derivedLevel (s : State) : ShedLevel :=
  match s.settings.shedWatch with
  | none => .none
  | some w => if s.watches[w].armed then levelOfGrade s.watches[w].grade else .none

/-- A new level is set and shown, and the wake line judged by the mask it brings in force (R158, R194). -/
def setShed (s : State) (l : ShedLevel) : State := ((s.setDuty { s.duty with shed := l }).reshow40 s).judge

/-- The level is derived again; a different one is set, recorded, raised, and in SURVIVAL purges the queue
(R157, R158, R9). -/
def recomputeShed (s : State) (cause : ShedCause) : State :=
  let old := s.duty.shed
  let new := s.derivedLevel
  if new = old then s
  else
    let s := ((s.setShed new).offer (shedRecord old new s.settings.shedWatch cause)).raiseCause .shed
    if new = .survival then s.purge else s

/-! ## Stall episodes (R150–R156) -/

/-- A channel's tach input (R142). -/
def tachOf (s : State) (c : Fin 4) : Option (Fin 16) := s.settings.channels[c].tach

/-- A stall episode begins with a burst of 2 s at 255 (R152). -/
def beginEpisode (s : State) (c : Fin 4) : State :=
  let ch := s.duty.channels[c]
  ((s.setChannel c { ch with used := 1, burst := .burst (s.now + seconds 2), output := 255, handed := false }).offer
    (stallRecord c (s.tachOf c) .begin 1)).raiseCause .stall

/-- The next burst of an episode: no record and no cause (R154). -/
def nextBurst (s : State) (c : Fin 4) : State :=
  let ch := s.duty.channels[c]
  s.setChannel c
    { ch with used := ch.used + 1, burst := .burst (s.now + seconds 2), output := 255, handed := false }

/-- A stall notice reaches a channel (R151). -/
def stallChannel (s : State) (c : Fin 4) : State :=
  let ch := { s.duty.channels[c] with stalled := true }
  let s := s.setChannel c ch
  if ch.burst = .none ∧ 0 < ch.output ∧ ch.mode ≠ .off then s.beginEpisode c else s

/-- A clear notice reaches a channel: the flag clears, and an episode in progress ends with a CLEAR record (R151, R155). -/
def clearChannel (s : State) (c : Fin 4) : State :=
  let ch := s.duty.channels[c]
  if ch.burst = .none then s.setChannel c { ch with stalled := false, handed := false }
  else
    let s := s.setChannel c { ch with stalled := false, burst := .none, handed := false }
    let s := s.offer (stallRecord c (s.tachOf c) .clear ch.used)
    s.setChannel c { s.duty.channels[c] with used := 0 }

/-- A notice reaches every channel whose tach input setting names the input, each taking it whole (R151). That they take it
in ascending number is a DESIGN CHOICE (log 28): R151 gives no order, and the order of their STALL records is the model's. -/
def notify (s : State) (i : Fin 16) (f : State → Fin 4 → State) : State :=
  (List.finRange 4).foldl (fun s c => if s.tachOf c = some i then f s c else s) s

/-- The Contact Input Unit tells that an input is stalled (R132, R151). -/
def stallNotice (s : State) (i : Fin 16) : State := s.notify i stallChannel

/-- The Contact Input Unit tells that an input is no longer stalled (R131, R133, R151). -/
def clearNotice (s : State) (i : Fin 16) : State := s.notify i clearChannel

/-- A channel's tach input setting changed: the episode ends without a record, the stalled flag takes the state of the
input now named, and a new episode may begin at once (R156). -/
def retachChannel (s : State) (c : Fin 4) : State :=
  let stalled := ((s.tachOf c).map fun i => s.inputs[i].stalled).getD false
  let ch := { s.duty.channels[c] with stalled, burst := .none, used := 0, handed := false }
  let s := s.setChannel c ch
  if stalled ∧ 0 < ch.output ∧ ch.mode ≠ .off then s.beginEpisode c else s

/-! ## The ramp tick (R147–R150) -/

/-- The source watch of a channel, where it is armed and rated (R147). -/
def ratedSource (s : State) (c : Fin 4) : Option Watch :=
  match s.settings.channels[c].source with
  | none => none
  | some w => if s.watches[w].armed ∧ s.watches[w].grade ≠ .unrated then some s.watches[w] else none

/-- The asked duty of a channel not in OFF (R147). -/
def askedDuty (s : State) (c : Fin 4) : Nat :=
  let g := s.settings.channels[c]
  match s.duty.channels[c].mode with
  | .off => 0
  | .manual => s.duty.channels[c].manual
  | .adaptive =>
    match s.ratedSource c with
    | none => g.fallback
    | some w => max (adaptiveDuty g.start g.slope w.smooth) g.minimum

/-- The cap of the shed level in force (R148). -/
def levelCap (s : State) : Nat :=
  match s.duty.shed with
  | .none => 255
  | .economy => s.settings.economyCap
  | .survival => s.settings.survivalCap

/-- Whether the cap is lifted: an ADAPTIVE channel whose source watch is CRIT_HIGH (R148). -/
def capLifted (s : State) (c : Fin 4) : Bool :=
  decide (s.duty.channels[c].mode = .adaptive) && ((s.ratedSource c).map fun w => decide (w.grade = .critHigh)).getD false

/-- The target of a channel at a tick (R147, R148). -/
def targetDuty (s : State) (c : Fin 4) : Nat :=
  match s.duty.channels[c].mode with
  | .off => 0
  | .manual | .adaptive => min (s.askedDuty c) (if s.capLifted c then 255 else s.levelCap)

/-- The output a tick gives a channel (R149). -/
def tickedOutput (s : State) (c : Fin 4) : Nat :=
  let ch := s.duty.channels[c]
  match ch.burst with
  | .burst _ => 255
  | .none | .spacing _ | .waiting | .failed =>
    if s.settings.channels[c].ramp then rampTo s.settings.channels[c].step ch.output (s.targetDuty c)
    else s.targetDuty c

/-- A tick at one channel: target, output, and a burst start handed over where the fan stands stalled (R147–R150). -/
def tickChannel (s : State) (c : Fin 4) : State :=
  let ch := s.duty.channels[c]
  let output := s.tickedOutput c
  let hands := decide (0 < output ∧ ch.stalled ∧ (ch.burst = .none ∨ ch.burst = .waiting) ∧ ch.mode ≠ .off)
  s.setChannel c { ch with target := s.targetDuty c, output, handed := ch.handed || hands }

/-- A spacing ends with the fan still stalled: another burst, WAITING, or the fan has failed (R154, R155). -/
def endSpacing (s : State) (c : Fin 4) : State :=
  let ch := s.duty.channels[c]
  if ch.used < 3 then
    if 0 < ch.output then s.nextBurst c else s.setChannel c { ch with burst := .waiting }
  else ((s.setChannel c { ch with burst := .failed }).offer (stallRecord c (s.tachOf c) .failed 3)).raiseCause .stall

/-- The channels of a ramp tick, one after another. -/
def tickChannels (s : State) : State := (List.finRange 4).foldl tickChannel s

end State

/-- RAMP_TICK: every channel's target is computed under its cap and its output moved; the tick restarts from its expiry
(R147–R150, R168). -/
def execRampTick (s : State) : Host.Outcome State Fault Refusal :=
  .next (s.whenReady fun s =>
    s.whenDue s.time.rampDue fun s =>
      (s.setTime { s.time with rampDue := s.time.rampDue + millis 100 }).tickChannels)

/-- BURST_START: a channel takes the burst start a tick handed it: an episode begins, or a WAITING channel makes its next
burst (R150, R152, R154). -/
def execBurstStart (c : Fin 4) (s : State) : Host.Outcome State Fault Refusal :=
  .next (s.whenReady fun s =>
    let ch := s.duty.channels[c]
    if ch.handed ∧ ch.stalled ∧ ch.mode ≠ .off then
      match ch.burst with
      | .none => s.beginEpisode c
      | .waiting => s.nextBurst c
      | .burst _ | .spacing _ | .failed => s.setChannel c { ch with handed := false }
    else s.setChannel c { ch with handed := false })

/-- BURST_EXPIRY: the burst interval expires, and the spacing of 10 s starts; the output is left at 255 (R153). -/
def execBurstExpiry (c : Fin 4) (s : State) : Host.Outcome State Fault Refusal :=
  .next (s.whenReady fun s =>
    match s.duty.channels[c].burst with
    | .burst due =>
      s.whenDue due fun s => s.setChannel c { s.duty.channels[c] with burst := .spacing (s.now + seconds 10) }
    | .none | .spacing _ | .waiting | .failed => s)

/-- SPACING_EXPIRY: another burst, WAITING, or the fan has failed (R154, R155). -/
def execSpacingExpiry (c : Fin 4) (s : State) : Host.Outcome State Fault Refusal :=
  .next (s.whenReady fun s =>
    match s.duty.channels[c].burst with
    | .spacing due => s.whenDue due fun s => s.endSpacing c
    | .none | .burst _ | .waiting | .failed => s)

end Sys2Proof.Machine
end

