-- ==== Sys2Proof/Machine/Watches.lean ====
section
/-! DEFINITION. The Watch Unit: from a delivered value to a grade, freshness, arming and disarming (chapter 4). -/

namespace Sys2Proof.Machine

/-! ## The stages of an evaluation (R84–R93) -/

/-- Stage 1: the raw field at its width, signed or not (R84). -/
def interpretRaw (signedRaw wide : Bool) (v : Nat) : Int :=
  if signedRaw then signed (if wide then 24 else 16) v else v

/-- Stage 2, before range: scale, shift rounded to nearest with the half toward +∞, and offset (R85). -/
def scaleValue (d : WatchDef) (raw : Int) : Int :=
  let p := raw * d.scale
  (if d.shift = 0 then p else (p + 2 ^ (d.shift - 1)) / 2 ^ d.shift) + d.offset

/-- An engineering value brought into −32,768..32,767 (R86). -/
def saturate (e : Int) : Int := max (-32768) (min e 32767)

/-- The clamp flag of an engineering value (R86). -/
def clamps (e : Int) : Bool := decide (e < -32768 ∨ 32767 < e)

/-- Stage 3: the smoothing filter, outside a restart (R88). -/
def smoothStep (k : Nat) (old e : Int) : Int :=
  if k = 0 then e else old + (e - old + 2 ^ (k - 1)) / 2 ^ k

/-- The high classification: cases 1 and 2 (R90). -/
def classifyHigh (d : WatchDef) (x : Int) : Grade :=
  if d.highCrit < x then .critHigh else if d.highWarn < x then .warnHigh else .normal

/-- The low classification: cases 3 and 4 (R90). -/
def classifyLow (d : WatchDef) (x : Int) : Grade :=
  if x < d.lowCrit then .critLow else if x < d.lowWarn then .warnLow else .normal

/-- Stage 4: the classification, the high side first (R90). -/
def classify (d : WatchDef) (x : Int) : Grade :=
  if d.highCrit < x then .critHigh else if d.highWarn < x then .warnHigh else classifyLow d x

/-- The less severe of the held grade and another (R91, R92). -/
def lessSevere (g t : Grade) : Grade := if t.severity < g.severity then t else g

/-- Stage 5: the indicated grade (R91, R92). -/
def indicated (d : WatchDef) (g : Grade) (s : Int) : Grade :=
  let c := classify d s
  match g with
  | .unrated | .normal => c
  | .warnHigh | .critHigh =>
    if c.isLow ∨ (c.isHigh ∧ g.severity ≤ c.severity) then c else lessSevere g (classifyHigh d (s + d.hyst))
  | .warnLow | .critLow =>
    if c.isHigh ∨ (c.isLow ∧ g.severity ≤ c.severity) then c else lessSevere g (classifyLow d (s - d.hyst))

/-- Stage 6: persistence; the grade, candidate and count after an evaluation (R93). -/
def persistStep (persist : Nat) (g : Grade) (c ind : Grade) (cand : Option Grade) (count : Nat) :
    Grade × Option Grade × Nat :=
  if g = .unrated then (c, none, 0)
  else if ind = g then (g, none, 0)
  else
    let count := if cand = some ind then count + 1 else 1
    if persist ≤ count then (ind, none, 0) else (g, some ind, count)

/-- A watch after an evaluation of the unbounded engineering value `e` (R86, R88–R94); `raw` is the interpreted raw value
of a step delivery. -/
def evaluated (d : WatchDef) (w : Watch) (e : Int) (raw : Option Int) (stamp : Stamp) (now : Moment) : Watch :=
  let eng := saturate e
  let s := if w.restart then eng else smoothStep d.k w.smooth eng
  let p := persistStep d.persist w.grade (classify d s) (indicated d w.grade s) w.cand w.pcount
  { w with
    grade := p.1, cand := p.2.1, pcount := p.2.2, lastRaw := raw.getD w.lastRaw, eng, smooth := s, clamp := clamps e
    restart := false, samples := satInc 65535 w.samples, lastEval := stamp, mark := some now }

/-- A watch that becomes UNRATED: candidate cleared, count 0, restart set (R80, R81, R82, R99). -/
def Watch.unrate (w : Watch) : Watch := { w with grade := .unrated, cand := none, pcount := 0, restart := true }

/-- The GRADE record (R95, 11.7). -/
def gradeRecord (n : Fin 64) (old : Grade) (w : Watch) (cause : GradeCause) : Record where
  kind := .grade
  flags := [(3, old.code), (3, w.grade.code), (2, cause.code)]
  payload := [pack [(6, n.val)], pack [(16, unsigned 16 w.smooth), (16, unsigned 16 w.eng)]]

/-- The word of a watch's state that carries the grade (11.5). -/
def watchWord5 (w : Watch) : Word :=
  pack [(3, w.grade.code), (1, 0), (3, optField 3 (w.cand.map Grade.code)), (1, 0), (4, w.pcount), (1, bit w.armed),
    (1, bit w.clamp), (1, bit w.restart), (1, 0), (16, w.samples)]

namespace State

/-- A watch's state words are written, the grade last (R79, 11.5). -/
def showWatch (s : State) (n : Fin 64) : State :=
  let w := s.watches[n]
  let a := watchAddr n
  (s.pokes (a + 6) [pack [(16, unsigned 16 w.eng), (16, unsigned 16 w.smooth)], w.lastEval,
    pack [(25, unsigned 25 w.lastRaw)]]).poke (a + 5) (watchWord5 w)

/-- A watch takes its new state, and its state words are written (R79). That all four are written, also a word that shows no
change, is a DESIGN CHOICE where no rule says that the state words are written, as R99 does (log 30). -/
def putWatch (s : State) (n : Fin 64) (w : Watch) : State := (s.setWatchAt n w).showWatch n

/-- The effects of a grade change, in their order: the GRADE record, the worsen trigger, the GRADE cause, and the shed
notice (R95–R97). -/
def gradeChange (s : State) (n : Fin 64) (old : Grade) (d : WatchDef) (cause : GradeCause) : State :=
  let w := s.watches[n]
  let s := s.offer (gradeRecord n old w cause)
  let s := if old.severity < w.grade.severity then s.offerTriggerTo d.worsenList .grade else s
  let s := if d.wakes w.grade then s.raiseCause .grade else s
  if s.settings.shedWatch = some n then s.recomputeShed .grade else s

/-- A watch takes its new state; where its grade changed, the effects follow once its words are written (R94, R95). -/
def regrade (s : State) (n : Fin 64) (w : Watch) (d : WatchDef) (cause : GradeCause) : State :=
  let old := s.watches[n].grade
  let s := s.putWatch n w
  if w.grade = old then s else s.gradeChange n old d cause

/-- A definition fault: a rated watch becomes UNRATED, and nothing else changes (R80). -/
def definitionFault (s : State) (n : Fin 64) (d : WatchDef) : State :=
  if s.watches[n].grade = .unrated then s else s.regrade n s.watches[n].unrate d .definition

/-- An evaluation of an armed watch whose definition passed its checks (R94). -/
def evaluate (s : State) (n : Fin 64) (d : WatchDef) (e : Int) (raw : Option Int) : State :=
  s.regrade n (evaluated d s.watches[n] e raw s.time.timestamp s.now) d .evaluation

/-- A value of a step reaches a watch; the answer says whether the watch was armed (R29, R80, R83, R84). -/
def deliver (s : State) (n : Fin 64) (wide : Bool) (v : Nat) : State × Bool :=
  if s.watches[n].armed then
    let d := readDef s.mem n
    match d.firstFault with
    | some _ => (s.definitionFault n d, true)
    | none =>
      let raw := interpretRaw d.signedRaw wide v
      (s.evaluate n d (scaleValue d raw) (some raw), true)
  else (s, false)

/-- The shed level is derived again where the watch is the shed watch (R81, R82). -/
def shedNotice (s : State) (n : Fin 64) (cause : ShedCause) : State :=
  if s.settings.shedWatch = some n then s.recomputeShed cause else s

/-- The work of WATCH_ARM (R81, R183). -/
def armWatch (s : State) (n : Fin 64) : Carried :=
  match (readDef s.mem n).firstFault with
  | some k => (s, some (.badLimits, BitVec.ofNat 32 k))
  | none => ((s.putWatch n { s.watches[n].unrate with armed := true }).shedNotice n .arm, some (.ok, 0))

/-- The work of WATCH_DISARM (R82, R183). -/
def disarmWatch (s : State) (n : Fin 64) : Carried :=
  ((s.putWatch n { s.watches[n].unrate with armed := false }).shedNotice n .disarm, some (.ok, 0))

/-- The work of WATCH_FEED (R80, R87, R183). -/
def feedWatch (s : State) (n : Fin 64) (v : Int) : Carried :=
  if s.watches[n].armed then
    let d := readDef s.mem n
    match d.firstFault with
    | some k => (s.definitionFault n d, some (.badLimits, BitVec.ofNat 32 k))
    | none =>
      let t := s.evaluate n d v none
      (t, some (.ok, BitVec.ofNat 32 t.watches[n].grade.code))
  else (s, some (.notActive, 0))

/-- Whether a watch is checked for freshness: armed, F above 0, and rated (R98). -/
def freshChecked (s : State) (n : Fin 64) : Bool :=
  s.watches[n].armed && decide (0 < (readDef s.mem n).fresh) && decide (s.watches[n].grade ≠ .unrated)

/-- Whether a checked watch's age is F seconds or more (R98, R99). The age runs to the moment at which the tick is taken, also
where that is later than the moment it was due: a DESIGN CHOICE (log 29). -/
def stale (s : State) (n : Fin 64) : Bool :=
  s.freshChecked n && s.watches[n].mark.any fun m => decide (m + seconds (readDef s.mem n).fresh ≤ s.now)

/-- The check of one watch at a tick: a stale one expires to UNRATED, with cause FRESHNESS (R98, R99). -/
def checkFresh (s : State) (n : Fin 64) : State :=
  if s.stale n then s.regrade n s.watches[n].unrate (readDef s.mem n) .freshness else s

/-- The watches whose check at the tick that is due has still to be made, in ascending number (R98). -/
def unchecked (s : State) : List (Fin 64) := (List.finRange 64).drop s.time.checked

end State

/-- WATCH_TICK: the freshness of every watch is checked in ascending number, but for those that the tick has checked already;
the tick restarts from its expiry (R98, R168, log 29). -/
def execWatchTick (s : State) : Host.Outcome State Fault Refusal :=
  .next (s.whenReady fun s =>
    s.whenDue s.time.watchDue fun s =>
      s.unchecked.foldl State.checkFresh
        (s.setTime { s.time with watchDue := s.time.watchDue + seconds 1, checked := 0 }))

/-- FRESHNESS_EXPIRY: within a watch tick that has expired, the first stale watch that the tick has still to check expires; the
checks of the watches below it, none of them stale, are then made too, and WATCH_TICK makes the rest (R83, R98, R99, log 29). -/
def execFreshnessExpiry (n : Fin 64) (s : State) : Host.Outcome State Fault Refusal :=
  .next (s.whenReady fun s =>
    s.whenDue s.time.watchDue fun s =>
      if s.unchecked.find? s.stale = some n then
        (s.setTime { s.time with checked := n.val + 1 }).checkFresh n
      else s)

end Sys2Proof.Machine
end

