-- ==== Sys2Proof/Machine/StepEnds.lean ====
section
/-! DEFINITION. What a step does with the result of its bus work: values to watches, records, policies, retries
(chapter 2). -/

namespace Sys2Proof.Machine

/-- What the Instrument Bus Controller returns to a step (R24, R34, R39, R40): a transaction's outcome with its data, a
block read's ending with the words kept, a roll call's maps, a broadcast sent, or HELD (R27). -/
inductive BusResult where
  | outcome (o : StepOutcome) (data : Nat)
  | block (e : BlockEnding) (words : List Nat)
  | roll (present attention : Word)
  | sent
  | held
  deriving DecidableEq, Repr

/-- The step outcome a block ending gives (R34). -/
def BlockEnding.outcome : BlockEnding → StepOutcome
  | .count | .last | .terminator => .done
  | .notReady => .notReady
  | .refused => .refused
  | .silent => .silent
  | .garbled => .garbled
  | .odd => .odd
  | .lost => .lost

/-- The READING record (R29, 11.7). `place` is the station with the subaddress, or station 0 with the local source; an
absent value or watch beside its clear present flag is all ones at its width (R199, log 12). -/
def readingRecord (place : List (Nat × Nat)) (o : StepOutcome) (value : Option Nat) (watch : Option (Fin 64))
    (armed : Bool) : Record where
  kind := .reading
  flags := [(3, o.code), (1, bit value.isSome), (1, bit watch.isSome), (1, bit armed)]
  payload := [pack place, pack [(25, optField 25 value)], pack [(7, optField 7 (watch.map Fin.val))]]

/-- Station address and subaddress, as a READING record places them (11.7). -/
def stationPlace (st : ReadStep) : List (Nat × Nat) := [(5, st.station.val + 1), (4, st.sub.val)]

/-- Station 0, local source kind and number, as a READING record places them (R43, 11.7). -/
def LocalSource.place : LocalSource → List (Nat × Nat)
  | .tach i => [(5, 0), (2, 0), (4, i.val)]
  | .output c => [(5, 0), (2, 1), (4, c.val)]
  | .count i => [(5, 0), (2, 2), (4, i.val)]

/-- The BLOCK record (R35, 11.7). -/
def blockRecord (st : BlockStep) (e : BlockEnding) (words : List Nat) : Record where
  kind := .block
  flags := [(5, st.station.val + 1), (4, st.sub.val), (4, e.code)]
  payload := words.map (BitVec.ofNat 32)

/-- The STATUS record; an absent byte is FFH (R38, 11.7, R199, log 12). -/
def statusRecord (station : Fin 30) (o : StepOutcome) (byte : Option Nat) : Record where
  kind := .status
  flags := [(3, o.code), (1, bit byte.isSome)]
  payload := [pack [(5, station.val + 1), (8, optField 8 byte)]]

/-- The ROLL record (R39, 11.7). -/
def rollRecord (present attention : Word) : Record where
  kind := .roll
  payload := [present, attention]

namespace State

/-- The address of the current step. -/
def stepAddr (s : State) : Nat := (s.engine.ctx.map Ctx.addr).getD 0

/-- Whether a cut of the run is requested. -/
def cutRequested (s : State) : Bool := (s.engine.ctx.map Ctx.cut).getD false

/-- The phase of the running list is replaced. -/
def setPhase (s : State) (p : Phase) : State := s.setCtx (s.engine.ctx.map fun c => { c with phase := p })

/-- A value goes to the watch a step names, on DONE (R29). The answer is the armed flag of the READING record. -/
def deliverTo (s : State) (w : Option (Fin 64)) (o : StepOutcome) (wide : Bool) (v : Nat) : State × Bool :=
  match w with
  | some n => if o = .done then s.deliver n wide v else (s, false)
  | none => (s, false)

/-- A step's value on DONE, absent otherwise (R29). -/
def doneValue (o : StepOutcome) (v : Nat) : Option Nat := if o = .done then some v else none

/-- READ completes: the value to the watch, the READING record, the policies (R29, R32). -/
def readComplete (s : State) (st : ReadStep) (o : StepOutcome) (v : Nat) : State :=
  let p := s.deliverTo st.watch o st.wide v
  let s := p.1
  let s :=
    if st.record then s.offer (readingRecord (stationPlace st) o (doneValue o v) st.watch p.2) else s
  s.finishStep (policyEnd st.ready st.failure o) (s.stepAddr + 2)

/-- An attempt of READ ends: a not-ready answer under RETRY begins a retry spacing while retries remain and no cut is
requested; anything else completes the step (R30, R31). -/
def readResult (s : State) (st : ReadStep) (left : Nat) (o : StepOutcome) (v : Nat) : State :=
  if o = .notReady ∧ st.ready = .retry ∧ 0 < left ∧ ¬ s.cutRequested then
    s.setPhase (.spacing st (left - 1) (s.now + millis s.settings.retrySpacing))
  else s.readComplete st o v

/-- BLOCK_READ completes: the BLOCK record, the policies (R35). -/
def blockComplete (s : State) (st : BlockStep) (e : BlockEnding) (words : List Nat) : State :=
  (s.offer (blockRecord st e words)).finishStep (policyEnd st.ready st.failure e.outcome) (s.stepAddr + 3)

/-- STATUS_POLL completes: the STATUS record; the run goes on (R38). -/
def statusComplete (s : State) (station : Fin 30) (o : StepOutcome) (v : Nat) : State :=
  (s.offer (statusRecord station o (doneValue o v))).finishStep none (s.stepAddr + 1)

/-- The step that had no reply to read completes: a broadcast sent, or HELD (R27, R40, R41). -/
def plainResult (s : State) (own : OwnEnd) (next : Nat) (r : BusResult) : State :=
  match r with
  | .sent | .held => s.finishStep none next
  | .outcome _ _ => s.finishStep own next
  | .block _ _ | .roll _ _ => s

/-- What a result says of the run under a step's policies. -/
def resultEnd (ready : ReadyPolicy) (failure : FailurePolicy) : BusResult → OwnEnd
  | .outcome o _ => policyEnd ready failure o
  | .block _ _ | .roll _ _ | .sent | .held => none

/-- A result for the step whose work it was: the step completes (R23–R41). A result of a form that the step's work does not
have (none arises) completes nothing. -/
def stepResult (s : State) (step : BusStep) (r : BusResult) : State :=
  match step with
  | .read st left =>
    match r with
    | .outcome o v => s.readResult st left o v
    | .block _ _ | .roll _ _ | .sent | .held => s
  | .block st =>
    match r with
    | .block e words => s.blockComplete st e words
    | .outcome _ _ | .roll _ _ | .sent | .held => s
  | .write st => s.plainResult (resultEnd st.ready st.failure r) (s.stepAddr + 2) r
  | .control st => s.plainResult (resultEnd .pass st.failure r) (s.stepAddr + 1) r
  | .statusPoll station =>
    match r with
    | .outcome o v => s.statusComplete station o v
    | .block _ _ | .roll _ _ | .sent | .held => s
  | .rollCall =>
    match r with
    | .roll present attention => (s.offer (rollRecord present attention)).finishStep none (s.stepAddr + 1)
    | .outcome _ _ | .block _ _ | .sent | .held => s
  | .sampleAll => s.plainResult none (s.stepAddr + 1) r
  | .clear => s.plainResult none (s.stepAddr + 1) r

/-- The Instrument Bus Controller returns a result to the step whose work it had (R52). -/
def busResult (s : State) (r : BusResult) : State :=
  match s.engine.ctx with
  | some c =>
    match c.phase with
    | .bus step => s.stepResult step r
    | .between | .waiting _ | .spacing _ _ _ => s
  | none => s

end State

end Sys2Proof.Machine
end

