-- ==== Sys2Proof/Machine/Frames.lean ====
section
/-! DEFINITION. Frames of the hut instrument bus: their bits, the check, and how a reply is read (R53–R57, 11.9). -/

namespace Sys2Proof.Machine

/-! ## The check (R55) -/

/-- One bit through the check register: generator x^16 + x^12 + x^5 + 1 (R55). -/
def checkStep (reg : Nat) (b : Bool) : Nat :=
  let shifted := (reg * 2) % 65536
  if reg.testBit 15 ≠ b then shifted ^^^ 0x1021 else shifted

/-- The check over bits, in the order sent, from a register preset to FFFFH (R55). -/
def checkOf (bits : List Bool) : Nat := bits.foldl checkStep 0xFFFF

/-- Bits closed by their check, most significant bit first (R55). -/
def closed (bits : List Bool) : List Bool := bits ++ bitsOf 16 (checkOf bits)

/-! ## Command frames (R53, 11.9) -/

/-- Function codes (11.9). -/
def Transaction.function : Transaction → Nat
  | .read _ _ _ => 0 | .write _ _ _ _ => 1 | .control _ _ _ => 2 | .status _ => 3 | .clear _ => 5

/-- The addressed station. -/
def Transaction.station : Transaction → Fin 30
  | .read st _ _ => st | .write st _ _ _ => st | .control st _ _ => st | .status st => st | .clear st => st

/-- The fields after the function, before the check (11.9). -/
def Transaction.fields : Transaction → List Bool
  | .read _ sub wide => bitsOf 4 sub.val ++ [wide]
  | .write _ sub wide v => bitsOf 4 sub.val ++ [wide] ++ bitsOf (if wide then 24 else 16) v
  | .control _ sub code => bitsOf 4 sub.val ++ bitsOf 4 code
  | .status _ => []
  | .clear _ => []

/-- The bits of a frame: destination, function, fields, check (11.9). -/
def frame (dest function : Nat) (fields : List Bool) : List Bool := closed (bitsOf 5 dest ++ bitsOf 4 function ++ fields)

/-- The bits of a broadcast: destination 31, a function, no fields (R53). -/
def broadcast (function : Nat) : List Bool := frame 31 function []

/-- The frame that carries a unit of work (R53, 11.9). -/
def Work.frameBits : Work → List Bool
  | .transaction t => frame (t.station.val + 1) t.function t.fields
  | .block b => frame (b.station.val + 1) 4 (bitsOf 4 b.sub.val ++ [b.wide] ++ bitsOf 8 (b.count - 1))
  | .sampleAll => broadcast 8
  | .clearAll => broadcast 9
  | .rollCall => broadcast 10

/-- The frame that is going out (R53, R74, R75). -/
def Sending.frameBits : Sending → List Bool
  | .work w _ => w.frameBits
  | .visit .localRelease => broadcast 11
  | .visit .remoteTake => broadcast 12
  | .ownTake => broadcast 12

/-- What the part drives onto the instrument bus: the frame going out, and nothing otherwise (3.1). -/
def Bus.lineBits (b : Bus) : List Bool :=
  match b.ctl with
  | .sending what => what.frameBits
  | .settling _ | .idle | .awaiting _ _ | .streaming _ _ _ _ | .slots _ _ _ | .draining _ _ => []

/-- A write-type unit of work: WRITE, CONTROL, CLEAR and CLEAR_ALL (R27). -/
def Work.writeType : Work → Bool
  | .transaction (.write _ _ _ _) | .transaction (.control _ _ _) | .transaction (.clear _) | .clearAll => true
  | .transaction (.read _ _ _) | .transaction (.status _) | .block _ | .sampleAll | .rollCall => false

/-! ## Replies (R54, R57) -/

/-- Reply types: EMPTY 0, DATA 1, STATUS 2 (11.9). -/
def typeEmpty : Nat := 0

/-- DATA. -/
def typeData : Nat := 1

/-- STATUS. -/
def typeStatus : Nat := 2

/-- What a judging needs of the command awaiting the reply: the station, the width a DATA reply has, absent where the
command carries none (R54), and the reply type the step takes (R24). -/
structure Awaited where
  station : Fin 30
  width : Option Nat
  takes : Nat
  deriving DecidableEq, Repr

/-- The width of a width bit. -/
def widthOf (wide : Bool) : Nat := if wide then 24 else 16

/-- What is awaited of a transaction (R24, R53, R54). -/
def Transaction.awaits : Transaction → Awaited
  | .read st _ wide => ⟨st, some (widthOf wide), typeData⟩
  | .write st _ wide _ => ⟨st, some (widthOf wide), typeEmpty⟩
  | .control st _ _ => ⟨st, none, typeEmpty⟩
  | .status st => ⟨st, none, typeStatus⟩
  | .clear st => ⟨st, none, typeEmpty⟩

/-- What is awaited of a block read (R24). -/
def BlockRead.awaits (b : BlockRead) : Awaited := ⟨b.station, some (widthOf b.wide), typeData⟩

/-- The fields of a reply (R54). -/
structure Reply where
  source : Nat
  accept : Bool
  ready : Bool
  attention : Bool
  last : Bool
  type : Nat
  data : Nat
  deriving DecidableEq, Repr

/-- The length the type and the command fix, absent where only line activity gives it (R54). -/
def fixedLength (a : Awaited) (type : Nat) : Option Nat :=
  match type with
  | 0 => some 27
  | 1 => a.width.map (27 + ·)
  | 2 => some 35
  | _ => none

/-- The fields of a reply's bits; the last 16 bits are the check (R54, 11.9). -/
def replyFields (bits : List Bool) : Reply where
  source := natOfBits (bits.take 5)
  accept := bits.getD 5 false
  ready := bits.getD 6 false
  attention := bits.getD 7 false
  last := bits.getD 8 false
  type := natOfBits ((bits.drop 9).take 2)
  data := natOfBits ((bits.drop 11).take (bits.length - 27))

/-- A good check: the frame is as long as R54 fixes, and the check computed over every bit before the received check equals
it (R55). A frame too short to hold its fixed fields and a check fails. -/
def checkGood (a : Awaited) (bits : List Bool) : Bool :=
  let n := bits.length
  decide (27 ≤ n) && ((fixedLength a (replyFields bits).type).all fun k => k == n)
    && (checkOf (bits.take (n - 16)) == natOfBits (bits.drop (n - 16)))

/-- How a reply is judged (R57). -/
inductive Judgement where
  | garbled
  | odd
  | good (r : Reply)
  deriving DecidableEq, Repr

/-- The three tests of a reply, in order (R57). -/
def judgeReply (a : Awaited) (bits : List Bool) : Judgement :=
  let r := replyFields bits
  if ¬ checkGood a bits then .garbled
  else if r.source ≠ a.station.val + 1 ∨ 3 ≤ r.type then .odd
  else if r.type = a.takes ∨ (r.type = typeEmpty ∧ ¬ (r.accept ∧ r.ready)) then .good r
  else .odd

/-- A good reply read by its flags (R24). -/
def Reply.outcome (r : Reply) : StepOutcome :=
  if ¬ r.accept then .refused else if ¬ r.ready then .notReady else .done

/-- Bits as words, the first bit at bit 31 of the first word; `n` is how many words at most (11.7). -/
def bitWords : Nat → List Bool → List Word
  | 0, _ => []
  | _ + 1, [] => []
  | n + 1, b :: bits =>
    let chunk := (b :: bits).take 32
    BitVec.ofNat 32 (natOfBits chunk * 2 ^ (32 - chunk.length)) :: bitWords n ((b :: bits).drop 32)

/-- The ODD record: the addressed station and the reply's bits as received, at most 8,160 of them (R57, 11.7). -/
def oddRecord (station : Fin 30) (bits : List Bool) : Record where
  kind := .odd
  flags := [(1, bit (decide (8160 < bits.length)))]
  payload := pack [(5, station.val + 1), (13, min bits.length 8160)] :: bitWords 255 (bits.take 8160)

/-- The STATION record (R68, 11.7). -/
def stationRecord (i : Fin 30) (old : StationState) (t : Station) (cause : Nat) : Record where
  kind := .station
  payload := [pack [(5, i.val + 1), (2, old.code), (2, t.state.code), (4, t.silences), (2, cause)]]

end Sys2Proof.Machine
end

