-- ==== Sys2Proof/Machine/BusUnit.lean ====
section
/-! DEFINITION. The Instrument Bus Controller: the station table, attention, taking work, drains and stray frames
(chapter 3). -/

namespace Sys2Proof.Machine

/-- What brought a station's silence or hearing: a transaction or block read, or a roll-call slot (R66, R68). -/
inductive Exchange where
  | transaction | rollCall
  deriving DecidableEq, Repr

/-- The STATION cause code of a silence (R68, 11.8). R68 and 11.8 name a silence in a transaction and one in a roll call; that
the silence which ends a block read has the transaction's code is a DESIGN CHOICE (log 33). -/
def Exchange.silenceCause : Exchange → Nat
  | .transaction => 0
  | .rollCall => 1

namespace State

/-! ## Bus counts (R71) -/

/-- A frame has been sent. -/
def countFrame (s : State) : State := s.setCounts { s.bus.counts with frames := s.bus.counts.frames + 1 }

/-- A reply is judged good. -/
def countGood (s : State) : State := s.setCounts { s.bus.counts with good := s.bus.counts.good + 1 }

/-- A transaction or block read ends SILENT. -/
def countSilent (s : State) : State := s.setCounts { s.bus.counts with silent := s.bus.counts.silent + 1 }

/-- A reply is judged GARBLED, or a roll-call slot holds a garbled answer. -/
def countGarbled (s : State) : State := s.setCounts { s.bus.counts with garbled := s.bus.counts.garbled + 1 }

/-- A reply is judged ODD. -/
def countOdd (s : State) : State := s.setCounts { s.bus.counts with odd := s.bus.counts.odd + 1 }

/-- A stray frame ends. -/
def countStray (s : State) : State := s.setCounts { s.bus.counts with stray := s.bus.counts.stray + 1 }

/-- A roll call's thirtieth slot has passed. -/
def countRollCall (s : State) : State := s.setCounts { s.bus.counts with rollCalls := s.bus.counts.rollCalls + 1 }

/-! ## The station table (R66–R68) -/

/-- A change to or from LOST is reported: the STATION record, then the STATION cause (R68). -/
def reportStation (s : State) (i : Fin 30) (old : StationState) (cause : Nat) : State :=
  (s.offer (stationRecord i old s.bus.stations[i] cause)).raiseCause .station

/-- The station is heard: silences 0, PRESENT, last reply time; a LOST station's return is reported (R66, R67, R68). In a
transaction that return has no cause code: a free value (log 5). -/
def heard (s : State) (i : Fin 30) (how : Exchange) : State :=
  let t := s.bus.stations[i]
  let s := s.setStation i { t with state := .present, silences := 0, lastReply := s.time.timestamp }
  if t.state = .lost then
    match how with
    | .rollCall => s.reportStation i .lost 2
    | .transaction => s.drawFree.reportStation i .lost (Config.stationCauseHeard s.freeIdx).toNat
  else s

/-- A silence: one added, stopping at 15; LOST at the lost limit, which is reported (R66, R67, R68). -/
def silence (s : State) (i : Fin 30) (how : Exchange) : State :=
  let t := s.bus.stations[i]
  let n := satInc 15 t.silences
  if t.state ≠ .lost ∧ s.settings.lostLimit ≤ n then
    (s.setStation i { t with silences := n, state := .lost }).reportStation i t.state how.silenceCause
  else s.setStation i { t with silences := n }

/-- A garble: the garble count rises, stopping at 255; silences and state stand (R66). -/
def garble (s : State) (i : Fin 30) : State :=
  s.setStation i { s.bus.stations[i] with garbles := satInc 255 s.bus.stations[i].garbles }

/-- A call for attention: with the flag clear it is set, and the station's attention list is triggered (R69). -/
def attend (s : State) (i : Fin 30) : State :=
  if s.bus.stations[i].attention then s
  else
    (s.setStation i { s.bus.stations[i] with attention := true }).offerTriggerTo s.settings.attention[i] .attention

/-- The status byte of a STATUS_POLL answered DONE: kept, and its service bit settles the attention flag (R66, R70). -/
def statusByte (s : State) (i : Fin 30) (byte : Nat) : State :=
  let s := s.setStation i { s.bus.stations[i] with status := some (BitVec.ofNat 8 byte) }
  if byte.testBit 7 then s.attend i else s.setStation i { s.bus.stations[i] with attention := false }

/-- A new lost limit re-examines one station (R72). -/
def reexamine (s : State) (i : Fin 30) : State :=
  let t := s.bus.stations[i]
  if t.state ≠ .lost ∧ s.settings.lostLimit ≤ t.silences then
    (s.setStation i { t with state := .lost }).reportStation i t.state 3
  else s

/-- A station is forgotten (R73). -/
def forget (s : State) (i : Fin 30) : State :=
  s.setStation i { s.bus.stations[i] with state := .unknown, silences := 0, attention := false }

/-! ## Taking work (R52, R56, R63, R65, R74) -/

/-- A unit waits in the controller (R52). -/
def setWaiting (s : State) (w : Option Work) : State := s.setBus { s.bus with waiting := w }

/-- The controller waits out the line: for the drain interval, which is the reply timeout in force now; while a stray
frame is arriving the interval does not run (R64, R65). -/
def startDrain (s : State) : State :=
  s.setCtl (.draining s.settings.replyTimeout
    (if s.bus.strayArriving then none else some (s.now + millis s.settings.replyTimeout)))

/-- The station a unit is addressed to, if it is to one. -/
def workStation : Work → Option (Fin 30)
  | .transaction t => some t.station
  | .block b => some b.station
  | .sampleAll | .clearAll | .rollCall => none

/-- Whether the addressed station is LOST (R56, R63). -/
def workLost (s : State) (w : Work) : Bool :=
  ((workStation w).map fun i => decide (s.bus.stations[i].state = .lost)).getD false

/-- What a unit to a LOST station returns (R56, R63). -/
def lostResult : Work → BusResult
  | .block _ => .block .lost []
  | .transaction _ | .sampleAll | .clearAll | .rollCall => .outcome .lost 0

/-- In IDLE the controller takes a unit of work: it is HELD while a visit lasts, LOST where its station is, and otherwise
its frame is sent; a stray frame that is arriving delays it (R27, R56, R59, R60, R63, R65, R137). That the delay comes first,
so that the visit state and the station's state are read once it is over, is a DESIGN CHOICE (log 21). -/
def takeWork (s : State) (w : Work) : State :=
  if s.bus.strayArriving then (s.setWaiting (some w)).startDrain
  else if w.writeType ∧ s.visit.state ≠ .off then s.busResult .held
  else if s.workLost w then s.busResult (lostResult w)
  else s.setCtl (.sending (.work w s.settings.replyTimeout))

/-- In IDLE the controller takes whatever is waiting: a pending visit broadcast first, then a unit of work
(R52, R64, R74). -/
def takeWaiting (s : State) : State :=
  match s.bus.ctl with
  | .idle =>
    match s.bus.visitPending with
    | some b =>
      if s.bus.strayArriving then s.startDrain
      else (s.setBus { s.bus with visitPending := none }).setCtl (.sending (.visit b))
    | none =>
      match s.bus.waiting with
      | some w => (s.setWaiting none).takeWork w
      | none => s
  | .settling _ | .sending _ | .awaiting _ _ | .streaming _ _ _ _ | .slots _ _ _ | .draining _ _ => s

/-- The controller enters IDLE and takes whatever is waiting. -/
def enterIdle (s : State) : State := (s.setCtl .idle).takeWaiting

/-- A step hands a unit of work; the controller takes it in IDLE, after a pending visit broadcast (R52). -/
def handWork (s : State) (w : Work) : State := (s.setWaiting (some w)).takeWaiting

/-- A visit broadcast becomes pending, replacing another; in IDLE it goes out at once (R74). -/
def makePending (s : State) (b : VisitBroadcast) : State :=
  (s.setBus { s.bus with visitPending := some b }).takeWaiting

/-- The pending visit broadcast is cancelled, if there is one (R74). -/
def cancelPending (s : State) : State := s.setBus { s.bus with visitPending := none }

/-! ## Line activity (R56, R59, R64, R65, R75) -/

/-- A frame begins that nothing awaits: a stray frame is arriving, and a quiet interval stops (R59, R64, R75). -/
def strayBegins (s : State) : State :=
  let t := s.setBus { s.bus with strayArriving := true }
  match s.bus.ctl with
  | .settling _ => t.setCtl (.settling none)
  | .draining n _ => t.setCtl (.draining n none)
  | .idle | .slots _ _ _ => t
  | .sending _ | .awaiting _ _ | .streaming _ _ _ _ => s

/-- A stray frame ends: it is counted and discarded, and a quiet interval begins again at its end (R59, R64, R65, R75).
The H40 hears nothing while it sends, and a frame in AWAITING or STREAMING is an awaited one. A stray frame in SLOTS garbles no
slot's answer, which is a DESIGN CHOICE (log 21). -/
def strayEnds (s : State) : State :=
  let t := (s.setBus { s.bus with strayArriving := false }).countStray
  match s.bus.ctl with
  | .settling _ => t.setCtl (.settling (some (s.now + millis 15)))
  | .draining n _ => t.setCtl (.draining n (some (s.now + millis n)))
  | .idle | .slots _ _ _ => t
  | .sending _ | .awaiting _ _ | .streaming _ _ _ _ => s

/-! ## Replies and timeouts (R57, R58, R63, R64) -/

/-- A reply is judged and the station table, the counts and attention follow (R57, R66, R69, R71). For a STATUS command
the ATTENTION flag is not consulted, and a status byte taken DONE is entered (R70). -/
def judged (s : State) (a : Awaited) (bits : List Bool) : State × StepOutcome × Reply :=
  match judgeReply a bits with
  | .garbled => ((s.garble a.station).countGarbled, .garbled, replyFields bits)
  | .odd => (((s.offer (oddRecord a.station bits)).garble a.station).countOdd, .odd, replyFields bits)
  | .good r =>
    let s := (s.heard a.station .transaction).countGood
    let s :=
      if a.takes = typeStatus then if r.outcome = .done then s.statusByte a.station r.data else s
      else if r.attention then s.attend a.station else s
    (s, r.outcome, r)

/-- A transaction's reply ends: the controller is IDLE, and the outcome goes to the step (R52, R57). -/
def transactionReply (s : State) (t : Transaction) (bits : List Bool) : State :=
  let p := s.judged t.awaits bits
  p.1.enterIdle.busResult (.outcome p.2.1 p.2.2.data)

/-- A block read ends: to DRAINING after TERMINATOR, GARBLED and ODD, to IDLE otherwise, and the ending goes to the step
(R34, R64). -/
def endBlock (s : State) (e : BlockEnding) (words : List Nat) : State :=
  match e with
  | .terminator | .garbled | .odd => s.startDrain.busResult (.block e words)
  | .count | .last | .notReady | .refused | .silent | .lost => s.enterIdle.busResult (.block e words)

/-- A reply of a block read ends: an ending of R34, or a word kept and the reply timeout afresh (R33, R34, R63). -/
def blockReply (s : State) (b : BlockRead) (timeout : Nat) (words : List Nat) (bits : List Bool) : State :=
  let p := s.judged b.awaits bits
  let s := p.1
  match p.2.1 with
  | .garbled => s.endBlock .garbled words
  | .odd => s.endBlock .odd words
  | .refused => s.endBlock .refused words
  | .notReady => s.endBlock .notReady words
  | .done =>
    let kept := words ++ [p.2.2.data]
    if b.terminator = some p.2.2.data then s.endBlock .terminator kept
    else if p.2.2.last then s.endBlock .last kept
    else if b.count ≤ kept.length then s.endBlock .count kept
    else s.setCtl (.streaming b timeout kept (some (s.now + millis timeout)))
  | .silent | .lost | .held => s

end State

end Sys2Proof.Machine
end

