-- ==== Sys2Proof/Machine/Visit.lean ====
section
/-! DEFINITION. The visit machine (R134–R138). -/

namespace Sys2Proof.Machine

/-- The VISIT record (R138, 11.7). -/
def visitRecord (v : Visit) (e : VisitEvent) : Record where
  kind := .visit
  payload := [pack [(2, e.code), (4, v.input.val)], v.begin]

namespace State

/-- A VISIT record is offered (R138). -/
def offerVisit (s : State) (e : VisitEvent) : State := s.offer (visitRecord s.visit e)

/-- The visit begins: OFF becomes STARTING, with the four effects of R138 in their order. The record names the input whose
event this is (log 7). -/
def visitBegin (s : State) (i : Fin 16) (stamp : Stamp) : State :=
  let s := s.setVisitState { state := .starting, begin := stamp, input := i, endDue := none }
  let s := (s.offerVisit .begin).raiseCause .visit
  (s.offerTriggerTo s.settings.visitList .visit).makePending .localRelease

/-- The state becomes ENDING, and REMOTE_TAKE is made pending (R134, R135). -/
def visitEnding (s : State) : State :=
  (s.setVisitState { s.visit with state := .ending, endDue := none }).makePending .remoteTake

/-- The visit aborts: the pending LOCAL_RELEASE is cancelled, the state is OFF, and a VISIT record says so (R135). -/
def visitAbort (s : State) : State :=
  (s.cancelPending.setVisitState { s.visit with state := .off }).offerVisit .aborted

/-- An active event of the visit machine (R135). -/
def visitActive (s : State) (i : Fin 16) (stamp : Stamp) : State :=
  match s.visit.state with
  | .off => s.visitBegin i stamp
  | .starting | .on => s
  | .leaving => s.setVisitState { s.visit with state := .on, endDue := none }
  | .ending => s.cancelPending.setVisitState { s.visit with state := .on }

/-- An inactive event of the visit machine (R135). -/
def visitInactive (s : State) : State :=
  match s.visit.state with
  | .off | .leaving | .ending => s
  | .starting => s.visitAbort
  | .on =>
    if s.settings.endDelay = 0 then s.visitEnding
    else s.setVisitState { s.visit with state := .leaving, endDue := some (s.now + seconds s.settings.endDelay) }

/-- The forced end of a visit whose input's role ends (R134). -/
def visitForcedEnd (s : State) : State :=
  match s.visit.state with
  | .off | .ending => s
  | .starting => s.visitAbort
  | .on | .leaving => s.visitEnding

/-- The report that a visit broadcast has been sent (R136). -/
def visitReport (s : State) (b : VisitBroadcast) : State :=
  match b, s.visit.state with
  | .localRelease, .off => s.makePending .remoteTake
  | .localRelease, .starting => s.setVisitState { s.visit with state := .on }
  | .localRelease, .on | .localRelease, .leaving | .localRelease, .ending => s
  | .remoteTake, .off | .remoteTake, .starting => s
  | .remoteTake, .on | .remoteTake, .leaving => s.makePending .localRelease
  | .remoteTake, .ending =>
    ((s.setVisitState { s.visit with state := .off }).offerVisit .ended).raiseCause .visit

end State

/-- END_DELAY_EXPIRY: the visit end delay expires; the state becomes ENDING and REMOTE_TAKE is made pending (R135). -/
def execEndDelayExpiry (s : State) : Host.Outcome State Fault Refusal :=
  .next (s.whenReady fun s =>
    match s.visit.state, s.visit.endDue with
    | .leaving, some due => s.whenDue due State.visitEnding
    | _, _ => s)

end Sys2Proof.Machine
end

