-- ==== Sys2Proof/Machine/Inputs.lean ====
section
/-! DEFINITION. The Contact Input Unit: debounce, edges, captures, tachometers, settling (R123–R133, R139). -/

namespace Sys2Proof.Machine

/-- The address of an input's entry in the contact input table (11.2). -/
def inputAddr (i : Fin 16) : Nat := 0xC0 + 4 * i.val

/-- Whether the raw level of an input is its active level (R123). -/
def isActive (g : InputSettings) (x : Input) : Bool := x.raw != g.activeLow

/-- The code of an edge: ACTIVATE 0, RELEASE 1 (11.8). -/
def edgeCode (active : Bool) : Nat := if active then 0 else 1

/-- Whether an edge is in a set of edges (R123). -/
def EdgeSet.has (e : EdgeSet) (active : Bool) : Bool := if active then e.activate else e.release

/-- The EDGE record (R127, 11.7). -/
def edgeRecord (i : Fin 16) (active : Bool) (stamp : Stamp) : Record where
  kind := .edge
  payload := [pack [(4, i.val), (1, edgeCode active)], stamp]

/-- The status word of an input, with the held flags given: bit 0 of `held` for ACTIVATE, bit 1 for RELEASE (11.5). -/
def statusWord (x : Input) (held : Nat) : Word :=
  pack [(1, bit x.level), (1, bit x.settled), (1, bit x.stalled), (1, 0), (2, held), (10, 0), (16, x.count)]

namespace State

/-! ## The entry in the contact input table (R124) -/

/-- The held flags, as they stand in the status word (R124). -/
def heldFlags (s : State) (i : Fin 16) : Nat := field (s.peek (inputAddr i)) 4 2

/-- The status word is written with held flags. -/
def writeStatus (s : State) (i : Fin 16) (held : Nat) : State := s.poke (inputAddr i) (statusWord s.inputs[i] held)

/-- The status word is written, the held flags kept as they are read (R124). -/
def refreshStatus (s : State) (i : Fin 16) : State := s.writeStatus i (s.heldFlags i)

/-- An input's state changes, and its status word is written when what it shows of the unit's changes (R124). -/
def putInput (s : State) (i : Fin 16) (x : Input) : State :=
  let old := s.inputs[i]
  let s := s.setInputAt i x
  if statusWord old 0 = statusWord x 0 then s else s.refreshStatus i

/-- An input's state changes with its period, which is written before the status word (R124, R131, R132, R133). That the status
word is written then also where what it shows stays is a DESIGN CHOICE (log 34). -/
def putPeriod (s : State) (i : Fin 16) (x : Input) : State :=
  ((s.setInputAt i x).poke (inputAddr i + 1) (BitVec.ofNat 32 x.period)).refreshStatus i

/-! ## Edges of a contact input (R127, R128) -/

/-- Whether an edge is captured: always under LATEST, and under FIRST_HOLD where the flag of its kind is clear (R128). -/
def captures (s : State) (i : Fin 16) (active : Bool) : Bool :=
  !s.settings.inputs[i].firstHold || !(s.heldFlags i).testBit (edgeCode active)

/-- The held flags an edge leaves: its own set under FIRST_HOLD, all as read under LATEST (R128). -/
def heldAfter (s : State) (i : Fin 16) (active : Bool) : Nat :=
  if s.settings.inputs[i].firstHold then s.heldFlags i ||| 2 ^ edgeCode active else s.heldFlags i

/-- Effects 1 and 2 of an edge: the level, the count and the capture, with the words that show them (R127, R128). -/
def countEdge (s : State) (i : Fin 16) (active : Bool) : State :=
  let x := s.inputs[i]
  let held := s.heldAfter i active
  let x := { x with level := active, window := .none, count := satInc 65535 x.count }
  if s.captures i active then
    let stamp := s.time.timestamp
    let x := if active then { x with actCap := stamp } else { x with relCap := stamp }
    ((s.setInputAt i x).poke (inputAddr i + 2 + edgeCode active) stamp).writeStatus i held
  else (s.setInputAt i x).writeStatus i held

/-- An edge of an enabled input in contact mode, taken whole (R127). -/
def contactEdge (s : State) (i : Fin 16) (active : Bool) : State :=
  let g := s.settings.inputs[i]
  let stamp := s.time.timestamp
  let s := s.countEdge i active
  let s := if g.recordEdges.has active then s.offer (edgeRecord i active stamp) else s
  let s := if g.wakeEdges.has active then s.raiseCause .edge else s
  let s := if g.triggerEdge.has active then s.offerTriggerTo g.triggerList .edge else s
  if s.settings.visitInput = some i then
    if active then s.visitActive i stamp else s.visitInactive
  else s

/-! ## Settling (R126, R133) -/

/-- The first window ends: the debounced level takes the raw level and the settled indication sets, without an edge
(R126). -/
def endFirstWindow (s : State) (i : Fin 16) : State :=
  let x := s.inputs[i]
  s.putInput i { x with level := isActive s.settings.inputs[i] x, settled := true, window := .none }

/-- A first window begins; with debounce 0 the input settles at once (R126). -/
def beginFirstWindow (s : State) (i : Fin 16) : State :=
  let g := s.settings.inputs[i]
  if g.debounce = 0 then s.endFirstWindow i
  else s.putInput i { s.inputs[i] with window := .first (s.now + millis g.debounce) }

/-- The event of the visit machine that a settle is: the visit input settled active (R126, R135). -/
def settleEvent (s : State) (i : Fin 16) : State :=
  if s.settings.visitInput = some i ∧ s.inputs[i].settled ∧ s.inputs[i].level ∧ ¬ s.settings.inputs[i].tach then
    s.visitActive i s.time.timestamp
  else s

/-- An input enabled by the settings settles; `tached` says whether it was in tach mode before. In tach mode it settles at
once, and its stall interval starts. In contact mode a first window begins. The period of an input that enters or leaves
tach mode is set to 0, and a stall that stood is told ended (R124, R126, R130, R133). -/
def settleInput (s : State) (i : Fin 16) (tached : Bool) : State :=
  let g := s.settings.inputs[i]
  let x := s.inputs[i]
  let clear := { x with stalled := false, period := 0, window := .none, lastEdge := none, stallFrom := none }
  let t :=
    if g.tach then
      s.putPeriod i { clear with level := isActive g x, settled := true, stallFrom := some s.now }
    else
      let s := if tached then s.poke (inputAddr i + 1) 0 else s
      (s.putInput i { clear with level := false, settled := false }).beginFirstWindow i
  if x.stalled then t.clearNotice i else t

/-- An input is disabled: its window is cancelled, its level reads inactive and its settled indication clear. A tach
input's period, stall and last edge go as R133 says of a change of enabled; `tached` says whether it was in tach mode
(R123, R124, R126, R133). -/
def disableInput (s : State) (i : Fin 16) (tached : Bool) : State :=
  let x := s.inputs[i]
  let s := if tached then s.poke (inputAddr i + 1) 0 else s
  let t :=
    s.putInput i
      { x with
        level := false, settled := false, stalled := false, period := 0, window := .none, lastEdge := none
        stallFrom := none }
  if x.stalled then t.clearNotice i else t

/-! ## Tachometers (R130–R133) -/

/-- An active edge of a tach input (R130, R131). -/
def tachEdge (s : State) (i : Fin 16) : State :=
  let x := s.inputs[i]
  let x := { x with level := true, count := satInc 65535 x.count }
  match x.lastEdge with
  | some m =>
    let t :=
      s.putPeriod i
        { x with period := min (s.now - m) 65535, stalled := false, lastEdge := some s.now, stallFrom := some s.now }
    if x.stalled then t.clearNotice i else t
  | none =>
    s.putInput i { x with lastEdge := some s.now, stallFrom := if x.stalled then none else some s.now }

/-- The input stalls, and the Duty Controller is told (R132). -/
def stallInput (s : State) (i : Fin 16) : State :=
  (s.putPeriod i
    { s.inputs[i] with stalled := true, period := 65535, lastEdge := none, stallFrom := none }).stallNotice i

/-- The running stall interval of an enabled tach input is compared with the stall time in force: an input whose interval
has run its length stalls (R132, R133). -/
def compareStall (s : State) (i : Fin 16) : State :=
  let g := s.settings.inputs[i]
  match s.inputs[i].stallFrom with
  | some m => if g.enabled ∧ g.tach ∧ m + tens g.stallTime ≤ s.now then s.stallInput i else s
  | none => s

/-! ## Raw changes (R125, R126, R130) -/

/-- The raw level on the pin; it is no state of the unit's, and stands through resets. -/
def setRaw (s : State) (i : Fin 16) (high : Bool) : State := s.setInputAt i { s.inputs[i] with raw := high }

/-- A raw change at an input in contact mode. During a first window it starts the window again. Afterwards a level that
differs from the debounced level starts a debounce window, or with debounce 0 is an edge at once; a level that agrees
cancels the window (R125, R126). -/
def contactRaw (s : State) (i : Fin 16) : State :=
  let g := s.settings.inputs[i]
  let x := s.inputs[i]
  if ¬ x.settled then (s.beginFirstWindow i).settleEvent i
  else if isActive g x = x.level then s.putInput i { x with window := .none }
  else if g.debounce = 0 then s.contactEdge i (isActive g x)
  else s.putInput i { x with window := .debounce (s.now + millis g.debounce) }

/-- A debounce window ends: with the raw level still different, the debounced level takes it, which is the edge (R125). -/
def endWindow (s : State) (i : Fin 16) : State :=
  let x := s.inputs[i]
  if isActive s.settings.inputs[i] x = x.level then s.putInput i { x with window := .none }
  else s.contactEdge i (isActive s.settings.inputs[i] x)

/-- A raw change at an input in tach mode: the level follows, and a change to the active level is an active edge (R130). -/
def tachRaw (s : State) (i : Fin 16) : State :=
  if isActive s.settings.inputs[i] s.inputs[i] then s.tachEdge i else s.putInput i { s.inputs[i] with level := false }

end State

/-- RAW_LEVEL_CHANGE: the level on an input's pin changes; an enabled input takes it by its mode, and a disabled one is
watched for nothing (R123, R125, R126, R130). The pin changes in a reset too. -/
def execRawLevelChange (i : Fin 16) (high : Bool) (s : State) : Host.Outcome State Fault Refusal :=
  .next ((s.setRaw i high).whenReady fun s =>
    let g := s.settings.inputs[i]
    if ¬ g.enabled then s else if g.tach then s.tachRaw i else s.contactRaw i)

/-- DEBOUNCE_WINDOW_EXPIRY: with the raw level still different, the debounced level takes it, which is the edge (R125). -/
def execDebounceWindowExpiry (i : Fin 16) (s : State) : Host.Outcome State Fault Refusal :=
  .next (s.whenReady fun s =>
    match s.inputs[i].window with
    | .debounce due => s.whenDue due fun s => s.endWindow i
    | .none | .first _ => s)

/-- FIRST_WINDOW_EXPIRY: the input settles without an edge; the visit input settling active is an active event
(R126, R135). -/
def execFirstWindowExpiry (i : Fin 16) (s : State) : Host.Outcome State Fault Refusal :=
  .next (s.whenReady fun s =>
    match s.inputs[i].window with
    | .first due => s.whenDue due fun s => (s.endFirstWindow i).settleEvent i
    | .none | .debounce _ => s)

/-- TACH_ACTIVE_EDGE: the raw level of an input changes to its active level, `elapsed` units of 10 µs of the base after
the command before it; an enabled input in tach mode takes it as an active edge, and one in contact mode as the raw change
it is (R125, R130, R131, R164). -/
def execTachActiveEdge (i : Fin 16) (elapsed : Nat) (s : State) : Host.Outcome State Fault Refusal :=
  .next (((s.elapse elapsed).setRaw i (!s.settings.inputs[i].activeLow)).whenReady fun s =>
    let g := s.settings.inputs[i]
    if ¬ g.enabled then s else if g.tach then s.tachEdge i else s.contactRaw i)

/-- STALL_INTERVAL_EXPIRY: the stall interval of an enabled tach input expires, and the input stalls. An active edge taken
first has started the interval again, and no stall occurs (R132). -/
def execStallIntervalExpiry (i : Fin 16) (s : State) : Host.Outcome State Fault Refusal :=
  .next (s.whenReady fun s => s.compareStall i)

end Sys2Proof.Machine
end

