-- ==== Sys2Proof/Machine/BusCommands.lean ====
section
/-! DEFINITION. The commands of the Instrument Bus Controller: frames sent, replies, slots, quiet intervals (chapter 3). -/

namespace Sys2Proof.Machine

/-- How a roll-call answer slot is read (R62). -/
inductive SlotReading where
  | presence (attention : Bool)
  | noAnswer
  | garbled
  deriving DecidableEq, Repr

/-- The reading of what a slot held: a good answer is one whose two bits match their complements (R62). Activity outside the
answer pattern garbles the slot and counts as no stray frame, which is a DESIGN CHOICE (log 21). -/
def readSlot : SlotAnswer → SlotReading
  | .nothing => .noAnswer
  | .activity => .garbled
  | .bits p a np na =>
    if p = !np ∧ a = !na then if p then .presence a else .noAnswer else .garbled

namespace State

/-- A slot's reading acts on the station's record, the counts and attention (R62, R66, R68, R69). -/
def takeSlotReading (s : State) (i : Fin 30) : SlotReading → State
  | .presence attention =>
    let s := s.heard i .rollCall
    if attention then s.attend i else s
  | .noAnswer => s.silence i .rollCall
  | .garbled => (s.garble i).countGarbled

/-- The bit of a station in the maps of a roll call: bit n for station n (11.7). -/
def mapBit (i : Fin 30) (on : Bool) : Word := if on then BitVec.ofNat 32 (2 ^ (i.val + 1)) else 0

/-- A slot passes: after the thirtieth the roll call ends (R61). -/
def passSlot (s : State) (i : Fin 30) (present attention : Word) (r : SlotReading) : State :=
  let present := present ||| mapBit i (match r with | .presence _ => true | .noAnswer | .garbled => false)
  let attention := attention ||| mapBit i (match r with | .presence a => a | .noAnswer | .garbled => false)
  let s := s.takeSlotReading i r
  if h : i.val + 1 < 30 then s.setCtl (.slots ⟨i.val + 1, h⟩ present attention)
  else s.countRollCall.enterIdle.busResult (.roll present attention)

/-- A visit broadcast's last bit has gone out: the controller is IDLE, the frame is counted, the broadcast is reported, and
whatever waits is taken (R60, R74, R136). -/
def visitSent (s : State) (b : VisitBroadcast) : State := ((s.setCtl .idle).countFrame.visitReport b).takeWaiting

/-- An awaited reply begins: the timeout stops (R56, R63). R52's table names no state that follows AWAITING then; that the bus
state stays AWAITING until the frame ends is a DESIGN CHOICE (log 21). -/
def replyBegins (s : State) : State :=
  match s.bus.ctl with
  | .awaiting t _ => s.setCtl (.awaiting t none)
  | .streaming b timeout words _ => s.setCtl (.streaming b timeout words none)
  | .settling _ | .idle | .sending _ | .slots _ _ _ | .draining _ _ => s.strayBegins

end State

/-- COMMAND_FRAME_SENT: the last bit of a command frame goes out; the reply timeout starts (R56, R63, R71). -/
def execCommandFrameSent (s : State) : Host.Outcome State Fault Refusal :=
  .next (s.whenReady fun s =>
    match s.bus.ctl with
    | .sending (.work (.transaction t) timeout) =>
      s.countFrame.setCtl (.awaiting t (some (s.now + millis timeout)))
    | .sending (.work (.block b) timeout) =>
      s.countFrame.setCtl (.streaming b timeout [] (some (s.now + millis timeout)))
    | _ => s)

/-- BROADCAST_SENT: the last bit of a broadcast goes out. The step completes, or the visit broadcast is reported sent; the
controller's own REMOTE_TAKE is not reported (R60, R71, R74, R75). -/
def execBroadcastSent (s : State) : Host.Outcome State Fault Refusal :=
  .next (s.whenReady fun s =>
    match s.bus.ctl with
    | .sending (.work .sampleAll _) => s.countFrame.enterIdle.busResult .sent
    | .sending (.work .clearAll _) => s.countFrame.enterIdle.busResult .sent
    | .sending (.visit b) => s.visitSent b
    | .sending .ownTake => s.countFrame.enterIdle
    | _ => s)

/-- ROLL_CALL_FRAME_SENT: the controller enters SLOTS (R61, R71). -/
def execRollCallFrameSent (s : State) : Host.Outcome State Fault Refusal :=
  .next (s.whenReady fun s =>
    match s.bus.ctl with
    | .sending (.work .rollCall _) => s.countFrame.setCtl (.slots 0 0 0)
    | _ => s)

/-- ROLL_CALL_SLOT: the next answer slot passes and is read (R61, R62). -/
def execRollCallSlot (answer : SlotAnswer) (s : State) : Host.Outcome State Fault Refusal :=
  .next (s.whenReady fun s =>
    match s.bus.ctl with
    | .slots i present attention => s.passSlot i present attention (readSlot answer)
    | .settling _ | .idle | .sending _ | .awaiting _ _ | .streaming _ _ _ _ | .draining _ _ => s)

/-- REPLY_BEGIN: a frame begins. An awaited one stops the reply timeout; another is a stray frame (R56, R59, R63). -/
def execReplyBegin (s : State) : Host.Outcome State Fault Refusal := .next (s.whenReady State.replyBegins)

/-- REPLY_END: a frame ends. An awaited one is judged; another is a stray frame (R57, R59, R63). -/
def execReplyEnd (bits : List Bool) (s : State) : Host.Outcome State Fault Refusal :=
  .next (s.whenReady fun s =>
    match s.bus.ctl with
    | .awaiting t _ => s.transactionReply t bits
    | .streaming b timeout words _ => s.blockReply b timeout words bits
    | .settling _ | .idle | .sending _ | .slots _ _ _ | .draining _ _ => s.strayEnds)

/-- REPLY_TIMEOUT: the reply timeout expires before a reply has begun: a silence, and the exchange ends SILENT
(R58, R63). -/
def execReplyTimeout (s : State) : Host.Outcome State Fault Refusal :=
  .next (s.whenReady fun s =>
    match s.bus.ctl with
    | .awaiting t (some due) =>
      s.whenDue due fun s => ((s.silence t.station .transaction).countSilent.enterIdle).busResult (.outcome .silent 0)
    | .streaming b _ words (some due) =>
      s.whenDue due fun s => (s.silence b.station .transaction).countSilent.endBlock .silent words
    | _ => s)

/-- STRAY_FRAME: a frame that was not awaited ends; it is counted and discarded (R59). -/
def execStrayFrame (s : State) : Host.Outcome State Fault Refusal := .next (s.whenReady State.strayEnds)

/-- DRAIN_END: the line has been quiet for the drain interval; the controller is IDLE and takes whatever is waiting
(R64). -/
def execDrainEnd (s : State) : Host.Outcome State Fault Refusal :=
  .next (s.whenReady fun s =>
    match s.bus.ctl with
    | .draining _ (some due) => s.whenDue due State.enterIdle
    | _ => s)

/-- SETTLING_END: the line has been quiet for 15 ms; the controller sends its own REMOTE_TAKE (R75). -/
def execSettlingEnd (s : State) : Host.Outcome State Fault Refusal :=
  .next (s.whenReady fun s =>
    match s.bus.ctl with
    | .settling (some due) => s.whenDue due fun s => s.setCtl (.sending .ownTake)
    | _ => s)

end Sys2Proof.Machine
end

