-- ==== Sys2Proof/Machine/Steps.lean ====
section
/-! DEFINITION. The seventeen step kinds and the expiries that wake a waiting step (chapter 2). -/

namespace Sys2Proof.Machine

/-- The STAMP record (R44, 11.7). -/
def stampRecord (mark : Nat) (l : Fin 32) (addr : Nat) : Record where
  kind := .stamp
  payload := [pack [(16, mark), (5, l.val)], BitVec.ofNat 32 addr]

/-- The RAISE record (R48, 11.7). -/
def raiseRecord (code : Nat) (l : Fin 32) (addr : Nat) : Record where
  kind := .raise
  payload := [pack [(8, code), (5, l.val)], BitVec.ofNat 32 addr]

namespace State

/-- The run ends with BAD_STEP at the step address, which the status block shows as the step begins; the step is not
counted (R15, R28). -/
def badStep (s : State) (c : Ctx) : State := s.showRunning.endRun .badStep none (some c.addr)

/-- A step read without fault is counted, and the status block shows its address (R15). -/
def beginStep (s : State) (c : Ctx) : State := (s.setCtx (some { c with executed := c.executed + 1 })).showRunning

/-- The step at the step address begins, where the engine stands between two steps and the step is of kind `k`. The engine
reads its words, checks its kind and extent, and reads its fields; a fault ends the run with BAD_STEP (R15, R28). Words that
are no step of any kind end the run at whichever step command reads them (log 15); a step of another kind is left to its own
command (log 10). -/
def atStep {α : Type} (k : StepKind) (fields : Ctx → Word → Word → Word → Option α) (body : α → Ctx → State → State)
    (s : State) : State :=
  match s.engine.ctx with
  | some c =>
    if c.phase = .between then
      match stepKindAt s.mem c.addr with
      | none => s.badStep c
      | some k' =>
        if k' = k then
          match fields c (s.peek c.addr) (s.peek (c.addr + 1)) (s.peek (c.addr + 2)) with
          | none => s.badStep c
          | some f => body f c (s.beginStep c)
        else s
    else s
  | none => s

/-- A bus step hands its work (R24, R52). -/
def handStep (s : State) (step : BusStep) (w : Work) : State := (s.setPhase (.bus step)).handWork w

/-- The transaction of a READ (R30). -/
def readWork (st : ReadStep) : Work := .transaction (.read st.station st.sub st.wide)

/-- The value of a local source (R42); a COUNT is read and cleared as one event, and the cleared count is written to the
status word at the read (R129). -/
def localValue (s : State) : LocalSource → Nat × State
  | .tach i => (if s.settings.inputs[i].tach then s.inputs[i].period else 0, s)
  | .output c => (s.duty.channels[c].output, s)
  | .count i => (s.inputs[i].count, (s.setInputAt i { s.inputs[i] with count := 0 }).refreshStatus i)

/-- SAMPLE_LOCAL's value is taken, delivered and recorded, and the step completes (R29, R42, R43). -/
def sampleLocal (s : State) (st : LocalStep) (addr : Nat) : State :=
  let (v, s) := s.localValue st.source
  let (s, armed) := s.deliverTo st.watch .done false v
  let s := if st.record then s.offer (readingRecord st.source.place .done (some v) st.watch armed) else s
  s.finishStep none (addr + 1)

/-- RAISE's three effects, in their order (R48); the other half of 0042H is the wrap count. -/
def raiseStep (s : State) (code : Nat) (c : Ctx) : State :=
  let s := s.offer (raiseRecord code c.list c.addr)
  (s.poke 0x42 (s.word42 code)).raiseCause .raise

/-- LOOP returns to its mark while a count remains (R46). -/
def loopStep (s : State) (m : Nat × Nat) (c : Ctx) : State :=
  if m.2 = 0 then s.finishStep none (c.addr + 1)
  else (s.setCtx (s.engine.ctx.map fun c => { c with mark := some (m.1, m.2 - 1) })).finishStep none m.1

end State

open State in
/-- READ: one READ transaction is handed, with the retry budget for its retries (R30, R31). -/
def execRead (s : State) : Host.Outcome State Fault Refusal :=
  .next (s.whenReady (atStep .read (fun _ w0 w1 _ => readFields w0 w1) fun st _ s =>
    s.handStep (.read st st.budget) (readWork st)))

open State in
/-- BLOCK_READ: one block read is handed (R33). -/
def execBlockRead (s : State) : Host.Outcome State Fault Refusal :=
  .next (s.whenReady (atStep .blockRead (fun _ w0 w1 w2 => blockFields w0 w1 w2) fun st _ s =>
    s.handStep (.block st)
      (.block { station := st.station, sub := st.sub, wide := st.wide, count := st.count, terminator := st.terminator })))

open State in
/-- WRITE: one WRITE transaction is handed (R36); in a visit the step completes HELD (R27). -/
def execWrite (s : State) : Host.Outcome State Fault Refusal :=
  .next (s.whenReady (atStep .write (fun _ w0 w1 _ => writeFields w0 w1) fun st _ s =>
    s.handStep (.write st) (.transaction (.write st.station st.sub st.wide st.value))))

open State in
/-- CONTROL: one CONTROL transaction is handed (R37); in a visit the step completes HELD (R27). -/
def execControl (s : State) : Host.Outcome State Fault Refusal :=
  .next (s.whenReady (atStep .control (fun _ w0 _ _ => controlFields w0) fun st _ s =>
    s.handStep (.control st) (.transaction (.control st.station st.sub st.controlCode))))

open State in
/-- STATUS_POLL: one STATUS transaction is handed (R38). -/
def execStatusPoll (s : State) : Host.Outcome State Fault Refusal :=
  .next (s.whenReady (atStep .statusPoll (fun _ w0 _ _ => stationField w0) fun i _ s =>
    s.handStep (.statusPoll i) (.transaction (.status i))))

open State in
/-- ROLL_CALL: one roll call is handed (R39). -/
def execRollCall (s : State) : Host.Outcome State Fault Refusal :=
  .next (s.whenReady (atStep .rollCall (fun _ _ _ _ => some ()) fun _ _ s => s.handStep .rollCall .rollCall))

open State in
/-- SAMPLE_ALL: one SAMPLE_ALL broadcast is handed (R40). -/
def execSampleAll (s : State) : Host.Outcome State Fault Refusal :=
  .next (s.whenReady (atStep .sampleAll (fun _ _ _ _ => some ()) fun _ _ s => s.handStep .sampleAll .sampleAll))

open State in
/-- CLEAR: one CLEAR transaction, or one CLEAR_ALL broadcast (R41); in a visit the step completes HELD (R27). -/
def execClear (s : State) : Host.Outcome State Fault Refusal :=
  .next (s.whenReady (atStep .clear (fun _ w0 _ _ => clearFields w0) fun station _ s =>
    s.handStep .clear
      (match station with
        | some i => .transaction (.clear i)
        | none => .clearAll)))

open State in
/-- SAMPLE_LOCAL: a value of the part's own is taken, delivered and recorded (R42, R43). -/
def execSampleLocal (s : State) : Host.Outcome State Fault Refusal :=
  .next (s.whenReady (atStep .sampleLocal (fun _ w0 _ _ => localFields w0) fun st c s => s.sampleLocal st c.addr))

open State in
/-- STAMP: a STAMP record is offered (R44). -/
def execStamp (s : State) : Host.Outcome State Fault Refusal :=
  .next (s.whenReady (atStep .stamp (fun _ w0 _ _ => some (field w0 16 16)) fun m c s =>
    (s.offer (stampRecord m c.list c.addr)).finishStep none (c.addr + 1)))

open State in
/-- MARK: the loop mark is set at the step that follows, with one pass fewer than its count (R45). -/
def execMark (s : State) : Host.Outcome State Fault Refusal :=
  .next (s.whenReady (atStep .mark (fun _ w0 _ _ => markField w0) fun n c s =>
    (s.setCtx (s.engine.ctx.map fun x => { x with mark := some (c.addr + 1, n - 1) })).finishStep none (c.addr + 1)))

open State in
/-- LOOP: the run returns to its mark or falls through; with no mark it ends BAD_STEP and is not counted (R46). -/
def execLoop (s : State) : Host.Outcome State Fault Refusal :=
  .next (s.whenReady (atStep .loop (fun c _ _ _ => c.mark) fun m c s => s.loopStep m c))

open State in
/-- WAIT: an interval of the step's time starts (R47). -/
def execWait (s : State) : Host.Outcome State Fault Refusal :=
  .next (s.whenReady (atStep .wait (fun _ w0 _ _ => timeField w0) fun n _ s =>
    s.setPhase (.waiting (s.now + millis n))))

open State in
/-- RAISE: a RAISE record, the last raise code, and the RAISE cause (R48). -/
def execRaise (s : State) : Host.Outcome State Fault Refusal :=
  .next (s.whenReady (atStep .raise (fun _ w0 _ _ => some (field w0 16 8)) fun code c s =>
    (s.raiseStep code c).finishStep none (c.addr + 1)))

open State in
/-- CLOSE: the filling segment closes with reason LIST, where it holds a record (R49). -/
def execClose (s : State) : Host.Outcome State Fault Refusal :=
  .next (s.whenReady (atStep .close (fun _ _ _ _ => some ()) fun _ c s =>
    (if s.coll.recs = 0 then s else s.closeFilling .list).finishStep none (c.addr + 1)))

open State in
/-- CHAIN: a trigger with source CHAIN is offered; its answer does not change the step (R50). -/
def execChain (s : State) : Host.Outcome State Fault Refusal :=
  .next (s.whenReady (atStep .chain (fun _ w0 _ _ => listField w0) fun l c s =>
    (s.offerTrigger l .chain).finishStep none (c.addr + 1)))

open State in
/-- END: the run ends COMPLETED (R51). -/
def execEnd (s : State) : Host.Outcome State Fault Refusal :=
  .next (s.whenReady (atStep .endStep (fun _ _ _ _ => some ()) fun _ c s =>
    s.finishStep (some (.completed, none)) (c.addr + 1)))

/-- RETRY_SPACING_EXPIRY: the same command is handed again as a new transaction (R31). -/
def execRetrySpacingExpiry (s : State) : Host.Outcome State Fault Refusal :=
  .next (s.whenReady fun s =>
    match s.engine.ctx with
    | some { phase := .spacing st left due, .. } => s.whenDue due fun s => s.handStep (.read st left) (State.readWork st)
    | _ => s)

/-- WAIT_EXPIRY: the interval expires, and the WAIT step completes (R47). -/
def execWaitExpiry (s : State) : Host.Outcome State Fault Refusal :=
  .next (s.whenReady fun s =>
    match s.engine.ctx with
    | some { phase := .waiting due, addr := a, .. } => s.whenDue due fun s => s.finishStep none (a + 1)
    | _ => s)

end Sys2Proof.Machine
end

