-- ==== Sys2Proof/Machine/Apply.lean ====
section
/-! DEFINITION. The settings apply: checks, acceptance and its consequences in their order (R179, R180). -/

namespace Sys2Proof.Machine

/-- Whether any of fields 34 to 36 differs (R102, R180). -/
def geometryMoves (old new : Settings) : Bool :=
  decide (new.base ≠ old.base ∨ new.count ≠ old.count ∨ new.size ≠ old.size)

/-- Whether an apply settles an input: it is enabled, or its active level or tach mode changed, and it stands enabled
(R126, R133). -/
def resettles (old new : InputSettings) : Bool :=
  new.enabled && (!old.enabled || decide (new.activeLow ≠ old.activeLow) || decide (new.tach ≠ old.tach))

/-- Whether an apply ends the visit input's role (R134). -/
def roleEnds (old new : Settings) : Bool :=
  match old.visitInput with
  | none => false
  | some v =>
    let o := old.inputs[v]
    let g := new.inputs[v]
    decide (new.visitInput ≠ old.visitInput ∨ g.enabled ≠ o.enabled ∨ g.activeLow ≠ o.activeLow ∨ g.tach ≠ o.tach)

namespace State

/-- Consequence 1: the collection (R103, R120). -/
def applyCollection (s : State) (old : Settings) : State :=
  if geometryMoves old s.settings then s.restartCollection
  else if s.settings.closeAge ≠ old.closeAge then s.closeByAge else s

/-- Consequence 2: the station table, in address order (R72). -/
def applyBus (s : State) (old : Settings) : State :=
  if s.settings.lostLimit ≠ old.lostLimit then (List.finRange 30).foldl reexamine s else s

/-- What an apply does at one input first: it settles, or is disabled (R126, R133). -/
def applyEnable (old : Settings) (s : State) (i : Fin 16) : State :=
  let o := old.inputs[i]
  let g := s.settings.inputs[i]
  if resettles o g then s.settleInput i (o.tach || g.tach)
  else if o.enabled ∧ ¬ g.enabled then s.disableInput i (o.tach || g.tach) else s

/-- What an apply does at one input then: a changed stall time is compared with the interval that runs (R133). -/
def applyStallTime (old : Settings) (s : State) (i : Fin 16) : State :=
  if s.settings.inputs[i].stallTime ≠ old.inputs[i].stallTime then s.compareStall i else s

/-- The event that the settling of the visit input at once is, taken after the apply (R126, R134; log 14). -/
def applySettleEvent (s : State) (old : Settings) : State :=
  match s.settings.visitInput with
  | some v => if resettles old.inputs[v] s.settings.inputs[v] then s.settleEvent v else s
  | none => s

/-- Consequence 3: the inputs and the visit, in the order in which R180 names them: settles, stall-time comparisons, the forced
end (R126, R133, R134). The ascending order of the inputs, which decides the order of STALL records, is a DESIGN CHOICE
(log 28). -/
def applyInputs (s : State) (old : Settings) : State :=
  let s := (List.finRange 16).foldl (applyStallTime old) ((List.finRange 16).foldl (applyEnable old) s)
  (if roleEnds old s.settings then s.visitForcedEnd else s).applySettleEvent old

/-- Consequence 4: the channels whose tach input changed (R156). Their ascending order, which decides the order of their BEGIN
records, is a DESIGN CHOICE (log 28). -/
def applyChannels (s : State) (old : Settings) : State :=
  (List.finRange 4).foldl
    (fun s c => if s.settings.channels[c].tach ≠ old.channels[c].tach then s.retachChannel c else s) s

/-- When a survey timer started now first expires: a period of 0 stops it (R165, R166). -/
def timerStart (s : State) (n : Fin 4) : Option Moment :=
  if s.settings.timers[n] = 0 then none else some (s.now + tens s.settings.timers[n])

/-- Consequence 5: timers whose period changed restart at the apply (R166, R167). -/
def applyTimers (s : State) (old : Settings) : State :=
  s.setTime
    { s.time with
      surveyDue :=
        Vector.ofFn fun n => if s.settings.timers[n] ≠ old.timers[n] then s.timerStart n else s.time.surveyDue[n]
      sweepDue :=
        if s.settings.sweepPeriod ≠ old.sweepPeriod then s.now + tens s.settings.sweepPeriod else s.time.sweepDue }

/-- The settings in force become the block's values, the wake line is judged by their masks (R194), and the consequences
follow in their order (R180). -/
def acceptSettings (s : State) (new : Settings) : State :=
  let old := s.settings
  let s := (s.setSettings new).judge
  (((((s.applyCollection old).applyBus old).applyInputs old).applyChannels old).applyTimers old).recomputeShed .settings

/-- The work of SETTINGS_APPLY (R179, R180). -/
def applySettings (s : State) : Carried :=
  match firstBadField s.mem with
  | some n => (s, some (.badSettings, BitVec.ofNat 32 n))
  | none =>
    let new := blockSettings s.mem
    let moves := geometryMoves s.settings new
    if moves ∧ (s.engine.mode = .running ∨ s.engine.mode = .holding) then (s, some (.busy, 0))
    else (s.acceptSettings new, some (.ok, BitVec.ofNat 32 (bit moves)))

end State

end Sys2Proof.Machine
end

