-- ==== Sys2Proof/Machine/RequestKinds.lean ====
section
/-! DEFINITION. The fourteen request kinds, the sweep of one slot, the sweep timer, and the end of an identity programming
(R167, R173, R178–R187). -/

namespace Sys2Proof.Machine

/-- The TIME_SET record (R163, 11.7). -/
def timeSetRecord (old new : Stamp) : Record where
  kind := .timeSet
  payload := [old, new]

/-- The list a request names. -/
def Taken.list (r : Taken) : Fin 32 := Fin.ofNat 32 r.p1.toNat

/-- The watch a request names. -/
def Taken.watch (r : Taken) : Fin 64 := Fin.ofNat 64 r.p1.toNat

/-- The channel a request names. -/
def Taken.channel (r : Taken) : Fin 4 := Fin.ofNat 4 r.p1.toNat

/-- The stations a STATION_FORGET names: one, or with 0 all thirty (R73). -/
def Taken.stations (r : Taken) : List (Fin 30) :=
  if r.p1 = 0 then List.finRange 30 else [Fin.ofNat 30 (r.p1.toNat - 1)]

/-- The result of a LIST_RUN by the engine's answer (R181). A REQUESTED trigger is never shed (R6). -/
def runResult : Answer → Result × Word
  | .queued => (.ok, 1)
  | .coalesced => (.ok, 2)
  | .disabled | .shed => (.notActive, 0)

namespace State

/-- The work of LIST_RUN (R181). -/
def runList (s : State) (l : Fin 32) : Carried :=
  let p := s.trigger l .requested
  (p.1, some (runResult p.2))

/-- A cut of the running list: cut requested is set and the request held; a WAIT or a spacing ends at once, between two
steps the run ends, and bus work runs to its end (R17, R31). -/
def cutRun (s : State) (r : Taken) (c : Ctx) : State :=
  let s :=
    (s.setEngine { s.engine with cuts := s.engine.cuts + 1, ctx := some { c with cut := true } }).holdInFlight r .cut
  match c.phase with
  | .waiting _ => s.finishStep none (c.addr + 1)
  | .spacing st _ _ => s.readComplete st .notReady 0
  | .between => s.endRun .cut none c.lastDone
  | .bus _ => s

/-- The work of LIST_CUT (R17, R18, R182). -/
def cutList (s : State) (r : Taken) : Carried :=
  let queued := s.engine.queue.any (·.list = r.list)
  let t := if queued then s.setQueue (s.engine.queue.filter fun e => e.list ≠ r.list) else s
  let idle := (t, some (if queued then (Result.ok, (0 : Word)) else (Result.notActive, 0)))
  match t.engine.ctx with
  | some c => if c.list = r.list then (t.cutRun r c, none) else idle
  | none => idle

/-- The work of ENGINE_HOLD (R12, R182). -/
def holdEngine (s : State) (r : Taken) : Carried :=
  let pend := (s.setEngine { s.engine with holds := s.engine.holds + 1 }).holdInFlight r .hold
  match s.engine.mode with
  | .idle => (s.setMode .held, some (.ok, 0))
  | .running => (pend.setMode .holding, none)
  | .holding => (pend, none)
  | .held => (s, some (.ok, 0))

/-- The work of ENGINE_RESUME; withdrawn holds complete before it does (R13, R182). -/
def resumeEngine (s : State) : Carried :=
  match s.engine.mode with
  | .held => (s.startNext, some (.ok, 0))
  | .holding =>
    (((s.setEngine { s.engine with holds := 0 }).setMode .running).completeHeld .hold .withdrawn 0, some (.ok, 0))
  | .idle | .running => (s, some (.notActive, 0))

/-- The work of COLLECTION_CLOSE (R115, R184). -/
def closeCollection (s : State) : Carried :=
  match s.coll.st with
  | .filling _ _ => (s.closeFilling .asked, some (.ok, s.coll.seq.setWidth 32))
  | .between | .starved => (s, some (.notActive, 0))

/-- The work of COLLECTION_RESTART (R119, R184). -/
def restartRequest (s : State) : Carried :=
  match s.engine.mode with
  | .idle | .held => (s.restartCollection, some (.ok, 0))
  | .running | .holding => (s, some (.busy, 0))

/-- The work of TIME_SET (R163, R185). -/
def setClock (s : State) (v : Word) : Carried :=
  let old := s.time.timestamp
  (((s.setTime { s.time with timestamp := v }).showTimestamp).offer (timeSetRecord old v), some (.ok, old))

/-- A channel after a DUTY_SET (R145, R146): mode codes OFF 0, MANUAL 1, ADAPTIVE 2. -/
def dutyChannel (ch : Channel) (mode duty : Nat) : Channel :=
  match mode with
  | 0 => { ch with mode := .off, target := 0, output := 0, burst := .none, used := 0, handed := false }
  | 1 => { ch with mode := .manual, manual := min duty 255 }
  | _ => { ch with mode := .adaptive }

/-- The work of DUTY_SET (R145, R146, R185). -/
def setDutyMode (s : State) (r : Taken) : Carried :=
  let ch := dutyChannel s.duty.channels[r.channel] r.p2.toNat r.p3.toNat
  (s.setChannel r.channel ch, some (.ok, BitVec.ofNat 32 ch.manual))

/-- The work of STATION_FORGET (R73, R185). -/
def forgetStations (s : State) (l : List (Fin 30)) : Carried :=
  (l.foldl forget s, some (.ok, BitVec.ofNat 32 (l.countP fun i => s.bus.stations[i].state = .lost)))

/-- The work of IDENT_PROGRAM (R186). -/
def programIdent (s : State) (r : Taken) : Carried :=
  if s.ident.programming.isSome then (s, some (.busy, 0))
  else if s.ident.marker then (s, some (.alreadySet, 0))
  else
    ((s.setIdent
        { s.ident with
          programming := some { route := r.p1.setWidth 16, hut := r.p2.setWidth 12, due := s.now + millis 40 } }).holdInFlight
        r .ident, none)

/-- The end of an identity programming, with what was read back: the marker is written where both values match
(R186, R196). That the cells stand as they were until this moment, and then hold what was read back, is a DESIGN CHOICE: R196
does not say when within the programming they are written (log 35). -/
def endProgramming (s : State) (p : Programming) (route : BitVec 16) (hut : BitVec 12) : State :=
  let s := s.setIdent { s.ident with routeCell := route, hutCell := hut, programming := none }
  if route = p.route ∧ hut = p.hut then
    ((s.setIdent { s.ident with marker := true }).showIdent).completeHeld .ident .ok 0
  else s.completeHeld .ident .storeFault 0

end State

/-- SWEEP_TIMER_EXPIRY: the sweep timer restarts from its expiry and hands the Request Table a sweep request (R167). -/
def execSweepTimerExpiry (s : State) : Host.Outcome State Fault Refusal :=
  .next (s.whenReady fun s =>
    s.whenDue s.time.sweepDue fun s =>
      (s.setTime { s.time with sweepDue := s.time.sweepDue + tens s.settings.sweepPeriod }).requestSweep)

/-- SWEEP_SLOT: the sweep in progress examines its next slot (R173). -/
def execSweepSlot (s : State) : Host.Outcome State Fault Refusal := .next (s.whenReady State.sweepSlot)

/-- SETTINGS_APPLY (R179, R180). -/
def execSettingsApply (s : State) : Host.Outcome State Fault Refusal :=
  .next (s.whenReady fun s => s.carryOut .settingsApply fun _ s => s.applySettings)

/-- LIST_RUN (R181). -/
def execListRun (s : State) : Host.Outcome State Fault Refusal :=
  .next (s.whenReady fun s => s.carryOut .listRun fun r s => s.runList r.list)

/-- LIST_CUT (R17, R18, R182). -/
def execListCut (s : State) : Host.Outcome State Fault Refusal :=
  .next (s.whenReady fun s => s.carryOut .listCut fun r s => s.cutList r)

/-- ENGINE_HOLD (R12, R182). -/
def execEngineHold (s : State) : Host.Outcome State Fault Refusal :=
  .next (s.whenReady fun s => s.carryOut .engineHold fun r s => s.holdEngine r)

/-- ENGINE_RESUME (R13, R182). -/
def execEngineResume (s : State) : Host.Outcome State Fault Refusal :=
  .next (s.whenReady fun s => s.carryOut .engineResume fun _ s => s.resumeEngine)

/-- WATCH_ARM (R81, R183). -/
def execWatchArm (s : State) : Host.Outcome State Fault Refusal :=
  .next (s.whenReady fun s => s.carryOut .watchArm fun r s => s.armWatch r.watch)

/-- WATCH_DISARM (R82, R183). -/
def execWatchDisarm (s : State) : Host.Outcome State Fault Refusal :=
  .next (s.whenReady fun s => s.carryOut .watchDisarm fun r s => s.disarmWatch r.watch)

/-- WATCH_FEED (R87, R183); the value is a signed 32-bit number (R178). -/
def execWatchFeed (s : State) : Host.Outcome State Fault Refusal :=
  .next (s.whenReady fun s => s.carryOut .watchFeed fun r s => s.feedWatch r.watch (signed 32 r.p2.toNat))

/-- COLLECTION_CLOSE (R115, R184). -/
def execCollectionClose (s : State) : Host.Outcome State Fault Refusal :=
  .next (s.whenReady fun s => s.carryOut .collectionClose fun _ s => s.closeCollection)

/-- COLLECTION_RESTART (R119, R184). -/
def execCollectionRestart (s : State) : Host.Outcome State Fault Refusal :=
  .next (s.whenReady fun s => s.carryOut .collectionRestart fun _ s => s.restartRequest)

/-- TIME_SET (R163, R185). -/
def execTimeSet (s : State) : Host.Outcome State Fault Refusal :=
  .next (s.whenReady fun s => s.carryOut .timeSet fun r s => s.setClock r.p1)

/-- DUTY_SET (R145, R146, R185). -/
def execDutySet (s : State) : Host.Outcome State Fault Refusal :=
  .next (s.whenReady fun s => s.carryOut .dutySet fun r s => s.setDutyMode r)

/-- STATION_FORGET (R73, R185). -/
def execStationForget (s : State) : Host.Outcome State Fault Refusal :=
  .next (s.whenReady fun s => s.carryOut .stationForget fun r s => s.forgetStations r.stations)

/-- IDENT_PROGRAM (R186). -/
def execIdentProgram (s : State) : Host.Outcome State Fault Refusal :=
  .next (s.whenReady fun s => s.carryOut .identProgram fun r s => s.programIdent r)

/-- IDENT_PROGRAM_END: forty milliseconds after it began, the programming ends with the values read back (R186). -/
def execIdentProgramEnd (route : BitVec 16) (hut : BitVec 12) (s : State) : Host.Outcome State Fault Refusal :=
  .next (s.whenReady fun s =>
    match s.ident.programming with
    | some p => s.whenDue p.due fun s => s.endProgramming p route hut
    | none => s)

end Sys2Proof.Machine
end

