-- ==== Sys2Proof/Machine/Timers.lean ====
section
/-! DEFINITION. The Time Base: the timestamp, its wrap, the survey timers (R161–R166). -/

namespace Sys2Proof.Machine

/-- The TIME_WRAP record (R162, 11.7). -/
def timeWrapRecord (count : Nat) : Record where
  kind := .timeWrap
  payload := [BitVec.ofNat 32 count]

namespace State

/-- The next millisecond of the base is reached (R161, R164, log 6). -/
def nextMilli (s : State) : State :=
  let m := s.time.msMoment + millis 1
  s.setTime { s.time with msMoment := m, base := max s.time.base m }

/-- The timestamp wraps to 0: the wrap count rises, and a TIME_WRAP record is offered (R162). -/
def wrapTime (s : State) : State :=
  let s := s.nextMilli
  let n := satInc 65535 s.time.wrapCount
  (((s.setTime { s.time with timestamp := 0, wrapCount := n }).showTimestamp).showWrapCount).offer (timeWrapRecord n)

/-- The timestamp advances by one; from its top value that is the wrap (R161, R162). -/
def advanceTime (s : State) : State :=
  if s.time.timestamp = BitVec.allOnes 32 then s.wrapTime
  else
    let s := s.nextMilli
    (s.setTime { s.time with timestamp := s.time.timestamp + 1 }).showTimestamp

/-- The lists whose timer set includes a survey timer, in ascending number (R165). -/
def timerLists (s : State) (n : Fin 4) : List (Fin 32) :=
  (List.finRange 32).filter fun l => (readDir s.mem l).timers.testBit n.val

/-- A survey timer that has expired, and has offered every trigger of its expiry before, restarts from the moment it was due
and reads the timer sets (R165). -/
def beginSeries (s : State) (n : Fin 4) : State :=
  match s.time.series[n], s.time.surveyDue[n] with
  | [], some due =>
    s.whenDue due fun s =>
      s.setTime
        { s.time with
          surveyDue := s.time.surveyDue.set n (some (due + tens s.settings.timers[n]))
          series := s.time.series.set n (s.timerLists n) }
  | _ :: _, _ => s
  | [], none => s

/-- The next triggers of a survey timer's series are offered, at most `k` of them, one after another (R165). -/
def offerSeries (s : State) (n : Fin 4) (k : Nat) : State :=
  let lists := s.time.series[n]
  (lists.take k).foldl (fun s l => s.offerTrigger l (.timer n))
    (s.setTime { s.time with series := s.time.series.set n (lists.drop k) })

end State

/-- TIMESTAMP_ADVANCE: the timestamp advances by one, and its word is rewritten (R161); from the top value it wraps
(R162). -/
def execTimestampAdvance (s : State) : Host.Outcome State Fault Refusal := .next (s.whenReady State.advanceTime)

/-- TIME_WRAP: the timestamp, standing at its top value, wraps to 0 (R162). -/
def execTimeWrap (s : State) : Host.Outcome State Fault Refusal :=
  .next (s.whenReady fun s => if s.time.timestamp = BitVec.allOnes 32 then s.wrapTime else s)

/-- SURVEY_TIMER_EXPIRY: a running survey timer restarts from its expiry and offers a trigger for each entry that names it, in
ascending number. The operand says how many of the series come before another event; the command given again offers the next
ones, so that a trigger of another source may come between (R165, log 32). -/
def execSurveyTimerExpiry (o : SurveyOffer) (s : State) : Host.Outcome State Fault Refusal :=
  .next (s.whenReady fun s => (s.beginSeries o.timer).offerSeries o.timer o.offers)

end Sys2Proof.Machine
end

