-- ==== Sys2Proof/Machine/Resets.lean ====
section
/-! DEFINITION. The resets: their beginning, the reset work and their end (R190–R192, R195), with what every block is after
each kind of reset (R3, R22, R76, R77, R101, R121, R122, R139, R140, R159, R160, R169, R178, R187). -/

namespace Sys2Proof.Machine

/-- The RESTART record (R122, 11.7). -/
def restartRecord (c : ResetCause) : Record where
  kind := .restart
  payload := [BitVec.ofNat 32 c.code]

/-- A power-on or brown-out reset, which clears exchange memory (R191). -/
def ResetCause.cold : ResetCause → Bool
  | .powerOn | .brownOut => true
  | .hard | .soft => false

/-- A channel as a reset leaves it (R159). -/
def Channel.afterReset (ch : Channel) (c : ResetCause) : Channel :=
  if c = .soft then { ch with stalled := false, burst := .none, used := 0, handed := false } else State.resetChannel

/-- A watch as a reset leaves it (R101). -/
def Watch.afterReset (w : Watch) (c : ResetCause) : Watch :=
  if c.cold then State.resetWatch else { w.unrate with mark := none }

/-- A contact input as a reset leaves it, before it settles; the level on the pin stands (R139). -/
def Input.afterReset (x : Input) (c : ResetCause) : Input :=
  if c = .soft then
    { x with
      level := false, settled := false, stalled := false, period := 0, window := .none, lastEdge := none
      stallFrom := none }
  else { State.resetInput with raw := x.raw }

/-- The Collection Unit before the recovery of R121. That the record count, words used and open time of the filling segment,
which R121 and R122 do not name, become 0 is a DESIGN CHOICE (log 13). -/
def Coll.afterReset : Coll where
  st := .between
  next := 0
  nextSeq := 0
  recs := 0
  used := 0
  opened := 0
  seq := 0
  route := 0
  hut := 0
  drops := 0
  firstDrop := 0
  lastDrop := 0
  offered := 0
  written := 0
  dropped := 0

namespace State

/-! ## The beginning of a reset (R190) -/

/-- Work in progress in every block is abandoned (R22, R76, R77, R140, R159, R160, R178, R187). That the cells of the
Identity Store stand as they were before a programming cut off is a DESIGN CHOICE (log 35). -/
def abandonWork (s : State) (c : ResetCause) : State :=
  ((((((s.setWake { pending := 0, line := false }).setEngine
    { mode := .idle, queue := [], ctx := none, holds := 0, cuts := 0, completed := 0 }).setReq
    { sweep := none, sweepPending := false, sweepCount := 0, current := none, inflight := [] }).setBus
    { ctl := .settling none, waiting := none, visitPending := none, strayArriving := false
      stations := Vector.replicate 30 resetStation
      counts := { frames := 0, good := 0, silent := 0, garbled := 0, odd := 0, stray := 0, rollCalls := 0 } }).setVisit
    { state := .off, begin := 0, input := 0, endDue := none }).setDuty
    { channels := Vector.ofFn fun n => (s.duty.channels[n]).afterReset c, shed := .none }).setIdent
    { s.ident with programming := none }

/-- A reset begins, or becomes another: READY clears, the last reset cause is the new one, the pending causes are emptied
and the wake line released, and work in progress is abandoned (R190). -/
def beginReset (s : State) (phase : ResetPhase) (c : ResetCause) : State :=
  (s.abandonWork c).setPower { s.power with phase, cause := c, deferred := none }

/-! ## The reset work (R191, R192) -/

/-- Exchange memory is cleared and the built-in default settings written and taken (R191). -/
def clearMemory (s : State) : State :=
  (((s.setMem []).pokes 0 builtInBlock).setSettings builtInSettings).setRefused 0

/-- At a hard or soft reset the settings come from the settings block, or from the built-in defaults where a field of it is
bad (R192). At a power-on or brown-out reset they are the defaults that `clearMemory` took. -/
def resetSettings (s : State) : State :=
  if s.power.cause.cold then s
  else
    match firstBadField s.mem with
    | none => (s.setSettings (blockSettings s.mem)).setRefused 0
    | some n => (s.setSettings builtInSettings).setRefused n

/-- The Time Base after a reset (R169). -/
def resetTime (s : State) : State :=
  let soft := decide (s.power.cause = .soft)
  s.setTime
    { base := s.now
      msMoment := if soft then s.time.msMoment else s.now
      timestamp := if soft then s.time.timestamp else 0
      wrapCount := 0
      surveyDue := Vector.ofFn s.timerStart
      series := Vector.replicate 4 []
      sweepDue := s.now + tens s.settings.sweepPeriod
      rampDue := s.now + millis 100
      watchDue := s.now + seconds 1
      checked := 0 }

/-- The entry of an input after a reset, the status word last: at a soft reset it is written with the captures and the count
kept and the held flags as they are read, and otherwise all is 0 (R124, R139). -/
def resetEntry (c : ResetCause) (s : State) (i : Fin 16) : State :=
  let x := (s.inputs[i]).afterReset c
  ((s.setInputAt i x).pokes (inputAddr i + 1) [BitVec.ofNat 32 x.period, x.actCap, x.relCap]).writeStatus i
    (if c = .soft then s.heldFlags i else 0)

/-- Every block's state after the reset, but for the recovery of the collection (R76, R101, R121, R139). -/
def resetBlocks (s : State) : State :=
  let c := s.power.cause
  let s := s.setWatches (Vector.ofFn fun n => (s.watches[n]).afterReset c)
  let s := s.setColl Coll.afterReset
  let s := s.setBus { s.bus with ctl := .settling (some (s.now + millis 15)) }
  (List.finRange 16).foldl (resetEntry c) s

/-! ## Mirrors after a reset (R8, R77, R101, R106, R144, R169, R191, R196) -/

/-- A channel's mirror is written, the output last (R144). That it is written at every reset, also where the channel stands as
it was, is a DESIGN CHOICE (log 34). -/
def showChannel (s : State) (c : Fin 4) : State :=
  (s.poke (0xA3 + 2 * c.val) (channelWord s.duty.channels[c])).poke (0xA4 + 2 * c.val)
    (BitVec.ofNat 32 s.duty.channels[c].output)

/-- The status block is written with every block's state, also where a rule has a word written only as it changes: the sweep
count, the lists-completed count and the channels (R20, R144, R172: a DESIGN CHOICE, log 34). The queue words beyond the
count are written 0 (log 13). -/
def showAll (s : State) : State :=
  let s := s.show40.showTimestamp.showWrapCount.showSweepCount.showCompleted.showRunning.showQueue
  let s := s.pokes 0x57 (countWords s.bus.counts)
  let s := (List.finRange 30).foldl showStation s
  let s := s.writeColl
  ((List.finRange 4).foldl showChannel s).showIdent

/-! ## The end of a reset (R121, R122, R195) -/

/-- READY sets, and RESTART is raised into the empty set (R190, R195). -/
def setReady (s : State) : State := (s.setPower { s.power with phase := .ready }).raiseCause .restart

/-- A header found FILLING is closed RESET, from what stands in memory, and the next index follows it; the unassigned bits of
its first word are written 0 (R121, R199). -/
def recoverSegment (s : State) (i : Nat) : State :=
  if s.segState i = 1 then
    let a := s.segAddr i
    let head := segWord0 2 (BitVec.ofNat 12 (field (s.peek a) 16 12))
    let sizes := segWord1 (field (s.peek (a + 1)) 0 14) (field (s.peek (a + 1)) 14 15) CloseReason.reset.code
    ((((s.poke (a + 4) s.time.timestamp).poke (a + 1) sizes).poke a head).setColl
      { s.coll with next := Fin.ofNat 16 ((i + 1) % s.settings.count) }).raiseCause .closed
  else s

/-- The recovery of the collection, its mirror, and the RESTART record, the first offer after the reset (R121, R122). -/
def recover (s : State) : State :=
  let s := (List.range s.settings.count).foldl recoverSegment s
  s.writeColl.offer (restartRecord s.power.cause)

/-- Every enabled input settles; the visit input settling active at once is an active event (R126, R139, R140, R141). The
ascending order is a DESIGN CHOICE (log 28). -/
def settleAll (s : State) : State :=
  (List.finRange 16).foldl
    (fun s i => if s.settings.inputs[i].enabled then (s.settleInput i s.settings.inputs[i].tach).settleEvent i else s) s

/-- The reset work is done and the reset ends (R191, R192, R195). -/
def finishReset (s : State) : State :=
  let s := s.resetSettings.resetTime.resetBlocks.setReady
  (((List.finRange 64).foldl showWatch s.showAll).recover).settleAll

/-! ## Hard and soft resets (R189, R190) -/

/-- A second cause of R190's table stands directly behind the command in the queue: the reset input becomes active, the supply
falls low, or the host writes CONTROL with bit 0 set. That it appears while the reset which the command ends is still in
progress is a DESIGN CHOICE (R189, R190, log 19). -/
def secondCauseNext (s : State) : Bool :=
  match s.pending with
  | .hardResetAssert :: _ | .brownOut :: _ | .softReset :: _ => true
  | _ => false

/-- The level of the reset input. -/
def setPin (s : State) (active : Bool) : State := s.setPower { s.power with pin := active }

/-- A reset in progress goes on in another phase. -/
def setResetPhase (s : State) (phase : ResetPhase) : State := s.setPower { s.power with phase }

/-- The work of a reset that nothing holds any longer: READY sets at its end, unless a second cause meets it (R190–R192). -/
def resetWork (s : State) : State :=
  let s := s.setResetPhase .working
  if s.secondCauseNext then s else s.finishReset

/-- A hard reset begins; with the reset input released already, its work follows at once (R190). -/
def beginHard (s : State) : State :=
  let s := s.beginReset .hardHeld .hard
  if s.power.pin then s else s.resetWork

/-- A soft reset begins, and its work follows (R189, R192). -/
def beginSoft (s : State) : State := (s.beginReset .working .soft).resetWork

/-- The reset input becomes active during the reset work: a soft reset becomes a hard one, and any other goes on and waits
for the input's release (R190). -/
def holdWork (s : State) : State :=
  match s.power.cause with
  | .soft => s.beginReset .hardHeld .hard
  | .hard => s.setResetPhase .hardHeld
  | .powerOn | .brownOut => s.setResetPhase .clearedHeld

/-- A hard or soft reset waits for the completion of the slot whose request is being carried out (R190). That it waits also for
a request that is then held in flight, until it is held, is a DESIGN CHOICE (log 31). -/
def defer (s : State) (d : DeferredReset) : State := s.setPower { s.power with deferred := some d }

end State

/-- POWER_ON: a power-on reset begins, and the memory clearing starts (R190, R191). -/
def execPowerOn (s : State) : Host.Outcome State Fault Refusal := .next (s.beginReset .clearing .powerOn)

/-- BROWN_OUT: a brown-out reset begins, begins again, or takes the place of another; it lasts while the supply is low
(R190). -/
def execBrownOut (s : State) : Host.Outcome State Fault Refusal := .next (s.beginReset .supplyLow .brownOut)

/-- SUPPLY_RESTORED: the supply holds again, and the memory clearing starts (R191). -/
def execSupplyRestored (s : State) : Host.Outcome State Fault Refusal :=
  .next (if s.power.phase = .supplyLow then s.setPower { s.power with phase := .clearing } else s)

/-- MEMORY_CLEAR_DONE: memory is clear and the defaults are in force; the reset ends, or with the reset input active waits
for its release (R190, R191). -/
def execMemoryClearDone (s : State) : Host.Outcome State Fault Refusal :=
  .next (if s.power.phase = .clearing then
    let s := s.clearMemory
    if s.power.pin then s.setResetPhase .clearedHeld else s.resetWork
  else s)

/-- HARD_RESET_ASSERT: the reset input becomes active. A hard reset begins, or waits for a slot's completion, where it makes
a waiting soft reset a hard one. A soft reset in progress becomes a hard one, and any other goes on (R190). -/
def execHardResetAssert (s : State) : Host.Outcome State Fault Refusal :=
  .next (
    let s := s.setPin true
    match s.power.phase with
    | .ready => if s.req.current.isSome then s.defer .hard else s.beginHard
    | .working => s.holdWork
    | .supplyLow | .clearing | .clearedHeld | .hardHeld => s)

/-- HARD_RESET_RELEASE: the reset input is released; the work of a reset that waited for it follows, and READY sets (R190,
R192). -/
def execHardResetRelease (s : State) : Host.Outcome State Fault Refusal :=
  .next (
    let s := s.setPin false
    match s.power.phase with
    | .hardHeld | .clearedHeld => s.resetWork
    | .ready | .supplyLow | .clearing | .working => s)

/-- SOFT_RESET: a write of 1 to bit 0 of CONTROL. With READY set a soft reset begins, or waits for a slot's completion; while
one waits, or READY is clear, the write is discarded, and reset work that it meets goes on (R188, R189, R190). -/
def execSoftReset (s : State) : Host.Outcome State Fault Refusal :=
  .next (
    match s.power.phase with
    | .ready =>
      if s.power.deferred.isSome then s else if s.req.current.isSome then s.defer .soft else s.beginSoft
    | .working => s.resetWork
    | .supplyLow | .clearing | .clearedHeld | .hardHeld => s)

/-- DEFERRED_RESET_BEGIN: the slot has been completed, and the reset that waited for it begins (R190). Three points are DESIGN
CHOICES (log 31): a request that is held in flight (ENGINE_HOLD, LIST_CUT, IDENT_PROGRAM) is waited for until it is held and
not until its slot is completed, so that the reset finds it held and ends its entry (R178); nothing forces the reset to come
at once, before events of the other blocks; and no further slot is examined before it. -/
def execDeferredResetBegin (s : State) : Host.Outcome State Fault Refusal :=
  .next (s.whenReady fun s =>
    if s.req.current.isSome then s
    else
      match s.power.deferred with
      | some .hard => s.beginHard
      | some .soft => s.beginSoft
      | none => s)

end Sys2Proof.Machine
end

