-- ==== Sys2Proof/Machine/Window.lean ====
section
/-! DEFINITION. The register window and host accesses to exchange memory (R188, R193, R197, R198). -/

namespace Sys2Proof.Machine.State

/-! ## What a read of each register gives (R188) -/

/-- IDENT: served while READY is clear too (R188). -/
def readIdent (s : State) : Word :=
  pack [(12, s.hutNumber.toNat), (3, 0), (1, bit s.ident.marker), (8, 0), (8, Config.partRevision)]

/-- CONTROL: while READY is clear it shows IDLE, NONE and OFF, and the cause of the reset in progress (R188). -/
def readControl (s : State) : Word :=
  if s.ready then
    pack [(1, 1), (2, s.engine.mode.code), (1, 0), (2, s.duty.shed.code), (2, 0), (3, s.visit.state.code), (1, 0),
      (2, s.power.cause.code)]
  else pack [(12, 0), (2, s.power.cause.code)]

/-- SWEEP: the low 16 bits of the sweep count; 0 while READY is clear (R188). -/
def readSweep (s : State) : Word := if s.ready then pack [(16, s.req.sweepCount.toNat)] else 0

/-- WAKE: the pending causes; 0 while READY is clear (R188). -/
def readWake (s : State) : Word := if s.ready then s.wake.pending.setWidth 32 else 0

/-! ## Host accesses to exchange memory (R197, R198) -/

/-- A host access served from memory (R197). -/
def serve (s : State) (a : BitVec 15) : HostAccess → State
  | .read => s.setHostData (s.peek a.toNat)
  | .write v => s.poke a.toNat v

/-- A host access before READY sets: a read gives 0, and a write is discarded (R198). -/
def shut (s : State) : HostAccess → State
  | .read => s.setHostData 0
  | .write _ => s

end Sys2Proof.Machine.State

namespace Sys2Proof.Machine

/-- SWEEP: a write of any value to SWEEP is a sweep request; it is discarded while READY is clear (R172, R188). -/
def execSweep (_value : Word) (s : State) : Host.Outcome State Fault Refusal := .next (s.whenReady State.requestSweep)

/-- WAKE_CLEAR: each 1 in bits 0–10 of a write to WAKE clears its cause; the write is discarded while READY is clear
(R188, R193). -/
def execWakeClear (value : Word) (s : State) : Host.Outcome State Fault Refusal :=
  .next (s.whenReady fun s => s.clearCauses (value.setWidth 11))

/-- REGISTER_WRITE_IGNORED: a write to IDENT, or to bits without a function, changes nothing (R188). -/
def execRegisterWriteIgnored (_offset : Fin 4) (_value : Word) (s : State) : Host.Outcome State Fault Refusal := .next s

/-- HOST_WORD_ACCESS: the Memory Port serves one word, whole; before READY sets a read gives 0 and a write is discarded
(R197, R198). -/
def execHostWordAccess (address : BitVec 15) (access : HostAccess) (s : State) : Host.Outcome State Fault Refusal :=
  .next (if s.ready then s.serve address access else s.shut access)

end Sys2Proof.Machine
end

