-- ==== Sys2Proof/Machine/Dispatch.lean ====
section
/-! DEFINITION. One arm for each command: a direct call of its meaning. -/

namespace Sys2Proof.Machine

def exec (i : Instr) (s : State) : Host.Outcome State Fault Refusal :=
  match i with
  | .powerOn => Sys2Proof.Machine.execPowerOn s
  | .brownOut => Sys2Proof.Machine.execBrownOut s
  | .supplyRestored => Sys2Proof.Machine.execSupplyRestored s
  | .memoryClearDone => Sys2Proof.Machine.execMemoryClearDone s
  | .hardResetAssert => Sys2Proof.Machine.execHardResetAssert s
  | .hardResetRelease => Sys2Proof.Machine.execHardResetRelease s
  | .softReset => Sys2Proof.Machine.execSoftReset s
  | .deferredResetBegin => Sys2Proof.Machine.execDeferredResetBegin s
  | .sweep value => Sys2Proof.Machine.execSweep value s
  | .wakeClear value => Sys2Proof.Machine.execWakeClear value s
  | .registerWriteIgnored offset value => Sys2Proof.Machine.execRegisterWriteIgnored offset value s
  | .sweepTimerExpiry => Sys2Proof.Machine.execSweepTimerExpiry s
  | .sweepSlot => Sys2Proof.Machine.execSweepSlot s
  | .settingsApply => Sys2Proof.Machine.execSettingsApply s
  | .listRun => Sys2Proof.Machine.execListRun s
  | .listCut => Sys2Proof.Machine.execListCut s
  | .engineHold => Sys2Proof.Machine.execEngineHold s
  | .engineResume => Sys2Proof.Machine.execEngineResume s
  | .watchArm => Sys2Proof.Machine.execWatchArm s
  | .watchDisarm => Sys2Proof.Machine.execWatchDisarm s
  | .watchFeed => Sys2Proof.Machine.execWatchFeed s
  | .collectionClose => Sys2Proof.Machine.execCollectionClose s
  | .collectionRestart => Sys2Proof.Machine.execCollectionRestart s
  | .timeSet => Sys2Proof.Machine.execTimeSet s
  | .dutySet => Sys2Proof.Machine.execDutySet s
  | .stationForget => Sys2Proof.Machine.execStationForget s
  | .identProgram => Sys2Proof.Machine.execIdentProgram s
  | .identProgramEnd route hut => Sys2Proof.Machine.execIdentProgramEnd route hut s
  | .read => Sys2Proof.Machine.execRead s
  | .retrySpacingExpiry => Sys2Proof.Machine.execRetrySpacingExpiry s
  | .blockRead => Sys2Proof.Machine.execBlockRead s
  | .write => Sys2Proof.Machine.execWrite s
  | .control => Sys2Proof.Machine.execControl s
  | .statusPoll => Sys2Proof.Machine.execStatusPoll s
  | .rollCall => Sys2Proof.Machine.execRollCall s
  | .sampleAll => Sys2Proof.Machine.execSampleAll s
  | .clear => Sys2Proof.Machine.execClear s
  | .sampleLocal => Sys2Proof.Machine.execSampleLocal s
  | .stamp => Sys2Proof.Machine.execStamp s
  | .mark => Sys2Proof.Machine.execMark s
  | .loop => Sys2Proof.Machine.execLoop s
  | .wait => Sys2Proof.Machine.execWait s
  | .waitExpiry => Sys2Proof.Machine.execWaitExpiry s
  | .raise => Sys2Proof.Machine.execRaise s
  | .close => Sys2Proof.Machine.execClose s
  | .chain => Sys2Proof.Machine.execChain s
  | .endStep => Sys2Proof.Machine.execEnd s
  | .commandFrameSent => Sys2Proof.Machine.execCommandFrameSent s
  | .broadcastSent => Sys2Proof.Machine.execBroadcastSent s
  | .rollCallFrameSent => Sys2Proof.Machine.execRollCallFrameSent s
  | .rollCallSlot answer => Sys2Proof.Machine.execRollCallSlot answer s
  | .replyBegin => Sys2Proof.Machine.execReplyBegin s
  | .replyEnd bits => Sys2Proof.Machine.execReplyEnd bits s
  | .replyTimeout => Sys2Proof.Machine.execReplyTimeout s
  | .strayFrame => Sys2Proof.Machine.execStrayFrame s
  | .drainEnd => Sys2Proof.Machine.execDrainEnd s
  | .settlingEnd => Sys2Proof.Machine.execSettlingEnd s
  | .watchTick => Sys2Proof.Machine.execWatchTick s
  | .freshnessExpiry watch => Sys2Proof.Machine.execFreshnessExpiry watch s
  | .closeAgeExpiry => Sys2Proof.Machine.execCloseAgeExpiry s
  | .rawLevelChange input high => Sys2Proof.Machine.execRawLevelChange input high s
  | .debounceWindowExpiry input => Sys2Proof.Machine.execDebounceWindowExpiry input s
  | .firstWindowExpiry input => Sys2Proof.Machine.execFirstWindowExpiry input s
  | .tachActiveEdge input elapsed => Sys2Proof.Machine.execTachActiveEdge input elapsed s
  | .stallIntervalExpiry input => Sys2Proof.Machine.execStallIntervalExpiry input s
  | .endDelayExpiry => Sys2Proof.Machine.execEndDelayExpiry s
  | .rampTick => Sys2Proof.Machine.execRampTick s
  | .burstStart channel => Sys2Proof.Machine.execBurstStart channel s
  | .burstExpiry channel => Sys2Proof.Machine.execBurstExpiry channel s
  | .spacingExpiry channel => Sys2Proof.Machine.execSpacingExpiry channel s
  | .timestampAdvance => Sys2Proof.Machine.execTimestampAdvance s
  | .timeWrap => Sys2Proof.Machine.execTimeWrap s
  | .surveyTimerExpiry timer => Sys2Proof.Machine.execSurveyTimerExpiry timer s
  | .hostWordAccess address access => Sys2Proof.Machine.execHostWordAccess address access s

end Sys2Proof.Machine
end

