-- ==== Sys2Proof/Machine/Step.lean ====
section
/-! DEFINITION. The step: the command at the front of the queue, or on an empty queue the passing of time. -/

namespace Sys2Proof.Machine

/-- The block idles: with no command waiting, 10 µs of the elapsed-time base pass (R164; log 6). -/
def State.idle (s : State) : State := s.elapse 1

/-- The command at the front of the queue is taken off it and carried out on the state with the queue's rest (log 1). -/
def step (s : State) : Host.Outcome State Fault Refusal :=
  match s.pending with
  | [] => .next s.idle
  | c :: rest => exec c (s.setPending rest)

/-- `s` with the command a word spells put at the front of its queue; no row gives bits, so no word spells one. -/
def State.withFetchWord (s : State) (nbits w : Nat) : State :=
  match decodeTableWord nbits w with
  | some c => s.setPending (c :: s.pending)
  | none => s

end Sys2Proof.Machine
end

