-- ==== Sys2Proof/Safety.lean ====
section
/-! DEFINITION. The terms that statements about the H40 use: what a command answers, what memory keeps, the situations a
command is met in, and the laws that hold between commands. -/

namespace Sys2Proof.Machine

/-- A command answers a next state, of which `P` holds. -/
def Answers (o : Host.Outcome State Fault Refusal) (P : State → Prop) : Prop := ∃ t, o = .next t ∧ P t

/-- The commands of the seventeen step kinds. -/
def stepCommands : List Instr :=
  [.read, .blockRead, .write, .control, .statusPoll, .rollCall, .sampleAll, .clear, .sampleLocal, .stamp, .mark, .loop,
    .wait, .raise, .close, .chain, .endStep]

/-- The commands that act while READY is clear: the supply, the reset input, the contact pins, the memory clearing, and
the host's accesses. -/
def actsInReset : Instr → Bool
  | .powerOn | .brownOut | .supplyRestored | .memoryClearDone | .hardResetAssert | .hardResetRelease | .softReset
  | .rawLevelChange _ _ | .tachActiveEdge _ _ | .hostWordAccess _ _ => true
  | _ => false

/-- The words of exchange memory that the host alone writes, but for the clearing of R191: the settings block, the kind and
parameters of a request slot, the host fields of the directory and of the watch table, and the list area (11.2, R1, R78,
R170). -/
def HostWord (a : Nat) : Prop :=
  a < 0x40 ∨ (∃ k : Fin 16, slotAddr k < a ∧ a ≤ slotAddr k + 5) ∨ (∃ l : Fin 32, a = dirAddr l ∨ a = dirAddr l + 1) ∨
    (∃ n : Fin 64, watchAddr n ≤ a ∧ a ≤ watchAddr n + 4) ∨ (0x440 ≤ a ∧ a < 0x2000)

/-- The words of a request slot that the part writes: state, result code, result value (R170). -/
def SlotReport (k : Fin 16) (a : Nat) : Prop := a = slotAddr k ∨ a = slotAddr k + 6 ∨ a = slotAddr k + 7

/-- Every URGENT entry stands ahead of every ROUTINE entry (R7). -/
def UrgentFirst : List QEntry → Prop
  | [] => True
  | e :: rest => (e.urgent = false → ∀ f ∈ rest, f.urgent = false) ∧ UrgentFirst rest

/-- The command that carries a request kind out. -/
def requestCommand : ReqKind → Instr
  | .settingsApply => .settingsApply | .listRun => .listRun | .listCut => .listCut | .engineHold => .engineHold
  | .engineResume => .engineResume | .watchArm => .watchArm | .watchDisarm => .watchDisarm | .watchFeed => .watchFeed
  | .collectionClose => .collectionClose | .collectionRestart => .collectionRestart | .timeSet => .timeSet
  | .dutySet => .dutySet | .stationForget => .stationForget | .identProgram => .identProgram

/-- The command that carries a step of a kind out. -/
def stepCommand : StepKind → Instr
  | .read => .read | .blockRead => .blockRead | .write => .write | .control => .control | .statusPoll => .statusPoll
  | .rollCall => .rollCall | .sampleAll => .sampleAll | .clear => .clear | .sampleLocal => .sampleLocal
  | .stamp => .stamp | .mark => .mark | .loop => .loop | .wait => .wait | .raise => .raise | .close => .close
  | .chain => .chain | .endStep => .endStep

/-- The sweep after the examination of slot `k` (R172, R173). -/
def sweptOn (r : RequestTable) (k : Fin 16) : RequestTable :=
  if h : k.val + 1 < 16 then { r with sweep := some ⟨k.val + 1, h⟩ }
  else
    { r with
      sweep := if r.sweepPending then some 0 else none, sweepPending := false, sweepCount := r.sweepCount + 1 }

/-- The context after its step has completed and the run goes on at `a` (R16). -/
def Ctx.next (c : Ctx) (a : Nat) : Ctx := { c with addr := a, lastDone := some c.addr, phase := .between }

/-- The context after the step at `c.addr` was read, counted and completed, and the run goes on at `a` (R15, R16). -/
def Ctx.stepped (c : Ctx) (a : Nat) : Ctx := { c.next a with executed := c.executed + 1 }

/-- The words of a run queue snapshot (R8, 11.4). -/
def QueueWord (a : Nat) : Prop := 0x46 ≤ a ∧ a ≤ 0x56

/-- The word that holds a list's shed-drop count (11.4). -/
def shedDropAddr (l : Fin 32) : Nat := 0xAC + l.val / 2

/-- The word that holds a list's last outcome (11.4). -/
def outcomeAddr (l : Fin 32) : Nat := 0xBC + l.val / 8

/-- The words that a trigger for list `l` may write while the engine is not IDLE. -/
def TriggerWord (l : Fin 32) (a : Nat) : Prop := QueueWord a ∨ a = dirAddr l + 2 ∨ a = shedDropAddr l

/-- The words that the start of a run writes (R8, R14, 1.4). -/
def StartWord (a : Nat) : Prop := QueueWord a ∨ a = 0x40 ∨ a = 0x45

/-- The words that the end of a run of list `l` writes, besides its record (R20). -/
def RunEndWord (l : Fin 32) (a : Nat) : Prop :=
  a = dirAddr l + 2 ∨ a = dirAddr l + 3 ∨ a = outcomeAddr l ∨ a = 0x44 ∨ a = 0x45

/-- The words of a station's mirror (11.4). -/
def StationWord (i : Fin 30) (a : Nat) : Prop := a = 0x5E + 2 * i.val ∨ a = 0x5F + 2 * i.val

/-- The words of a watch's state (11.5). -/
def WatchWord (n : Fin 64) (a : Nat) : Prop := watchAddr n + 5 ≤ a ∧ a ≤ watchAddr n + 8

/-- The words of a channel's mirror (11.4). -/
def ChannelWord (c : Fin 4) (a : Nat) : Prop := a = 0xA3 + 2 * c.val ∨ a = 0xA4 + 2 * c.val

/-- The words of an input's entry (11.5). -/
def InputWord (i : Fin 16) (a : Nat) : Prop := inputAddr i ≤ a ∧ a ≤ inputAddr i + 3

namespace State

/-! ## Frames -/

/-- Every word outside `p` reads in `t` as it reads in `s`. -/
def KeepsWords (s t : State) (p : Nat → Prop) : Prop := ∀ a, ¬ p a → t.peek a = s.peek a

/-- A mirror word is rewritten where what it shows changed, and stands otherwise. -/
def Reshown (s t : State) (a : Nat) (old new : Word) : Prop := t.peek a = if old = new then s.peek a else new

/-- The Wake Unit after a cause is raised (R193, R194). -/
def raised (s : State) (c : WakeCause) : WakeUnit :=
  { pending := s.wake.pending ||| causeBit c
    line := decide ((s.wake.pending ||| causeBit c) &&& s.maskInForce ≠ 0) }

/-! ## Steps -/

/-- The running list stands between two steps, at a step of kind `k` whose words lie in the list area (R15). -/
def AtStep (s : State) (c : Ctx) (k : StepKind) : Prop :=
  s.ready ∧ s.engine.ctx = some c ∧ c.phase = .between ∧ stepKindAt s.mem c.addr = some k

/-- The run goes on after a step that completes at its reading: no cut is requested, and the runaway guard is not reached
(R16). -/
def GoesOn (c : Ctx) : Prop := c.cut = false ∧ c.executed < 4095

/-- The run goes on after a step counted already (R16). -/
def RunsOn (c : Ctx) : Prop := c.cut = false ∧ c.executed < 4096

/-- The words that the step record at the step address holds. -/
def stepWord (s : State) (c : Ctx) (i : Nat) : Word := s.peek (c.addr + i)

/-- Whether the fields of a step of kind `k` at the step address pass their checks; for LOOP, whether the context holds a
mark (R28, R46). -/
def fieldsOk (s : State) (c : Ctx) : StepKind → Bool
  | .read => (readFields (s.stepWord c 0) (s.stepWord c 1)).isSome
  | .blockRead => (blockFields (s.stepWord c 0) (s.stepWord c 1) (s.stepWord c 2)).isSome
  | .write => (writeFields (s.stepWord c 0) (s.stepWord c 1)).isSome
  | .control => (controlFields (s.stepWord c 0)).isSome
  | .statusPoll => (stationField (s.stepWord c 0)).isSome
  | .clear => (clearFields (s.stepWord c 0)).isSome
  | .sampleLocal => (localFields (s.stepWord c 0)).isSome
  | .mark => (markField (s.stepWord c 0)).isSome
  | .loop => c.mark.isSome
  | .wait => (timeField (s.stepWord c 0)).isSome
  | .chain => (listField (s.stepWord c 0)).isSome
  | .rollCall | .sampleAll | .stamp | .raise | .close | .endStep => true

/-- The step the engine keeps and the work it hands for a bus step whose fields pass (R24, R30, R33, R36–R41). -/
def busStepOf (s : State) (c : Ctx) : StepKind → Option (BusStep × Work)
  | .read =>
    (readFields (s.stepWord c 0) (s.stepWord c 1)).map fun st =>
      (.read st st.budget, .transaction (.read st.station st.sub st.wide))
  | .blockRead =>
    (blockFields (s.stepWord c 0) (s.stepWord c 1) (s.stepWord c 2)).map fun st =>
      (.block st,
        .block { station := st.station, sub := st.sub, wide := st.wide, count := st.count, terminator := st.terminator })
  | .write =>
    (writeFields (s.stepWord c 0) (s.stepWord c 1)).map fun st =>
      (.write st, .transaction (.write st.station st.sub st.wide st.value))
  | .control =>
    (controlFields (s.stepWord c 0)).map fun st =>
      (.control st, .transaction (.control st.station st.sub st.controlCode))
  | .statusPoll => (stationField (s.stepWord c 0)).map fun i => (.statusPoll i, .transaction (.status i))
  | .clear =>
    (clearFields (s.stepWord c 0)).map fun o =>
      (.clear, match o with | some i => .transaction (.clear i) | none => .clearAll)
  | .rollCall => some (.rollCall, .rollCall)
  | .sampleAll => some (.sampleAll, .sampleAll)
  | .sampleLocal | .stamp | .mark | .loop | .wait | .raise | .close | .chain | .endStep => none

/-- A step is being carried out on the bus: the controller has its work, and nothing else waits (R52). -/
def InBusStep (s : State) (c : Ctx) (step : BusStep) : Prop :=
  s.ready ∧ s.engine.ctx = some c ∧ c.phase = .bus step ∧ s.bus.waiting = none ∧ s.bus.visitPending = none ∧
    s.bus.strayArriving = false

/-- The controller is IDLE, with nothing pending or arriving on the bus (R52). -/
def BusFree (s : State) : Prop := s.bus.ctl = .idle ∧ s.bus.visitPending = none ∧ s.bus.strayArriving = false

/-! ## Requests -/

/-- The table carries out a request of kind `k`, whose slot no held request shares (R174). -/
def Carries (s : State) (r : Taken) (k : ReqKind) : Prop :=
  s.ready ∧ s.req.current = some r ∧ r.kind = k ∧ ∀ e ∈ s.req.inflight, e.slot ≠ r.slot

/-- The Request Table when the request carried out at once is done with, with the in-flight set given: the sweep moves on
(R173, R174). -/
def reqDone (s : State) (held : List HeldRequest) : RequestTable :=
  match s.req.sweep with
  | none => { s.req with current := none, inflight := held }
  | some k => sweptOn { s.req with current := none, inflight := held } k

/-- The Wake Unit after a completion in a slot (R175). -/
def wakeDone (s : State) (slot : Fin 16) (wake : Bool) : WakeUnit :=
  if slotState s.mem slot = 2 ∧ wake = true then s.raised .request else s.wake

/-- What a completion leaves in a slot: a slot that read TAKEN shows the result, and any other stands (R175). -/
def SlotDone (s t : State) (slot : Fin 16) (res : Result) (v : Word) : Prop :=
  if slotState s.mem slot = 2 then
    t.peek (slotAddr slot) = (if res = .ok then 3 else 4) ∧ t.peek (slotAddr slot + 6) = BitVec.ofNat 32 res.code ∧
      t.peek (slotAddr slot + 7) = v
  else ∀ a, SlotReport slot a → t.peek a = s.peek a

/-- The sweep count's mirror after a slot's examination (R172). -/
def SweepShown (s t : State) : Prop :=
  t.peek 0x43 = if s.req.sweep = some 15 then s.req.sweepCount + 1 else s.peek 0x43

/-- The words that a request's completion may write. -/
def ReportWord (r : Taken) (a : Nat) : Prop := SlotReport r.slot a ∨ a = 0x43

/-- A request carried out at once completes with a result, having done `u` to the rest of the state and written no words
outside `p` (R174, R175). -/
def Completes (s t : State) (r : Taken) (res : Result) (v : Word) (p : Nat → Prop) (u : State) : Prop :=
  s.SlotDone t r.slot res v ∧ s.SweepShown t ∧ s.KeepsWords t (fun a => ReportWord r a ∨ p a) ∧
    t = { u with mem := t.mem, req := s.reqDone u.req.inflight, wake := u.wakeDone r.slot r.wake }

/-- The request is held in flight, having done `u` to the rest of the state and written no words outside `p`: its slot is
not written, and its entry is the last of the set (R174). -/
def HoldsOn (s t : State) (r : Taken) (k : HeldKind) (p : Nat → Prop) (u : State) : Prop :=
  s.SweepShown t ∧ s.KeepsWords t (fun a => a = 0x43 ∨ p a) ∧
    t =
      { u with
        mem := t.mem
        req := s.reqDone (s.req.inflight ++ [{ slot := r.slot, kind := k, wake := r.wake }]) }

/-! ## Records -/

/-- The collection lies in the collection region (R102, 11.2). -/
def GeometryOk (s : State) : Prop :=
  0x2000 ≤ s.settings.base ∧ 1 ≤ s.settings.count ∧ s.settings.count ≤ 16 ∧ 300 ≤ s.settings.size ∧
    s.settings.base + s.settings.count * s.settings.size ≤ 0x8000

/-- Segment `i` is filling and has room for a record of `n` words (R107). -/
def RoomFor (s : State) (i : Fin 16) (n : Nat) : Prop :=
  s.GeometryOk ∧ i.val < s.settings.count ∧ (∃ start, s.coll.st = .filling i start) ∧
    s.coll.used + n + 5 ≤ s.settings.size

/-- The words that a record of `n` words written into segment `i` changes: its own, the header's record count and words
used, and their mirrors (R106, R107). -/
def RecordWord (s : State) (i : Fin 16) (n a : Nat) : Prop :=
  (s.segAddr i.val + 5 + s.coll.used ≤ a ∧ a < s.segAddr i.val + 5 + s.coll.used + n) ∨ a = s.segAddr i.val + 1 ∨
    a = 0x9B ∨ a = 0xA0 ∨ a = 0xA1

/-- The Collection Unit after `n` words were written as one record (R107, R112). -/
def collAfter (s : State) (n : Nat) : Coll :=
  { s.coll with
    recs := s.coll.recs + 1, used := s.coll.used + n, offered := s.coll.offered + 1, written := s.coll.written + 1 }

/-- In `t` the record stands in segment `i` directly after what `s` had written there, stamped with the time of `s`, and
the header and its mirror count it (R105, R106, R107). -/
def Recorded (s t : State) (i : Fin 16) (r : Record) : Prop :=
  (∀ j < r.length,
    t.peek (s.segAddr i.val + 5 + s.coll.used + j) = (r.header :: s.time.timestamp :: r.payload).getD j 0) ∧
    t.peek (s.segAddr i.val + 1) = segWord1 (s.coll.recs + 1) (s.coll.used + r.length) 0 ∧
    t.peek 0x9B = pack [(14, s.coll.recs + 1), (15, s.coll.used + r.length)] ∧ t.coll = s.collAfter r.length

/-- The words of records written one behind another, each stamped with the time of `s` (R105). -/
def recordWords (s : State) (rs : List Record) : List Word := rs.flatMap fun r => r.header :: s.time.timestamp :: r.payload

/-- Where records are offered, segment `i` is filling and has room for all of them (R107). -/
def RoomForAll (s : State) (i : Fin 16) (rs : List Record) : Prop := rs ≠ [] → s.RoomFor i (s.recordWords rs).length

/-- The words that records written into segment `i` change: none where there is no record. -/
def RecordWords (s : State) (i : Fin 16) (rs : List Record) (a : Nat) : Prop :=
  rs ≠ [] ∧ s.RecordWord i (s.recordWords rs).length a

/-- In `t` the records stand in segment `i`, in their order, directly after what `s` had written there, and the header, its
mirror and the counts of the Collection Unit count them (R105, R106, R107, R112). -/
def RecordedAll (s t : State) (i : Fin 16) (rs : List Record) : Prop :=
  let ws := s.recordWords rs
  (∀ j < ws.length, t.peek (s.segAddr i.val + 5 + s.coll.used + j) = ws.getD j 0) ∧
    (rs ≠ [] →
      t.peek (s.segAddr i.val + 1) = segWord1 (s.coll.recs + rs.length) (s.coll.used + ws.length) 0 ∧
        t.peek 0x9B = pack [(14, s.coll.recs + rs.length), (15, s.coll.used + ws.length)]) ∧
    t.coll =
      { s.coll with
        recs := s.coll.recs + rs.length, used := s.coll.used + ws.length
        offered := s.coll.offered + BitVec.ofNat 32 rs.length, written := s.coll.written + BitVec.ofNat 32 rs.length }

/-- Segment `i`, which `s` was filling, stands closed in `t` with a reason: every header word is the unit's own, the CLOSED
cause is pending, and no segment is open (R113). -/
def Closed (s t : State) (i : Fin 16) (reason : CloseReason) : Prop :=
  t.peek (s.segAddr i.val) = segWord0 2 s.coll.hut ∧
    t.peek (s.segAddr i.val + 1) = segWord1 s.coll.recs s.coll.used reason.code ∧
    t.peek (s.segAddr i.val + 2) = segWord2 s.coll.seq s.coll.route ∧ t.peek (s.segAddr i.val + 3) = s.coll.opened ∧
    t.peek (s.segAddr i.val + 4) = s.time.timestamp ∧ t.coll = { s.coll with st := .between }

/-- The words that the closing of segment `i` writes. -/
def CloseWord (s : State) (i : Fin 16) (a : Nat) : Prop :=
  (s.segAddr i.val ≤ a ∧ a < s.segAddr i.val + 5) ∨ a = 0x9A

/-! ## Runs and triggers -/

/-- The snapshot shows the run queue of `t` (R8, 11.4). -/
def SnapshotShown (t : State) : Prop :=
  t.peek 0x46 = BitVec.ofNat 32 t.engine.queue.length ∧
    ∀ k < 16, t.peek (0x47 + k) = (queueWords t.engine.queue).getD k 0

/-- A trigger reaches the engine while it is not IDLE: it is dropped, shed, coalesced or queued, by the first case of R5
that matches. `e` is the context the engine then holds. -/
def Triggered (s t : State) (l : Fin 32) (src : Source) (e : Option Ctx) : Prop :=
  if (readDir s.mem l).enabled = false then
    t.engine = { s.engine with ctx := e } ∧ ∀ a, TriggerWord l a → t.peek a = s.peek a
  else if (readDir s.mem l).sheddable = true ∧ s.duty.shed.drops src = true then
    t.engine = { s.engine with ctx := e } ∧
      t.peek (shedDropAddr l) =
        setField (s.peek (shedDropAddr l)) (16 * (l.val % 2)) 16
          (satInc 65535 (field (s.peek (shedDropAddr l)) (16 * (l.val % 2)) 16)) ∧
      ∀ a, TriggerWord l a → a ≠ shedDropAddr l → t.peek a = s.peek a
  else if ∃ q ∈ s.engine.queue, q.list = l then
    t.engine = { s.engine with ctx := e } ∧
      t.peek (dirAddr l + 2) =
        setField (s.peek (dirAddr l + 2)) 16 16 (satInc 65535 (field (s.peek (dirAddr l + 2)) 16 16)) ∧
      ∀ a, TriggerWord l a → a ≠ dirAddr l + 2 → t.peek a = s.peek a
  else
    t.engine =
        { s.engine with
          ctx := e
          queue := place { list := l, urgent := (readDir s.mem l).urgent, source := src } s.engine.queue } ∧
      t.SnapshotShown ∧ ∀ a, TriggerWord l a → ¬ QueueWord a → t.peek a = s.peek a

/-- The context of a run of list `l` that starts now (R14). -/
def freshCtx (s : State) (l : Fin 32) (src : Source) : Ctx where
  list := l
  source := src
  endRecord := (readDir s.mem l).endRecord
  addr := (readDir s.mem l).start
  executed := 0
  mark := none
  cut := false
  start := s.time.timestamp
  lastDone := none
  phase := .between

/-- A run of list `l` starts, the queue then being `q` (R10, R14). -/
def Starts (s t : State) (l : Fin 32) (src : Source) (q : List QEntry) : Prop :=
  t.engine = { s.engine with mode := .running, queue := q, ctx := some (s.freshCtx l src) } ∧
    t.peek 0x45 = runningWord (some (s.freshCtx l src)) ∧ t.SnapshotShown

/-- Nothing follows the run that ends but the completion of its pending cuts and IDLE: no LIST_END record, no entry queued, no
hold (R11, R20). -/
def EndsQuiet (s : State) (c : Ctx) : Prop :=
  c.endRecord = false ∧ s.engine.queue = [] ∧ s.engine.mode = .running

/-- The requests of a kind held in flight, in the order taken (R174). -/
def heldOf (s : State) (k : HeldKind) : List HeldRequest := s.req.inflight.filter fun e => e.kind = k

/-- The slot words of the requests of a kind held in flight. -/
def HeldWord (s : State) (k : HeldKind) (a : Nat) : Prop := ∃ e ∈ s.heldOf k, SlotReport e.slot a

/-- The Wake Unit of `u` after the requests `es` completed one after another in the slots of `s`: REQUEST is raised where a
slot read TAKEN and the first request completed in it has its wake flag set (R175). -/
def wakeAfterHeld (s u : State) (es : List HeldRequest) : WakeUnit :=
  if ∃ k : Fin 16, slotState s.mem k = 2 ∧ (es.find? fun e => e.slot = k).any (·.wake) = true then u.raised .request
  else u.wake

/-- Every request of a kind held in flight has completed, with one result and value (R175). -/
def HeldDone (s t : State) (k : HeldKind) (res : Result) (v : Word) : Prop :=
  ∀ e ∈ s.heldOf k, s.SlotDone t e.slot res v

/-- Every LIST_CUT held in flight has completed OK, with the outcome of the run that ended as its value (R17, R175, R182). -/
def CutsDone (s t : State) (o : ListOutcome) : Prop :=
  s.HeldDone t .cut .ok (BitVec.ofNat 32 o.code)

/-- The Request Table once the requests of a kind have left the in-flight set. -/
def reqWithout (s : State) (k : HeldKind) : RequestTable :=
  { s.req with inflight := s.req.inflight.filter fun e => e.kind ≠ k }

/-- The rest of a state in which every request of a kind held in flight has completed: the cuts that a run's end completes
(R17, R20), or the holds that a resume withdraws (R13). -/
def heldGone (s : State) (k : HeldKind) : State := { s with req := s.reqWithout k, wake := s.wakeAfterHeld s (s.heldOf k) }

/-- The directory and status fields that a run's end writes (R3, R20): run count, last outcome, last end time,
lists-completed count, and no running list. -/
def RunShown (s t : State) (l : Fin 32) (o : ListOutcome) : Prop :=
  t.peek (dirAddr l + 2) =
      setField (s.peek (dirAddr l + 2)) 0 16 (satInc 65535 (field (s.peek (dirAddr l + 2)) 0 16)) ∧
    t.peek (outcomeAddr l) = setField (s.peek (outcomeAddr l)) (4 * (l.val % 8)) 4 o.code ∧
    t.peek (dirAddr l + 3) = s.time.timestamp ∧ t.peek 0x44 = s.engine.completed + 1

/-- The engine after the end of a run that leaves it IDLE (R11, R20). -/
def idleEngine (s : State) : Engine :=
  { s.engine with mode := .idle, queue := [], ctx := none, cuts := 0, completed := s.engine.completed + 1 }

/-- The run of list `l` has ended, and nothing else has happened: its pending cuts are done with, and the engine is IDLE (R11,
R17, R20). -/
def RunOver (s t : State) (l : Fin 32) (o : ListOutcome) : Prop :=
  s.RunShown t l o ∧ t.peek 0x45 = 0 ∧ s.CutsDone t o ∧
    s.KeepsWords t (fun a => RunEndWord l a ∨ a = 0x40 ∨ s.HeldWord .cut a) ∧
    t = { s.heldGone .cut with mem := t.mem, engine := s.idleEngine }

/-- The run of list `l` has ended in the same way, with its LIST_END record `r` in segment `i` (R20). -/
def RunOverWith (s t : State) (l : Fin 32) (o : ListOutcome) (i : Fin 16) (r : Record) : Prop :=
  s.RunShown t l o ∧ t.peek 0x45 = 0 ∧ s.Recorded t i r ∧ s.CutsDone t o ∧
    s.KeepsWords t (fun a => RunEndWord l a ∨ a = 0x40 ∨ s.HeldWord .cut a ∨ s.RecordWord i r.length a) ∧
    t = { s.heldGone .cut with mem := t.mem, engine := s.idleEngine, coll := s.collAfter r.length }

/-! ## Ends of bus steps -/

/-- The transaction of a WRITE, CONTROL, STATUS_POLL or selected CLEAR step, the policies it goes by and the words of its
record. CONTROL has no ready policy, and passes; STATUS_POLL and CLEAR have none, and go on (R36–R38, R41). -/
def GoesBy (step : BusStep) (tr : Transaction) (ready : ReadyPolicy) (failure : FailurePolicy) (n : Nat) : Prop :=
  match step with
  | .write st =>
    tr = .write st.station st.sub st.wide st.value ∧ ready = st.ready ∧ failure = st.failure ∧ n = 2
  | .control st => tr = .control st.station st.sub st.controlCode ∧ ready = .pass ∧ failure = st.failure ∧ n = 1
  | .statusPoll i => tr = .status i ∧ ready = .pass ∧ failure = .continue ∧ n = 1
  | .clear => (∃ i, tr = .clear i) ∧ ready = .pass ∧ failure = .continue ∧ n = 1
  | .read _ _ | .block _ | .rollCall | .sampleAll => False

/-- How a run ends when its bus step ends with outcome `o`: by the step's policies, with the failing outcome; else by a cut
requested before; else it does not (R16, R19, R25, R26). -/
def runEnd (c : Ctx) (ready : ReadyPolicy) (failure : FailurePolicy) (o : StepOutcome) :
    Option (ListOutcome × Option StepOutcome) :=
  if o = .notReady ∧ ready = .stop then some (.stopped, some o)
  else if failure = .abort ∧ (o = .silent ∨ o = .refused ∨ o = .garbled ∨ o = .odd ∨ o = .lost) then some (.aborted, some o)
  else if c.cut then some (.cut, none) else none

/-- The LIST_END record of a run that ends at its step, where its list asks for one (R20). -/
def endRecords (c : Ctx) : Option (ListOutcome × Option StepOutcome) → List Record
  | some (o, failing) => if c.endRecord then [listEndRecord c o failing (some c.addr)] else []
  | none => []

/-- The step's end is followed by nothing but what `StepConcludes` says: the runaway guard is not reached, a run that ends
leaves the engine IDLE, and the filling segment has room for the records offered (R11, R16, R20). -/
def MayConclude (s : State) (c : Ctx) (own : Option (ListOutcome × Option StepOutcome)) (rs : List Record) (k : Fin 16) :
    Prop :=
  (own = none → c.executed < 4096) ∧ (own ≠ none → s.EndsQuiet { c with endRecord := false }) ∧
    s.RoomForAll k (rs ++ endRecords c own)

/-- The engine and the Request Table after a bus step has ended: the run goes on at `next`, or has ended, its pending cuts done
with (R16, R17, R20). -/
def EngineConcludes (s t : State) (c : Ctx) (next : Nat) : Option (ListOutcome × Option StepOutcome) → Prop
  | none => t.engine = { s.engine with ctx := some (c.next next) } ∧ t.req = s.req
  | some (o, _) =>
    s.RunShown t c.list o ∧ t.peek 0x45 = 0 ∧ s.CutsDone t o ∧ t.engine = s.idleEngine ∧ t.req = s.reqWithout .cut

/-- A bus step has ended, with the records `rs` offered before a LIST_END record, the words `p` written besides, and `u` done
to the rest of the state. -/
def StepConcludes (s t : State) (c : Ctx) (own : Option (ListOutcome × Option StepOutcome)) (next : Nat) (rs : List Record)
    (k : Fin 16) (p : Nat → Prop) (u : State) : Prop :=
  s.EngineConcludes t c next own ∧ t.peek 0x40 = t.word40 ∧ s.RecordedAll t k (rs ++ endRecords c own) ∧
    s.KeepsWords t
      (fun a =>
        a = 0x40 ∨ p a ∨ (own ≠ none ∧ (RunEndWord c.list a ∨ s.HeldWord .cut a)) ∨
          s.RecordWords k (rs ++ endRecords c own) a) ∧
    t =
      { u with
        mem := t.mem, engine := t.engine, coll := t.coll, req := t.req
        wake := if own = none then u.wake else s.wakeAfterHeld u (s.heldOf .cut) }

/-! ## Stations -/

/-- A station's record once the station is heard (R66). -/
def heardNow (s : State) (i : Fin 30) : Station :=
  { s.bus.stations[i] with state := .present, silences := 0, lastReply := s.time.timestamp }

/-- Whether one more silence loses a station (R66, R67). -/
def losesNow (s : State) (i : Fin 30) : Bool :=
  decide ((s.bus.stations[i]).state ≠ .lost ∧ s.settings.lostLimit ≤ min ((s.bus.stations[i]).silences + 1) 15)

/-- A station's record after one more silence (R66, R67). -/
def missedNow (s : State) (i : Fin 30) : Station :=
  let missed := { s.bus.stations[i] with silences := min ((s.bus.stations[i]).silences + 1) 15 }
  if s.losesNow i then { missed with state := .lost } else missed

/-- A station's record after a garbled or odd reply (R66). -/
def garbledNow (s : State) (i : Fin 30) : Station :=
  { s.bus.stations[i] with garbles := min ((s.bus.stations[i]).garbles + 1) 255 }

/-- The STATION record of a silence in a transaction or block read, where it loses the station (R68). -/
def lossRecords (s : State) (i : Fin 30) : List Record :=
  if s.losesNow i then [stationRecord i (s.bus.stations[i]).state (s.missedNow i) 0] else []

/-- The Wake Unit after such a silence (R68). -/
def wakeAfterSilence (s : State) (i : Fin 30) : WakeUnit :=
  if s.losesNow i then s.raised .station else s.wake

/-- The controller once an exchange with station `i` is over: the station's record is `x`, and `ctl` and `counts` hold. -/
def busAfter (s : State) (ctl : BusCtl) (i : Fin 30) (x : Station) (counts : BusCounts) : Bus :=
  { s.bus with ctl, stations := s.bus.stations.set i x, counts }

/-- The controller once the visit broadcast `b` is pending: in IDLE it goes out at once, where a stray frame's arrival delays
it (log 21), and otherwise it waits (R74). -/
def busPending (s : State) (b : VisitBroadcast) : Bus :=
  if s.bus.ctl ≠ .idle then { s.bus with visitPending := some b }
  else if s.bus.strayArriving then
    { s.bus with visitPending := some b, ctl := .draining s.settings.replyTimeout none }
  else { s.bus with visitPending := none, ctl := .sending (.visit b) }

/-! ## Settings -/

/-- The Time Base after an apply that brings settings in force: a timer whose period changed starts anew (R166, R167). -/
def clockUnder (s : State) (new : Settings) : TimeBase :=
  { s.time with
    surveyDue :=
      Vector.ofFn fun n =>
        if new.timers[n] = s.settings.timers[n] then s.time.surveyDue[n]
        else if new.timers[n] = 0 then none else some (s.now + 1000 * new.timers[n])
    sweepDue :=
      if new.sweepPeriod = s.settings.sweepPeriod then s.time.sweepDue else s.now + 1000 * new.sweepPeriod }

/-- An apply of settings has no consequence but those of the timers and of the masks (R143, R180). -/
def ApplyIsQuiet (s : State) (new : Settings) : Prop :=
  (new.base = s.settings.base ∧ new.count = s.settings.count ∧ new.size = s.settings.size) ∧
    new.closeAge = s.settings.closeAge ∧ new.lostLimit = s.settings.lostLimit ∧ new.inputs = s.settings.inputs ∧
    new.visitInput = s.settings.visitInput ∧ (∀ c : Fin 4, (new.channels[c]).tach = (s.settings.channels[c]).tach) ∧
    State.derivedLevel { s with settings := new } = s.duty.shed

/-- The state in which an apply finds the part: the settings in force, their timers, and the line judged by their masks
(R180, R194). -/
def under (s : State) (new : Settings) : State :=
  { s with
    settings := new, time := s.clockUnder new
    wake := { s.wake with line := State.lineAsserted { s with settings := new } } }

/-! ## Mirrors -/

/-- A watch's state words show it (R79, 11.5). -/
def WatchShown (t : State) (n : Fin 64) : Prop :=
  t.peek (watchAddr n + 5) = watchWord5 t.watches[n] ∧
    t.peek (watchAddr n + 6) =
      pack [(16, unsigned 16 t.watches[n].eng), (16, unsigned 16 t.watches[n].smooth)] ∧
    t.peek (watchAddr n + 7) = t.watches[n].lastEval ∧
    t.peek (watchAddr n + 8) = pack [(25, unsigned 25 t.watches[n].lastRaw)]

/-- A station's mirror shows it (R66, 11.4). -/
def StationShown (t : State) (i : Fin 30) : Prop :=
  t.peek (0x5E + 2 * i.val) = stationWord t.bus.stations[i] ∧ t.peek (0x5F + 2 * i.val) = t.bus.stations[i].lastReply

/-- The station table with the record of station `i` replaced. -/
def withStation (s : State) (i : Fin 30) (x : Station) : Vector Station 30 := s.bus.stations.set i x

/-- The channels with the state of channel `c` replaced. -/
def withChannel (s : State) (c : Fin 4) (x : Channel) : Duty :=
  { s.duty with channels := s.duty.channels.set c x }

/-- What changed of channel `c` is mirrored (R144). -/
def ChannelReshown (s t : State) (c : Fin 4) : Prop :=
  s.Reshown t (0xA3 + 2 * c.val) (channelWord s.duty.channels[c]) (channelWord t.duty.channels[c]) ∧
    s.Reshown t (0xA4 + 2 * c.val) (BitVec.ofNat 32 s.duty.channels[c].output)
      (BitVec.ofNat 32 t.duty.channels[c].output)

/-! ## Resets -/

/-- Every station record and every bus count as a reset leaves it (R77). -/
def BusForgotten (b : Bus) : Prop :=
  (∀ i : Fin 30,
    b.stations[i] =
      { state := .unknown, silences := 0, attention := false, status := none, garbles := 0, lastReply := 0 }) ∧
    b.counts = { frames := 0, good := 0, silent := 0, garbled := 0, odd := 0, stray := 0, rollCalls := 0 }

/-- A channel as the beginning of a reset leaves it: freed of a stall episode, and in full at 255 under any reset but a soft
one (R159). That a burst start handed before is dropped is the model's choice (log 22). -/
def ChannelFreed (c : ResetCause) (ch : Channel) : Prop :=
  ch.stalled = false ∧ ch.burst = .none ∧ ch.used = 0 ∧ ch.handed = false ∧
    (c ≠ .soft → ch.mode = .adaptive ∧ ch.manual = 0 ∧ ch.target = 255 ∧ ch.output = 255)

/-- The work in progress in every block has been abandoned: the Survey Engine (R22), the Request Table (R178), the bus
controller with its station table and counts (R76, R77), the visit machine (R140), the Duty Controller (R159, R160) and the
Identity Store (R187). That an arriving stray frame is forgotten is the model's choice (log 4). -/
def WorkAbandoned (s : State) : Prop :=
  s.engine = { mode := .idle, queue := [], ctx := none, holds := 0, cuts := 0, completed := 0 } ∧
    s.req = { sweep := none, sweepPending := false, sweepCount := 0, current := none, inflight := [] } ∧
    (s.bus.ctl = .settling none ∧ s.bus.waiting = none ∧ s.bus.visitPending = none ∧ s.bus.strayArriving = false ∧
      BusForgotten s.bus) ∧
    (s.visit.state = .off ∧ s.visit.begin = 0 ∧ s.visit.endDue = none) ∧
    (s.duty.shed = .none ∧ ∀ n : Fin 4, ChannelFreed s.power.cause s.duty.channels[n]) ∧ s.ident.programming = none

/-- A reset has begun in `t` (R190): READY clear, the causes emptied, the line released, every block's work abandoned, and
the rest as in `s`. A soft reset keeps what R159 keeps of a channel. That the cells of the Identity Store stand as they were
before a programming cut off is the model's choice (log 35). -/
def ResetBegun (s t : State) (phase : ResetPhase) (c : ResetCause) (pin : Bool) : Prop :=
  t.power = { phase, pin, cause := c, deferred := none } ∧ t.wake = { pending := 0, line := false } ∧ t.WorkAbandoned ∧
    (c = .soft →
      ∀ n : Fin 4,
        t.duty.channels[n] =
          { s.duty.channels[n] with stalled := false, burst := .none, used := 0, handed := false }) ∧
    t =
      { s with
        power := t.power, wake := t.wake, engine := t.engine, req := t.req, bus := t.bus, visit := t.visit
        duty := t.duty, ident := { s.ident with programming := none } }

/-- The Time Base at a reset's end: every timer and tick counts from it (R169). -/
def TimeRestarted (s t : State) : Prop :=
  t.time.base = s.now ∧ t.time.timestamp = (if s.power.cause = .soft then s.time.timestamp else 0) ∧ t.time.wrapCount = 0 ∧
    (∀ n : Fin 4,
      t.time.surveyDue[n] =
          (if t.settings.timers[n] = 0 then none else some (s.now + 1000 * t.settings.timers[n])) ∧
        t.time.series[n] = []) ∧
    t.time.sweepDue = s.now + 1000 * t.settings.sweepPeriod ∧ t.time.rampDue = s.now + 10000 ∧
    t.time.watchDue = s.now + 100000 ∧ t.peek 0x41 = t.time.timestamp

/-- The watch that a reset leaves of watch `n` (R101). -/
def watchAfterReset (s : State) (n : Fin 64) : Watch :=
  if s.power.cause.cold then
    { armed := false, grade := .unrated, cand := none, pcount := 0, lastRaw := 0, eng := 0, smooth := 0, clamp := false
      restart := true, samples := 0, lastEval := 0, mark := none }
  else { s.watches[n] with grade := .unrated, cand := none, pcount := 0, restart := true, mark := none }

/-- The contact input that a reset leaves of input `i` under the settings `g` in force after it: what the reset's kind keeps,
and the settling of an enabled input (R126, R139). -/
def inputAfterReset (s : State) (g : InputSettings) (i : Fin 16) : Input :=
  let x := s.inputs[i]
  let soft := decide (s.power.cause = .soft)
  let cleared : Input :=
    { raw := x.raw, level := false, settled := false, stalled := false, count := if soft then x.count else 0, period := 0
      actCap := if soft then x.actCap else 0, relCap := if soft then x.relCap else 0, window := .none, lastEdge := none
      stallFrom := none }
  let atOnce : Input := { cleared with level := x.raw != g.activeLow, settled := true }
  if g.enabled = false then cleared
  else if g.tach then { atOnce with stallFrom := some s.now }
  else if g.debounce = 0 then atOnce
  else { cleared with window := .first (s.now + 100 * g.debounce) }

/-- The entries of the contact input table show the inputs of `t`, with the held flags that stood before a soft reset and with
none after another (R124, R139). -/
def InputsShown (s t : State) : Prop :=
  ∀ i : Fin 16,
    let x := t.inputs[i]
    let held := if s.power.cause = .soft then field (s.peek (inputAddr i)) 4 2 else 0
    t.peek (inputAddr i) =
        pack [(1, bit x.level), (1, bit x.settled), (1, bit x.stalled), (1, 0), (2, held), (10, 0), (16, x.count)] ∧
      t.peek (inputAddr i + 1) = BitVec.ofNat 32 x.period ∧ t.peek (inputAddr i + 2) = x.actCap ∧
      t.peek (inputAddr i + 3) = x.relCap

/-- Input `i` is the visit input under the settings in force in `t`, and settles toward its active level at once (R126,
R135). -/
def VisitSettles (s t : State) (i : Fin 16) : Prop :=
  let g := t.settings.inputs[i]
  t.settings.visitInput = some i ∧ g.enabled = true ∧ g.tach = false ∧ g.debounce = 0 ∧
    (s.inputs[i]).raw ≠ g.activeLow

/-- Header `i` of the geometry in force in `t` reads FILLING in `s`. -/
def FoundFilling (s t : State) (i : Nat) : Prop := i < t.settings.count ∧ field (s.peek (t.segAddr i)) 0 2 = 1

/-- The reset has recovered the collection: every header found FILLING is closed RESET with the timestamp as its close time
and the rest of its report kept; the next index follows the last of them; and the segment there is opened where it reads
EMPTY (R121, R122). -/
def SegmentsRecovered (s t : State) : Prop :=
  (∀ i, s.FoundFilling t i →
    t.peek (t.segAddr i) = segWord0 2 (BitVec.ofNat 12 (field (s.peek (t.segAddr i)) 16 12)) ∧
      t.peek (t.segAddr i + 1) =
        segWord1 (field (s.peek (t.segAddr i + 1)) 0 14) (field (s.peek (t.segAddr i + 1)) 14 15) 5 ∧
      t.peek (t.segAddr i + 2) = s.peek (t.segAddr i + 2) ∧ t.peek (t.segAddr i + 3) = s.peek (t.segAddr i + 3) ∧
      t.peek (t.segAddr i + 4) = t.time.timestamp ∧ t.wake.pending.getLsbD WakeCause.closed.index = true) ∧
    ∀ n,
      ((∃ i, s.FoundFilling t i ∧ (∀ j, s.FoundFilling t j → j ≤ i) ∧ n = (i + 1) % t.settings.count) ∨
        (∀ i, ¬ s.FoundFilling t i) ∧ n = 0) →
      (field (s.peek (t.segAddr n)) 0 2 = 0 →
        (∃ i start, t.coll.st = .filling i start ∧ i.val = n) ∧ t.coll.next.val = (n + 1) % t.settings.count ∧
          t.coll.seq = 0 ∧ t.peek (t.segAddr n + 5) = pack [(8, 18), (9, 3)] ∧
          t.peek (t.segAddr n + 7) = BitVec.ofNat 32 t.power.cause.code) ∧
      (field (s.peek (t.segAddr n)) 0 2 ≠ 0 → t.coll.st = .starved ∧ t.coll.next.val = n)

/-- The settings in force come from the settings block, or are the built-in defaults where a field of it is bad; the
settings-refused field says which (R192). -/
def SettingsFromBlock (s t : State) : Prop :=
  match firstBadField s.mem with
  | none => t.settings = blockSettings s.mem ∧ t.refused = 0
  | some n => t.settings = builtInSettings ∧ t.refused = n

/-- The settle of the visit input toward its active level has begun a visit: its BEGIN record stands behind the RESTART record,
LOCAL_RELEASE is pending, and an enabled visit list runs where its start address lies in the list area (R14, R138, R140,
R141). -/
def VisitBegunBySettle (s t : State) (i : Fin 16) : Prop :=
  t.visit = { state := .starting, begin := t.time.timestamp, input := i, endDue := none } ∧
    t.bus.visitPending = some .localRelease ∧
    (∀ n start, t.coll.st = .filling n start →
      ∀ j < 4,
        t.peek (t.segAddr n.val + 8 + j) =
          ((visitRecord t.visit .begin).header :: t.time.timestamp :: (visitRecord t.visit .begin).payload).getD j 0) ∧
    ((t.settings.visitList = none ∨ ∃ l, t.settings.visitList = some l ∧ (readDir s.mem l).enabled = false) →
      t.engine = s.engine) ∧
    (∀ l, t.settings.visitList = some l → (readDir s.mem l).enabled = true → inListArea (readDir s.mem l).start →
      t.engine = { s.engine with mode := .running, ctx := some (t.freshCtx l .visit) })

/-- The causes pending at a reset's end: RESTART, CLOSED where the recovery closed a segment, OVERRUN where the RESTART record
was dropped, and VISIT where a visit began (R110, R121, R140, R195). -/
def CausesAtEnd (s t : State) : Prop :=
  ∀ b : WakeCause,
    t.wake.pending.getLsbD b.index = true ↔
      b = .restart ∨ (b = .closed ∧ ∃ i, s.FoundFilling t i) ∨ (b = .overrun ∧ t.coll.st = .starved) ∨
        (b = .visit ∧ ∃ i, s.VisitSettles t i)

/-- A reset whose work was abandoned at its beginning, in `s`, has ended in `t`: READY set, the line judged, the controller in
SETTLING for its 15 ms, the clocks, watches, inputs and channels as R75, R101, R139, R159 and R169 have them, and the status
block and tables written with them. The engine and the visit machine stand as the beginning left them, unless the visit
input settles toward its active level at once. That the queue words beyond the count are 0 (log 13), and that the channels'
mirrors are written also where a channel stands as it was (log 34), are the model's choices. -/
def ResetEnded (s t : State) : Prop :=
  t.power = { s.power with phase := .ready } ∧ s.CausesAtEnd t ∧ t.wake.line = t.lineAsserted ∧ s.TimeRestarted t ∧
    (∀ n : Fin 64, t.watches[n] = s.watchAfterReset n ∧ t.WatchShown n) ∧
    ((∀ i : Fin 16, t.inputs[i] = s.inputAfterReset t.settings.inputs[i] i) ∧ s.InputsShown t) ∧
    (t.bus = { s.bus with ctl := .settling (some (s.now + 1500)), visitPending := t.bus.visitPending } ∧
      (∀ i, t.StationShown i) ∧ ∀ j < 7, t.peek (0x57 + j) = (countWords t.bus.counts).getD j 0) ∧
    (∀ c : Fin 4,
      t.peek (0xA3 + 2 * c.val) = channelWord t.duty.channels[c] ∧
        t.peek (0xA4 + 2 * c.val) = BitVec.ofNat 32 (t.duty.channels[c]).output) ∧
    (t.peek 0x40 = t.word40 ∧ t.SnapshotShown) ∧
    ((∀ i, ¬ s.VisitSettles t i) → t.engine = s.engine ∧ t.visit = s.visit ∧ t.bus.visitPending = s.bus.visitPending) ∧
    (∀ i, s.VisitSettles t i → s.VisitBegunBySettle t i) ∧
    t =
      { s with
        power := t.power, wake := t.wake, time := t.time, settings := t.settings, refused := t.refused, mem := t.mem
        watches := t.watches, inputs := t.inputs, coll := t.coll, bus := t.bus, engine := t.engine, visit := t.visit }

/-! ## Laws that hold between commands -/

/-- What holds in a reset: the work of every block stays abandoned, the reset's cause fits its phase, no reset waits, the reset
work stands only before a second cause (log 19), and after the memory clearing memory and settings are those it wrote
(R190, R191). -/
def ResetLaw (s : State) : Prop :=
  ¬ s.ready →
    s.WorkAbandoned ∧ s.power.deferred = none ∧
      (s.power.phase = .hardHeld → s.power.cause = .hard) ∧
      (s.power.phase = .supplyLow ∨ s.power.phase = .clearing ∨ s.power.phase = .clearedHeld →
        s.power.cause.cold = true) ∧
      (s.power.phase = .working → s.secondCauseNext = true) ∧
      (s.power.phase = .clearedHeld ∨ (s.power.phase = .working ∧ s.power.cause.cold = true) →
        s.mem = writeWords [] 0 builtInBlock ∧ s.settings = builtInSettings ∧ s.refused = 0)

/-- The wake line follows the causes and the mask in force; in a reset it is released and no cause is pending
(R190, R194). -/
def LineLaw (s : State) : Prop :=
  if s.ready then s.wake.line = s.lineAsserted else s.wake = { pending := 0, line := false }

/-- Records offered are records written plus records dropped, modulo 2^32 (R112). -/
def CountLaw (s : State) : Prop := s.coll.offered = s.coll.written + s.coll.dropped

/-- The run queue holds each list at most once, URGENT entries first (R7). -/
def QueueLaw (s : State) : Prop := (s.engine.queue.map QEntry.list).Nodup ∧ UrgentFirst s.engine.queue

/-- A list runs exactly in RUNNING and HOLDING, and in IDLE the queue is empty (1.4, R10). -/
def EngineLaw (s : State) : Prop :=
  ((s.engine.mode = .running ∨ s.engine.mode = .holding) ↔ s.engine.ctx.isSome) ∧
    (s.engine.mode = .idle → s.engine.queue = [])

/-- Every duty of the settings is a duty, 0 to 255 (R142, R143). -/
def DutySettingsOk (g : Settings) : Prop :=
  g.economyCap ≤ 255 ∧ g.survivalCap ≤ 255 ∧
    ∀ c : Fin 4, (g.channels[c]).minimum ≤ 255 ∧ (g.channels[c]).fallback ≤ 255

/-- Every duty of every channel is 0 to 255, a channel in OFF has output 0 and no episode, and bursts used counts 1 to 3 in
an episode and is 0 outside one; a WAITING channel has a burst left (R144, R146, R154). -/
def DutyLaw (s : State) : Prop :=
  DutySettingsOk s.settings ∧
    ∀ c : Fin 4,
      let ch := s.duty.channels[c]
      ch.manual ≤ 255 ∧ ch.target ≤ 255 ∧ ch.output ≤ 255 ∧ ch.used ≤ 3 ∧ (ch.burst = .none ↔ ch.used = 0) ∧
        (ch.burst = .waiting → ch.used ≤ 2) ∧ (ch.mode = .off → ch.target = 0 ∧ ch.output = 0 ∧ ch.burst = .none)

end State

end Sys2Proof.Machine
end

