-- ==== Sys2Proof/Certificates/Slice0/Obligations.lean ====
section
/-! DEFINITION. The statements about the H40 that the provers are asked for. -/

section

open Sys2Proof Sys2Proof.Machine

/-! ## The step and the queue of commands -/

/-- The model's own rule of the queue (log 1): a step runs the command at the front on the state with the queue's
rest, and with none waiting 10 µs of the elapsed-time base pass (log 6). -/
def Obligations.StepRunsFrontCommand : Prop :=
  ∀ (c : Instr) (rest : List Instr) (s : State),
    (s.pending = c :: rest → step s = exec c { s with pending := rest }) ∧
      (s.pending = [] → step s = .next { s with time := { s.time with base := s.time.base + 1 } })

/-- No command of the table stops the part, and none touches the queue of waiting commands (log 1). The manual gives every
command an effect, or says that it is ignored or discarded (R188, R189, R198). -/
def Obligations.EveryCommandAnswersNext : Prop :=
  ∀ (c : Instr) (s : State), Answers (exec c s) fun t => t.pending = s.pending

/-! ## Laws that every step keeps -/

/-- Every step keeps exchange memory in its canonical form (R197; the form is the model's own, log 8), and the collection of
the settings in force within the collection region (the tests of fields 34 to 36 in R102 and R179). -/
def Obligations.StepKeepsMemoryAndGeometry : Prop :=
  ∀ s t : State, step s = .next t → (Memory.wf s.mem → Memory.wf t.mem) ∧ (s.GeometryOk → t.GeometryOk)

/-- Every step keeps R194's law of the wake line, and R190's that it is released in a reset. -/
def Obligations.StepKeepsWakeLineJudged : Prop := ∀ s t : State, s.LineLaw → step s = .next t → t.LineLaw

/-- Every step keeps R112's balance of the record counts. -/
def Obligations.StepKeepsRecordBalance : Prop := ∀ s t : State, s.CountLaw → step s = .next t → t.CountLaw

/-- Every step keeps the law of the run queue (each list at most once, URGENT ahead of ROUTINE) and the law of the engine
state: a list runs exactly in RUNNING and HOLDING, and IDLE has an empty queue (R7, R10, the table of 1.4). -/
def Obligations.StepKeepsQueueAndEngine : Prop :=
  ∀ s t : State, s.QueueLaw → s.EngineLaw → step s = .next t → t.QueueLaw ∧ t.EngineLaw

/-- Every step keeps the ranges of R144's channel state, R146's OFF channel and R154's count of bursts. -/
def Obligations.StepKeepsDutyRanges : Prop := ∀ s t : State, s.DutyLaw → step s = .next t → t.DutyLaw

/-- R190, R191, R22, R76, R77, R140, R159, R160, R178, R187: every step keeps the law of resets: until READY sets the work of
every block stays abandoned, the reset's cause fits its phase, and after the memory clearing memory and settings are those it
wrote. That the reset work stands only before a second cause in the queue is the model's choice (log 19). -/
def Obligations.StepKeepsResetLaw : Prop := ∀ s t : State, s.ResetLaw → step s = .next t → t.ResetLaw

/-- The laws of the statements above hold right after reset. -/
def Obligations.LawsHoldAtReset : Prop :=
  Memory.wf State.reset.mem ∧ State.reset.LineLaw ∧ State.reset.CountLaw ∧ State.reset.QueueLaw ∧ State.reset.EngineLaw ∧
    State.reset.DutyLaw ∧ State.reset.GeometryOk ∧ State.reset.ResetLaw

/-! ## Rules of the whole part -/

/-- The words that the host alone writes change only by a host write and by the memory clearing: no other command, a
reset included, touches the settings block, a request's kind and parameters, the host fields of the directory and of the
watch table, or the list area (11.2, R1, R78, R170, R191). -/
def Obligations.PartKeepsHostWords : Prop :=
  ∀ (c : Instr) (s t : State), 0x2000 ≤ s.settings.base → (∀ a v, c ≠ .hostWordAccess a (.write v)) →
    c ≠ .memoryClearDone → exec c s = .next t → ∀ a, HostWord a → t.peek a = s.peek a

/-- R137: a write-type frame that a command begins is begun with the visit state OFF. -/
def Obligations.VisitHoldsWriteFrames : Prop :=
  ∀ (c : Instr) (s t : State) (w : Work) (timeout : Nat), exec c s = .next t → t.bus.ctl = .sending (.work w timeout) →
    w.writeType = true → s.bus.ctl ≠ t.bus.ctl → t.visit.state = .off

/-! ## Supply and resets -/

/-- R190: at any moment a power-on and a brown-out begin a reset, and so does the reset input where no request is being
carried out. READY clears, the causes are emptied, every block's work is abandoned, and memory, settings, watches, collection
and inputs stand until the reset work. Where a second cause meets the work of a reset, a brown-out takes its place, the reset
input makes a soft reset a hard one, and any other reset goes on until the input's release; a soft reset's write is discarded,
and the work goes on. A second cause meets that work where it stands directly behind the command that brings the work to its
end; that this is when it appears is the model's choice (log 19). A burst start handed before is dropped, and an arriving
stray frame forgotten (logs 22, 4). The cells of an identity programming cut off stand as before it, as the model chooses (log
35). -/
def Obligations.ResetsBegin : Prop :=
  ∀ s : State,
    Answers (exec .powerOn s) (s.ResetBegun · .clearing .powerOn s.power.pin) ∧
      Answers (exec .brownOut s) (s.ResetBegun · .supplyLow .brownOut s.power.pin) ∧
      (s.ready → s.req.current = none → Answers (exec .hardResetAssert s) (s.ResetBegun · .hardHeld .hard true)) ∧
      (s.secondCauseNext = true →
        (s.ready → s.power.deferred = none → s.req.current = none →
          Answers (exec .softReset s) (s.ResetBegun · .working .soft s.power.pin)) ∧
        (s.power.phase = .hardHeld ∨ s.power.phase = .clearedHeld →
          exec .hardResetRelease s = .next { s with power := { s.power with phase := .working, pin := false } }) ∧
        (s.ready → s.req.current = none →
          (s.power.deferred = some .soft →
            Answers (exec .deferredResetBegin s) (s.ResetBegun · .working .soft s.power.pin)) ∧
          (s.power.deferred = some .hard → s.power.pin = false →
            Answers (exec .deferredResetBegin s) (s.ResetBegun · .working .hard false)))) ∧
      (s.power.phase = .working →
        (s.power.cause = .soft → Answers (exec .hardResetAssert s) (s.ResetBegun · .hardHeld .hard true)) ∧
        (s.power.cause = .hard →
          exec .hardResetAssert s = .next { s with power := { s.power with phase := .hardHeld, pin := true } }) ∧
        (s.power.cause.cold = true →
          exec .hardResetAssert s = .next { s with power := { s.power with phase := .clearedHeld, pin := true } }) ∧
        (s.secondCauseNext = true → exec .softReset s = .next s)) ∧
      (s.power.phase = .supplyLow ∨ s.power.phase = .clearing ∨ s.power.phase = .clearedHeld ∨
          s.power.phase = .hardHeld →
        exec .hardResetAssert s = .next { s with power := { s.power with pin := true } })

/-- R190, R191, R195, R122, R101, R139, R159, R169, R75: with the supply restored the clearing begins. When it is done, with
the reset input released, the built-in settings stand in the block and in force, every other word of the host's is 0, READY is
set, RESTART alone is pending, segment 0 opens with the RESTART record, and every block is as the reset leaves it. With the
reset input active the part waits, cleared, and the input's release then ends the reset in the same way. So does a soft
reset's write that meets the work: it is discarded, and the work goes on (R188, R189). That no second cause, or no further
one, meets the work is read from the queue, the model's choice (log 19). That the channels' mirrors are written also where a
channel stands as it was is the model's choice (log 34). -/
def Obligations.ColdResetEnds : Prop :=
  ∀ s : State, s.power.cause.cold = true → s.WorkAbandoned → s.wake = { pending := 0, line := false } →
    let cleared := writeWords [] 0 builtInBlock
    let wiped : State := { s with mem := cleared, settings := builtInSettings, refused := 0 }
    let ends (cmd : Instr) (pin : Bool) : Prop :=
      Answers (exec cmd s) fun t =>
        State.ResetEnded { wiped with power := { s.power with pin } } t ∧ t.settings = builtInSettings ∧
          t.refused = 0 ∧ (∀ i < 64, t.peek i = builtInBlock.getD i 0) ∧ (∀ a, HostWord a → 0x40 ≤ a → t.peek a = 0) ∧
          t.wake.pending = 0x400 ∧ t.coll.offered = 1 ∧ t.coll.written = 1 ∧
          (∃ start, t.coll.st = .filling 0 start) ∧ t.peek 0x2005 = pack [(8, 18), (9, 3)] ∧ t.peek 0x2006 = 0 ∧
          t.peek 0x2007 = BitVec.ofNat 32 s.power.cause.code
    (s.power.phase = .supplyLow →
      exec .supplyRestored s = .next { s with power := { s.power with phase := .clearing } }) ∧
    (s.power.phase = .clearing → s.power.pin = false → s.secondCauseNext = false → ends .memoryClearDone false) ∧
    (s.power.phase = .clearing → s.power.pin = false → s.secondCauseNext = true →
      exec .memoryClearDone s = .next { wiped with power := { s.power with phase := .working } }) ∧
    (s.power.phase = .clearing → s.power.pin = true →
      exec .memoryClearDone s = .next { wiped with power := { s.power with phase := .clearedHeld } }) ∧
    (s.mem = cleared → s.settings = builtInSettings → s.refused = 0 → s.secondCauseNext = false →
      (s.power.phase = .clearedHeld → ends .hardResetRelease false) ∧
        (s.power.phase = .working → ends .softReset s.power.pin))

/-- R192, R169, R101, R121, R122, R22, R75, R139, R140, R159, R160, R178: at the end of a hard reset and at a soft reset the
settings in force come from the settings block, or are the built-in ones where a field of it is bad, and the settings-refused
field says which. The timestamp is 0 after the one and kept by the other, every watch keeps its armed field and is UNRATED,
and every other block is as the reset leaves it. Every segment found FILLING is closed RESET, and the RESTART record opens the
segment after the last of them where it reads EMPTY. A soft reset's write that meets the work is discarded, and the work goes
on: two such writes in close succession begin one reset (R188, R189). That no second cause, or no further one, meets the work
is read from the queue (log 19), a burst start handed before is dropped (log 22), and a stray frame forgotten (log 4): the
model's choices. That the queue words beyond the count are then 0 (log 13), and that the channels' mirrors are written also
where a channel stands as it was (log 34), are the model's choices too. The cells of an identity programming cut off stand as
before it, as the model chooses (log 35). -/
def Obligations.WarmResetsTakeSettings : Prop :=
  ∀ s : State, s.secondCauseNext = false →
    let kept (t : State) : Prop := s.SettingsFromBlock t ∧ s.SegmentsRecovered t
    (s.power.phase = .hardHeld → s.power.cause = .hard → s.WorkAbandoned → s.wake = { pending := 0, line := false } →
      Answers (exec .hardResetRelease s) fun t =>
        State.ResetEnded { s with power := { s.power with pin := false } } t ∧ kept t) ∧
    (s.power.phase = .working → s.power.cause.cold = false → s.WorkAbandoned → s.wake = { pending := 0, line := false } →
      Answers (exec .softReset s) fun t => s.ResetEnded t ∧ kept t) ∧
    (s.ready → s.power.deferred = none → s.req.current = none →
      Answers (exec .softReset s) fun t =>
        (∃ u, s.ResetBegun u .working .soft s.power.pin ∧ u.ResetEnded t) ∧ kept t)

/-- R189, R190: while a request is being carried out a hard or soft reset waits, a further soft reset is discarded and the
reset input makes the waiting reset a hard one. Once the request is done with, DEFERRED_RESET_BEGIN begins it. That it waits
also for a request that is then held in flight, and begins once it is held, and that no further slot is examined before it,
are the model's choices (log 31), and so are how a second cause is met (log 19), and what is dropped with a burst start and a
stray frame (logs 22, 4). That the queue words beyond the count are then 0 (log 13), and that the channels' mirrors are
written also where a channel stands as it was (log 34), are the model's choices too. The cells of an identity programming cut
off stand as before it, as the model chooses (log 35). -/
def Obligations.DeferredResetsWait : Prop :=
  ∀ s : State, s.ready →
    (∀ r, s.req.current = some r →
      exec .hardResetAssert s = .next { s with power := { s.power with pin := true, deferred := some .hard } } ∧
      (s.power.deferred = none → exec .softReset s = .next { s with power := { s.power with deferred := some .soft } })) ∧
    (∀ d, s.power.deferred = some d → exec .softReset s = .next s ∧ exec .sweepSlot s = .next s) ∧
    (s.req.current = none →
      let ends (c : ResetCause) : Prop :=
        s.secondCauseNext = false →
        Answers (exec .deferredResetBegin s) fun t =>
          (∃ u, s.ResetBegun u .working c s.power.pin ∧ u.ResetEnded t) ∧ s.SettingsFromBlock t ∧
            s.SegmentsRecovered t
      (s.power.deferred = some .hard → s.power.pin = true →
        Answers (exec .deferredResetBegin s) (s.ResetBegun · .hardHeld .hard true)) ∧
      (s.power.deferred = some .hard → s.power.pin = false → ends .hard) ∧
      (s.power.deferred = some .soft → ends .soft))

/-! ## Register window and Memory Port -/

/-- R188, R193, R194, R172, R167: a write to WAKE removes the causes whose bit is 1 and the line is judged again. A write of
any value to SWEEP, and an expiry of the sweep timer, each begin a sweep at slot 0 or set the sweep-pending flag of the sweep
in progress; the timer restarts from its expiry. A write to IDENT or to bits without a function changes nothing. R197, R198: a
host read gives the word and a host write changes that word alone. Before READY sets, writes to SWEEP, WAKE and CONTROL change
nothing (one that meets the reset work lets it go on: log 19), SWEEP and WAKE read 0, CONTROL shows the cause alone, and a
host access reads 0 or is discarded. -/
def Obligations.RegistersAndPortServeTheHost : Prop :=
  ∀ (v : Word) (s : State),
    let asked : RequestTable :=
      if s.req.sweep = none then { s.req with sweep := some 0 } else { s.req with sweepPending := true }
    (s.ready →
      exec (.wakeClear v) s =
          .next
            { s with
              wake :=
                { pending := s.wake.pending &&& ~~~v.setWidth 11
                  line := decide (s.wake.pending &&& ~~~v.setWidth 11 &&& s.maskInForce ≠ 0) } } ∧
        exec (.sweep v) s = .next { s with req := asked } ∧
        (s.time.sweepDue ≤ s.now →
          exec .sweepTimerExpiry s =
            .next
              { s with
                req := asked
                time := { s.time with sweepDue := s.time.sweepDue + 1000 * s.settings.sweepPeriod } }) ∧
        ∀ a : BitVec 15,
          exec (.hostWordAccess a .read) s = .next { s with hostData := s.peek a.toNat } ∧
            Answers (exec (.hostWordAccess a (.write v)) s) fun t =>
              t.peek a.toNat = v ∧ s.KeepsWords t (· = a.toNat) ∧ t = { s with mem := t.mem }) ∧
      (∀ o : Fin 4, exec (.registerWriteIgnored o v) s = .next s) ∧
      (¬ s.ready →
        exec (.sweep v) s = .next s ∧ exec (.wakeClear v) s = .next s ∧
          (s.power.phase ≠ .working → exec .softReset s = .next s) ∧
          s.readSweep = 0 ∧ s.readWake = 0 ∧ s.readControl = pack [(12, 0), (2, s.power.cause.code)] ∧
          ∀ a : BitVec 15,
            exec (.hostWordAccess a .read) s = .next { s with hostData := 0 } ∧
              exec (.hostWordAccess a (.write v)) s = .next s)

/-! ## Events out of their time -/

/-- R190: work in progress in every block is abandoned, so that until READY sets no event of a block changes anything; only
the pins of the contact inputs go on showing what is on them (R125). R164: an interval's expiry is an event only once the
base has come to its end; a command that names it earlier changes nothing. That such an event changes nothing is the model's
reading of R190 (log 10) and of R164 (log 6), and the pin at a tachometer edge is log 26. -/
def Obligations.EventsOutOfTheirTimeChangeNothing : Prop :=
  ∀ (c : Instr) (s : State),
    (¬ s.ready →
      (actsInReset c = false → exec c s = .next s) ∧
        (∀ (i : Fin 16) (high : Bool),
          exec (.rawLevelChange i high) s =
            .next { s with inputs := s.inputs.set i { s.inputs[i] with raw := high } }) ∧
        (∀ (i : Fin 16) (elapsed : Nat),
          exec (.tachActiveEdge i elapsed) s =
            .next
              { s with
                time := { s.time with base := s.time.base + elapsed }
                inputs := s.inputs.set i { s.inputs[i] with raw := !s.settings.inputs[i].activeLow } })) ∧
    (∀ m, s.now < m →
      (s.time.sweepDue = m → exec .sweepTimerExpiry s = .next s) ∧
        (s.time.rampDue = m → exec .rampTick s = .next s) ∧
        (s.time.watchDue = m → exec .watchTick s = .next s ∧ ∀ n, exec (.freshnessExpiry n) s = .next s) ∧
        (∀ (o : SurveyOffer), s.time.series[o.timer] = [] → s.time.surveyDue[o.timer] = some m →
          exec (.surveyTimerExpiry o) s = .next s) ∧
        (∀ i start, s.coll.st = .filling i start → start + 100000 * s.settings.closeAge = m →
          exec .closeAgeExpiry s = .next s) ∧
        (((∃ tr, s.bus.ctl = .awaiting tr (some m)) ∨ ∃ b n ws, s.bus.ctl = .streaming b n ws (some m)) →
          exec .replyTimeout s = .next s) ∧
        (∀ n, s.bus.ctl = .draining n (some m) → exec .drainEnd s = .next s) ∧
        (s.bus.ctl = .settling (some m) → exec .settlingEnd s = .next s) ∧
        (∀ e, s.engine.ctx = some e → e.phase = .waiting m → exec .waitExpiry s = .next s) ∧
        (∀ e st left, s.engine.ctx = some e → e.phase = .spacing st left m → exec .retrySpacingExpiry s = .next s) ∧
        (∀ i : Fin 16,
          ((s.inputs[i]).window = .debounce m → exec (.debounceWindowExpiry i) s = .next s) ∧
            ((s.inputs[i]).window = .first m → exec (.firstWindowExpiry i) s = .next s) ∧
            (∀ start, (s.inputs[i]).stallFrom = some start → start + 1000 * (s.settings.inputs[i]).stallTime = m →
              exec (.stallIntervalExpiry i) s = .next s)) ∧
        (s.visit.endDue = some m → exec .endDelayExpiry s = .next s) ∧
        (∀ ch : Fin 4,
          ((s.duty.channels[ch]).burst = .burst m → exec (.burstExpiry ch) s = .next s) ∧
            ((s.duty.channels[ch]).burst = .spacing m → exec (.spacingExpiry ch) s = .next s)) ∧
        (∀ p route hut, s.ident.programming = some p → p.due = m → exec (.identProgramEnd route hut) s = .next s))

/-! ## The Request Table -/

/-- R173, R174, R176, R177: what the examination of one slot does. A POSTED slot with a request that passes its checks is
taken, its copy kept, and an earlier request held in that slot detached. One that fails a check completes BAD_KIND or
BAD_ARGUMENT. A TAKEN slot that is not held in flight completes INTERRUPTED. Any other slot is passed over. (While a reset
waits no slot is examined: log 31.) The last clause is the model's own split of this (log 17): a request command that finds
the sweep standing at a POSTED slot of its kind takes the slot first, as SWEEP_SLOT does. -/
def Obligations.SweepTakesOrRefuses : Prop :=
  ∀ (s : State) (k : Fin 16), s.ready → s.req.sweep = some k → s.req.current = none → s.power.deferred = none →
    let kept := s.req.inflight.filter fun e => e.slot ≠ k
    let refusal (held : List HeldRequest) (res : Result) (v : Nat) (t : State) : Prop :=
      t.peek (slotAddr k) = 4 ∧ t.peek (slotAddr k + 6) = BitVec.ofNat 32 res.code ∧
        t.peek (slotAddr k + 7) = BitVec.ofNat 32 v ∧ s.SweepShown t ∧
        s.KeepsWords t (fun a => SlotReport k a ∨ a = 0x43) ∧
        t =
          { s with
            mem := t.mem, req := sweptOn { s.req with inflight := held } k
            wake := if slotWake s.mem k then s.raised .request else s.wake }
    (∀ kind, slotState s.mem k = 1 → ReqKind.ofCode (slotKind s.mem k) = some kind →
      (badParameter (slotCopy s.mem k kind) = none →
        Answers (exec .sweepSlot s) fun t =>
          t.peek (slotAddr k) = 2 ∧ s.KeepsWords t (· = slotAddr k) ∧
            t =
              { s with
                mem := t.mem
                req := { s.req with current := some (slotCopy s.mem k kind), inflight := kept } }) ∧
      (∀ n, badParameter (slotCopy s.mem k kind) = some n → Answers (exec .sweepSlot s) (refusal kept .badArgument n))) ∧
    (slotState s.mem k = 1 → ReqKind.ofCode (slotKind s.mem k) = none →
      Answers (exec .sweepSlot s) (refusal kept .badKind 0)) ∧
    (slotState s.mem k = 2 → (∀ e ∈ s.req.inflight, e.slot ≠ k) →
      Answers (exec .sweepSlot s) (refusal s.req.inflight .interrupted 0)) ∧
    ((slotState s.mem k = 2 ∧ ∃ e ∈ s.req.inflight, e.slot = k) ∨ (slotState s.mem k ≠ 1 ∧ slotState s.mem k ≠ 2) →
      Answers (exec .sweepSlot s) fun t =>
        s.SweepShown t ∧ s.KeepsWords t (· = 0x43) ∧ t = { s with mem := t.mem, req := sweptOn s.req k }) ∧
    (∀ kind t, slotState s.mem k = 1 → ReqKind.ofCode (slotKind s.mem k) = some kind → exec .sweepSlot s = .next t →
      t.req.current.isSome → exec (requestCommand kind) s = exec (requestCommand kind) t)

/-- R181, R5, R7, R10, R14: LIST_RUN offers a REQUESTED trigger. A disabled list gives NOT_ACTIVE; one that stands in the
queue coalesces, OK 2; any other is queued in its class's place, OK 1, whatever the shed level, and in IDLE it starts. A run
whose start address is outside the list area ends at once with BAD_STEP. The queue words beyond the count, and the word at
0045H after the run, are 0 as the model chooses (log 13). -/
def Obligations.ListRunByItsAnswer : Prop :=
  ∀ (s : State) (r : Taken), s.Carries r .listRun → r.p1.toNat ≤ 31 →
    let l := r.list
    let d := readDir s.mem l
    let e : QEntry := { list := l, urgent := d.urgent, source := .requested }
    (d.enabled = false → Answers (exec .listRun s) (s.Completes · r .notActive 0 (fun _ => False) s)) ∧
    (d.enabled = true → (∃ q ∈ s.engine.queue, q.list = l) →
      Answers (exec .listRun s) fun t =>
        s.Completes t r .ok 2 (· = dirAddr l + 2) s ∧
          t.peek (dirAddr l + 2) =
            setField (s.peek (dirAddr l + 2)) 16 16 (satInc 65535 (field (s.peek (dirAddr l + 2)) 16 16))) ∧
    (d.enabled = true → (∀ q ∈ s.engine.queue, q.list ≠ l) → s.engine.mode ≠ .idle →
      Answers (exec .listRun s) fun t =>
        s.Completes t r .ok 1 QueueWord { s with engine := { s.engine with queue := t.engine.queue } } ∧
          t.SnapshotShown ∧
          (d.urgent = false → t.engine.queue = s.engine.queue ++ [e]) ∧
          (d.urgent = true →
            ∃ ahead behind, s.engine.queue = ahead ++ behind ∧ t.engine.queue = ahead ++ e :: behind ∧
              (∀ q ∈ behind, q.urgent = false) ∧ ∀ q ∈ ahead.getLast?, q.urgent = true)) ∧
    (d.enabled = true → s.engine.mode = .idle → s.engine.queue = [] → inListArea d.start →
      Answers (exec .listRun s) fun t =>
        s.Completes t r .ok 1 StartWord { s with engine := t.engine } ∧ s.Starts t l .requested [] ∧
          t.peek 0x40 = t.word40) ∧
    (d.enabled = true → s.engine.mode = .idle → s.engine.queue = [] → ¬ inListArea d.start → d.endRecord = false →
      (∀ q ∈ s.req.inflight, q.kind ≠ .cut) →
      Answers (exec .listRun s) fun t =>
        s.Completes t r .ok 1 (fun a => StartWord a ∨ RunEndWord l a) { s with engine := s.idleEngine } ∧
          s.RunShown t l .badStep ∧ t.peek 0x45 = 0 ∧ t.peek 0x40 = t.word40 ∧ t.SnapshotShown)

/-- R17, R18, R182: LIST_CUT of a list that only stands in the queue removes it, OK 0; of one that stands nowhere, NOT_ACTIVE.
Of the running list it sets cut requested and is held while bus work lasts. Between steps, in a WAIT and in a retry spacing
the run ends with CUT at once, and the request completes with that outcome, behind each LIST_CUT held in flight for the run,
in its own slot (their order: log 11). The queue words beyond the count and the word 0045H after a run are 0 as the model
chooses (log 13). -/
def Obligations.ListCutByItsPlace : Prop :=
  ∀ (s : State) (r : Taken), s.Carries r .listCut → r.p1.toNat ≤ 31 →
    let l := r.list
    let rest := s.engine.queue.filter fun q => q.list ≠ l
    ((∀ c, s.engine.ctx = some c → c.list ≠ l) → (∃ q ∈ s.engine.queue, q.list = l) →
      Answers (exec .listCut s) fun t =>
        s.Completes t r .ok 0 QueueWord { s with engine := { s.engine with queue := rest } } ∧ t.SnapshotShown) ∧
    ((∀ c, s.engine.ctx = some c → c.list ≠ l) → (∀ q ∈ s.engine.queue, q.list ≠ l) →
      Answers (exec .listCut s) (s.Completes · r .notActive 0 (fun _ => False) s)) ∧
    (∀ c, s.engine.ctx = some c → c.list = l →
      (∀ step, c.phase = .bus step →
        Answers (exec .listCut s) fun t =>
          s.HoldsOn t r .cut QueueWord
              { s with
                engine :=
                  { s.engine with queue := rest, ctx := some { c with cut := true }, cuts := s.engine.cuts + 1 } } ∧
            ((∃ q ∈ s.engine.queue, q.list = l) → t.SnapshotShown) ∧
            ((∀ q ∈ s.engine.queue, q.list ≠ l) → s.KeepsWords t (· = 0x43))) ∧
      ((c.phase = .between ∨ (∃ due, c.phase = .waiting due) ∨
          ∃ st left due, c.phase = .spacing st left due ∧ st.ready = .retry ∧ st.record = false) →
        s.EndsQuiet c →
        Answers (exec .listCut s) fun t =>
          s.Completes t r .ok 5 (fun a => RunEndWord l a ∨ a = 0x40 ∨ s.HeldWord .cut a)
              { s.heldGone .cut with engine := s.idleEngine } ∧
            s.RunShown t l .cut ∧ s.CutsDone t .cut ∧ t.peek 0x45 = 0 ∧ t.peek 0x40 = t.word40))

/-- R12, R13: ENGINE_HOLD and ENGINE_RESUME by the engine state. A resume in HOLDING withdraws every pending hold, which
leaves the in-flight set and shows WITHDRAWN in its slot; the REQUEST cause follows where a hold withdrawn, or the resume,
asked for it (R175; several complete in the order taken, log 11); in HELD the head starts, or the engine is IDLE. The queue
words beyond the count are 0 as the model chooses (log 13). -/
def Obligations.EngineHoldsAndResumes : Prop :=
  ∀ (s : State) (r : Taken),
    (s.Carries r .engineHold →
      (s.engine.mode = .idle →
        Answers (exec .engineHold s) fun t =>
          s.Completes t r .ok 0 (· = 0x40) { s with engine := { s.engine with mode := .held } } ∧
            t.peek 0x40 = t.word40) ∧
      (s.engine.mode = .running →
        Answers (exec .engineHold s) fun t =>
          s.HoldsOn t r .hold (· = 0x40)
              { s with engine := { s.engine with mode := .holding, holds := s.engine.holds + 1 } } ∧
            t.peek 0x40 = t.word40) ∧
      (s.engine.mode = .holding →
        Answers (exec .engineHold s)
          (s.HoldsOn · r .hold (fun _ => False) { s with engine := { s.engine with holds := s.engine.holds + 1 } })) ∧
      (s.engine.mode = .held → Answers (exec .engineHold s) (s.Completes · r .ok 0 (fun _ => False) s))) ∧
    (s.Carries r .engineResume →
      ((s.engine.mode = .idle ∨ s.engine.mode = .running) →
        Answers (exec .engineResume s) (s.Completes · r .notActive 0 (fun _ => False) s)) ∧
      (s.engine.mode = .held → s.engine.queue = [] →
        Answers (exec .engineResume s) fun t =>
          s.Completes t r .ok 0 (· = 0x40) { s with engine := { s.engine with mode := .idle } } ∧
            t.peek 0x40 = t.word40) ∧
      (∀ e rest, s.engine.mode = .held → s.engine.queue = e :: rest → inListArea (readDir s.mem e.list).start →
        Answers (exec .engineResume s) fun t =>
          s.Completes t r .ok 0 StartWord { s with engine := t.engine } ∧ s.Starts t e.list e.source rest ∧
            t.peek 0x40 = t.word40) ∧
      (s.engine.mode = .holding →
        Answers (exec .engineResume s) fun t =>
          s.Completes t r .ok 0 (fun a => a = 0x40 ∨ s.HeldWord .hold a)
              { s.heldGone .hold with engine := { s.engine with mode := .running, holds := 0 } } ∧
            s.HeldDone t .hold .withdrawn 0 ∧ t.peek 0x40 = t.word40))

/-- R81, R82, R183, R158: WATCH_ARM of a definition that fails a check is refused with the check's number; otherwise arming
and disarming set the armed field, leave the watch UNRATED with restart set, and keep its values. Where the watch is the shed
watch and a shed level was in force, the level becomes NONE, with its SHED record and cause, the line judged by the mask then
in force (R194). That all four state words of the watch are written then, also a word that shows no change, is the model's
choice (log 30). -/
def Obligations.WatchesArmAndDisarm : Prop :=
  ∀ (s : State) (r : Taken) (k : ReqKind) (on : Bool), s.Carries r k → r.p1.toNat ≤ 63 →
    (k = .watchArm ∧ on = true ∨ k = .watchDisarm ∧ on = false) →
    let n := r.watch
    let d := readDef s.mem n
    let w := { s.watches[n] with armed := on, grade := .unrated, cand := none, pcount := 0, restart := true }
    let u := { s with watches := s.watches.set n w }
    (∀ f, on = true → d.firstFault = some f →
      Answers (exec .watchArm s) (s.Completes · r .badLimits (BitVec.ofNat 32 f) (fun _ => False) s)) ∧
    ((on = true → d.firstFault = none) →
      ((s.settings.shedWatch = some n → s.duty.shed = .none) →
        Answers (exec (requestCommand k) s) fun t => s.Completes t r .ok 0 (WatchWord n) u ∧ t.WatchShown n) ∧
      (∀ i, s.settings.shedWatch = some n → s.duty.shed ≠ .none → s.RoomFor i 3 →
        Answers (exec (requestCommand k) s) fun t =>
          let calm : State := { u with duty := { s.duty with shed := .none } }
          s.Completes t r .ok 0 (fun a => WatchWord n a ∨ s.RecordWord i 3 a ∨ a = 0x40)
              { calm with coll := s.collAfter 3, wake := calm.raised .shed } ∧
            t.WatchShown n ∧ t.peek 0x40 = t.word40 ∧
            s.Recorded t i (shedRecord s.duty.shed .none (some n) (if on then .arm else .disarm))))

/-- R86–R94, R80, R183: WATCH_FEED. An unarmed watch gives NOT_ACTIVE; a definition that fails a check gives BAD_LIMITS
and, where the watch was rated, unrates it with a GRADE record of cause DEFINITION. Otherwise the value is evaluated, and
the request answers the grade: the engineering value is saturated, the smoothed value filtered, and the grade follows
classification, hysteresis and persistence. A grade that stands changes nothing else; one that changes is recorded. That a
definition fault has all four state words written, also a word that shows no change, is the model's choice (log 30). -/
def Obligations.WatchFeedEvaluates : Prop :=
  ∀ (s : State) (r : Taken), s.Carries r .watchFeed → r.p1.toNat ≤ 63 →
    let n := r.watch
    let d := readDef s.mem n
    let w := s.watches[n]
    let v := signed 32 r.p2.toNat
    let e := max (-32768) (min v 32767)
    let x := if w.restart = true ∨ d.k = 0 then e else w.smooth + (e - w.smooth + 2 ^ (d.k - 1)) / 2 ^ d.k
    let count := if w.cand = some (indicated d w.grade x) then w.pcount + 1 else 1
    let held : Grade × Option Grade × Nat :=
      if w.grade = .unrated then (classify d x, none, 0)
      else if indicated d w.grade x = w.grade then (w.grade, none, 0)
      else if d.persist ≤ count then (indicated d w.grade x, none, 0)
      else (w.grade, some (indicated d w.grade x), count)
    let g := held.1
    let w' : Watch :=
      { w with
        grade := g, cand := held.2.1, pcount := held.2.2, eng := e, smooth := x, clamp := decide (v < -32768 ∨ 32767 < v)
        restart := false, samples := satInc 65535 w.samples, lastEval := s.time.timestamp, mark := some s.time.base }
    let lapsed : Watch := { w with grade := .unrated, cand := none, pcount := 0, restart := true }
    (w.armed = false → Answers (exec .watchFeed s) (s.Completes · r .notActive 0 (fun _ => False) s)) ∧
    (∀ f, w.armed = true → d.firstFault = some f →
      (w.grade = .unrated →
        Answers (exec .watchFeed s) (s.Completes · r .badLimits (BitVec.ofNat 32 f) (fun _ => False) s)) ∧
      (∀ i, w.grade ≠ .unrated → s.settings.shedWatch ≠ some n → s.RoomFor i 4 →
        Answers (exec .watchFeed s) fun t =>
          s.Completes t r .badLimits (BitVec.ofNat 32 f) (fun a => WatchWord n a ∨ s.RecordWord i 4 a)
              { s with
                watches := s.watches.set n lapsed, coll := s.collAfter 4
                wake := if d.wakes .unrated then s.raised .grade else s.wake } ∧
            t.WatchShown n ∧ s.Recorded t i (gradeRecord n w.grade lapsed .definition))) ∧
    (w.armed = true → d.firstFault = none →
      (g = w.grade →
        Answers (exec .watchFeed s) fun t =>
          s.Completes t r .ok (BitVec.ofNat 32 g.code) (WatchWord n) { s with watches := s.watches.set n w' } ∧
            t.WatchShown n) ∧
      (∀ i, g ≠ w.grade → s.settings.shedWatch ≠ some n → s.RoomFor i 4 →
        (d.worsenList = none ∨ g.severity ≤ w.grade.severity) →
        Answers (exec .watchFeed s) fun t =>
          s.Completes t r .ok (BitVec.ofNat 32 g.code) (fun a => WatchWord n a ∨ s.RecordWord i 4 a)
              { s with
                watches := s.watches.set n w', coll := s.collAfter 4
                wake := if d.wakes g then s.raised .grade else s.wake } ∧
            t.WatchShown n ∧ s.Recorded t i (gradeRecord n w.grade w' .evaluation)))

/-- R91, R92: hysteresis, for limits in their order. From UNRATED and NORMAL the indicated grade is the classification.
From a side it is the classification where that is on the other side or as severe, and otherwise the less severe of the
grade held and the classification of the value moved back by the hysteresis. R88: an evaluation takes the engineering value
whole where restart is set or k is 0, and else moves by the filter's step; restart is cleared, and the filtered value lies
between its old value and the engineering value and stays in range. -/
def Obligations.GradesImproveOnlyPastHysteresis : Prop :=
  ∀ (d : WatchDef) (x : Int), d.lowCrit ≤ d.lowWarn → d.lowWarn ≤ d.highWarn → d.highWarn ≤ d.highCrit →
    indicated d .unrated x = classify d x ∧ indicated d .normal x = classify d x ∧
      indicated d .warnHigh x =
        (if x < d.lowCrit then .critLow else if x < d.lowWarn then .warnLow
        else if d.highCrit < x then .critHigh else if d.highWarn < x + d.hyst then .warnHigh else .normal) ∧
      indicated d .critHigh x =
        (if x < d.lowCrit then .critLow else if x < d.lowWarn then .warnLow
        else if d.highCrit < x + d.hyst then .critHigh else if d.highWarn < x + d.hyst then .warnHigh else .normal) ∧
      indicated d .warnLow x =
        (if d.highCrit < x then .critHigh else if d.highWarn < x then .warnHigh
        else if x < d.lowCrit then .critLow else if x - d.hyst < d.lowWarn then .warnLow else .normal) ∧
      indicated d .critLow x =
        (if d.highCrit < x then .critHigh else if d.highWarn < x then .warnHigh
        else if x - d.hyst < d.lowCrit then .critLow else if x - d.hyst < d.lowWarn then .warnLow else .normal) ∧
      (∀ (w : Watch) (v : Int) (raw : Option Int) (stamp : Stamp) (now : Moment),
        let u := evaluated d w v raw stamp now
        u.restart = false ∧ u.eng = max (-32768) (min v 32767) ∧
          (w.restart = true ∨ d.k = 0 → u.smooth = u.eng) ∧
          (w.restart = false → d.k ≠ 0 → u.smooth = w.smooth + (u.eng - w.smooth + 2 ^ (d.k - 1)) / 2 ^ d.k) ∧
          (w.restart = false → min w.smooth u.eng ≤ u.smooth ∧ u.smooth ≤ max w.smooth u.eng) ∧
          (-32768 ≤ w.smooth → w.smooth ≤ 32767 → -32768 ≤ u.smooth ∧ u.smooth ≤ 32767))

/-- R115, R119, R184, R114: COLLECTION_CLOSE and the close age close the filling segment, ASKED and AGE; with none filling
the one completes NOT_ACTIVE and the other changes nothing. COLLECTION_RESTART empties every header of the geometry and the
loss episode, keeping the counts; while a list runs it completes BUSY. An expiry that finds no segment of its own to close
closes none, also where a younger one fills; that a command then changes nothing is the model's reading (logs 6, 10). -/
def Obligations.CollectionClosesAndRestarts : Prop :=
  ∀ s : State,
    (∀ r, s.Carries r .collectionClose →
      ((∀ i start, s.coll.st ≠ .filling i start) →
        Answers (exec .collectionClose s) (s.Completes · r .notActive 0 (fun _ => False) s)) ∧
      (∀ i start, s.coll.st = .filling i start → s.GeometryOk → i.val < s.settings.count →
        Answers (exec .collectionClose s) fun t =>
          s.Completes t r .ok (s.coll.seq.setWidth 32) (s.CloseWord i)
              { s with coll := { s.coll with st := .between }, wake := s.raised .closed } ∧
            s.Closed t i .asked)) ∧
    (∀ r, s.Carries r .collectionRestart →
      ((s.engine.mode = .running ∨ s.engine.mode = .holding) →
        Answers (exec .collectionRestart s) (s.Completes · r .busy 0 (fun _ => False) s)) ∧
      ((s.engine.mode = .idle ∨ s.engine.mode = .held) → s.GeometryOk →
        Answers (exec .collectionRestart s) fun t =>
          s.Completes t r .ok 0
              (fun a =>
                (∃ i < s.settings.count, s.segAddr i ≤ a ∧ a < s.segAddr i + 5) ∨ 0x9A ≤ a ∧ a ≤ 0xA2)
              { s with
                coll :=
                  { s.coll with st := .between, next := 0, nextSeq := 0, drops := 0, firstDrop := 0, lastDrop := 0 } } ∧
            (∀ i < s.settings.count, ∀ j < 5, t.peek (s.segAddr i + j) = 0) ∧
            ∀ j < 9,
              s.Reshown t (0x9A + j) ((State.collWords s.coll).getD j 0) ((State.collWords t.coll).getD j 0))) ∧
    (s.ready →
      ((∀ i start, s.coll.st ≠ .filling i start) ∨ s.settings.closeAge = 0 ∨
        ∃ i start, s.coll.st = .filling i start ∧ s.now < start + 100000 * s.settings.closeAge) →
      exec .closeAgeExpiry s = .next s) ∧
    (∀ i start, s.ready → s.coll.st = .filling i start → 0 < s.settings.closeAge →
      start + 100000 * s.settings.closeAge ≤ s.now → s.GeometryOk → i.val < s.settings.count →
      Answers (exec .closeAgeExpiry s) fun t =>
        s.Closed t i .age ∧ s.KeepsWords t (s.CloseWord i) ∧
          t = { s with mem := t.mem, coll := t.coll, wake := s.raised .closed })

/-- R145, R146, R185: DUTY_SET. OFF drives the output to 0 at once and ends a stall episode without a record; MANUAL takes
the duty, clamped at 255; ADAPTIVE changes the mode alone. The output of the other modes waits for the next tick. That OFF
drops a burst start handed before is the model's choice (log 22). -/
def Obligations.DutySetByItsMode : Prop :=
  ∀ (s : State) (r : Taken), s.Carries r .dutySet → r.p1.toNat ≤ 3 →
    let c := r.channel
    let ch := s.duty.channels[c]
    let sets (ch' : Channel) : Prop :=
      Answers (exec .dutySet s) fun t =>
        s.Completes t r .ok (BitVec.ofNat 32 ch'.manual) (ChannelWord c) { s with duty := s.withChannel c ch' } ∧
          s.ChannelReshown t c
    (r.p2 = 0 →
      sets { ch with mode := .off, target := 0, output := 0, burst := .none, used := 0, handed := false }) ∧
    (r.p2 = 1 → sets { ch with mode := .manual, manual := if 255 < r.p3.toNat then 255 else r.p3.toNat }) ∧
    (r.p2 = 2 → sets { ch with mode := .adaptive })

/-- R73, R185: STATION_FORGET makes the station named, or with 0 every station, UNKNOWN with no silences and no attention; it
keeps the rest of the record, offers no record, raises no cause, and answers how many of them were LOST. That both mirror
words of the station are written, also where the record stays as it was, is the model's choice (log 34). -/
def Obligations.StationForgetClearsItsStations : Prop :=
  ∀ (s : State) (r : Taken), s.Carries r .stationForget → r.p1.toNat ≤ 30 →
    let named (i : Fin 30) : Prop := r.p1 = 0 ∨ r.p1.toNat = i.val + 1
    Answers (exec .stationForget s) fun t =>
      (∀ i : Fin 30,
        (r.p1 = 0 ∨ r.p1.toNat = i.val + 1 →
          t.bus.stations[i] = { s.bus.stations[i] with state := .unknown, silences := 0, attention := false } ∧
            t.StationShown i) ∧
          (¬ (r.p1 = 0 ∨ r.p1.toNat = i.val + 1) → t.bus.stations[i] = s.bus.stations[i])) ∧
        s.Completes t r .ok
          (BitVec.ofNat 32
            ((List.finRange 30).countP fun i =>
              decide ((r.p1 = 0 ∨ r.p1.toNat = i.val + 1) ∧ s.bus.stations[i].state = .lost)))
          (fun a => ∃ i, named i ∧ StationWord i a)
          { s with bus := { s.bus with stations := t.bus.stations } }

/-- R186, R196: IDENT_PROGRAM is BUSY while a programming is in progress and ALREADY_SET in a programmed store; otherwise the
programming begins, 40 ms long, and the request is held. At its end the marker is written where both values read back match,
and the held request completes OK; otherwise the store stays unprogrammed and it completes STORE_FAULT. That the two cells
stand until that end, and then hold what was read back, is the model's choice (log 35). -/
def Obligations.IdentityProgramsOnce : Prop :=
  ∀ s : State,
    (∀ r, s.Carries r .identProgram → r.p1.toNat ≤ 65535 → r.p2.toNat ≤ 4095 →
      (s.ident.programming.isSome → Answers (exec .identProgram s) (s.Completes · r .busy 0 (fun _ => False) s)) ∧
      (s.ident.programming = none → s.ident.marker = true →
        Answers (exec .identProgram s) (s.Completes · r .alreadySet 0 (fun _ => False) s)) ∧
      (s.ident.programming = none → s.ident.marker = false →
        Answers (exec .identProgram s)
          (s.HoldsOn · r .ident (fun _ => False)
            { s with
              ident :=
                { s.ident with
                  programming := some { route := r.p1.setWidth 16, hut := r.p2.setWidth 12, due := s.now + 4000 } } }))) ∧
    (∀ (p : Programming) (route : BitVec 16) (hut : BitVec 12) (e : HeldRequest), s.ready →
      s.ident.programming = some p → p.due ≤ s.now → (s.req.inflight.filter fun f => f.kind = .ident) = [e] →
      Answers (exec (.identProgramEnd route hut) s) fun t =>
        let match_ := decide (route = p.route ∧ hut = p.hut)
        s.SlotDone t e.slot (if match_ then .ok else .storeFault) 0 ∧
          (match_ = true → t.peek 0xAB = pack [(16, route.toNat), (12, hut.toNat), (1, 1)]) ∧
          s.KeepsWords t (fun a => SlotReport e.slot a ∨ (match_ = true ∧ a = 0xAB)) ∧
          t =
            { s with
              mem := t.mem, wake := s.wakeDone e.slot e.wake
              req := { s.req with inflight := s.req.inflight.filter fun f => f.kind ≠ .ident }
              ident :=
                { routeCell := route, hutCell := hut, marker := s.ident.marker || match_, programming := none } })

/-- R179, R180, R166, R167, R102: SETTINGS_APPLY. A bad field refuses the block with its number; a new geometry while a list
runs is BUSY; neither changes a setting. Otherwise the settings become the block's, changed timers restart, and the answer
says whether the collection restarted. Where no setting with a consequence of its own differs, nothing else changes but the
wake line. -/
def Obligations.SettingsApplyTakesTheBlockWhole : Prop :=
  ∀ (s : State) (r : Taken), s.Carries r .settingsApply →
    let new := blockSettings s.mem
    let moves := decide (new.base ≠ s.settings.base ∨ new.count ≠ s.settings.count ∨ new.size ≠ s.settings.size)
    (∀ n, firstBadField s.mem = some n →
      Answers (exec .settingsApply s) (s.Completes · r .badSettings (BitVec.ofNat 32 n) (fun _ => False) s)) ∧
    (firstBadField s.mem = none → moves = true → (s.engine.mode = .running ∨ s.engine.mode = .holding) →
      Answers (exec .settingsApply s) (s.Completes · r .busy 0 (fun _ => False) s)) ∧
    (firstBadField s.mem = none → ¬ (moves = true ∧ (s.engine.mode = .running ∨ s.engine.mode = .holding)) →
      Answers (exec .settingsApply s) fun t =>
        t.settings = new ∧ t.time = s.clockUnder new ∧ s.SlotDone t r.slot .ok (if moves then 1 else 0)) ∧
    (firstBadField s.mem = none → (moves = true → s.engine.mode = .idle ∨ s.engine.mode = .held) →
      (moves = true ∨ new.closeAge = s.settings.closeAge) → new.lostLimit = s.settings.lostLimit →
      new.inputs = s.settings.inputs → new.visitInput = s.settings.visitInput →
      (∀ c : Fin 4, (new.channels[c]).tach = (s.settings.channels[c]).tach) →
      State.derivedLevel { s with settings := new } = s.duty.shed →
      Answers (exec .settingsApply s) fun t =>
        s.Completes t r .ok (if moves then 1 else 0)
            (fun a =>
              moves = true ∧
                ((∃ i < new.count, new.base + i * new.size ≤ a ∧ a < new.base + i * new.size + 5) ∨
                  0x9A ≤ a ∧ a ≤ 0xA2))
            { s with
              settings := new, time := s.clockUnder new
              wake := { s.wake with line := State.lineAsserted { s with settings := new } }
              coll :=
                if moves then
                  { s.coll with st := .between, next := 0, nextSeq := 0, drops := 0, firstDrop := 0, lastDrop := 0 }
                else s.coll } ∧
          (moves = true → ∀ i < new.count, ∀ j < 5, t.peek (new.base + i * new.size + j) = 0))

/-- R180, R72, R103, R114, R126, R133, R134: what an apply of settings that differ does besides. A new lost limit loses each
station whose silences have reached it, in address order. A new close age closes the segment that has filled for so long. An
input that is enabled, or whose active level or tach mode changed, settles: in contact mode with a first window, or at once
where its debounce is 0, and in tach mode at once with its stall interval. An input that is disabled is cleared, and a changed
stall time is compared with the interval that runs. A visit whose input setting is another ends: aborted in STARTING, and in ON
and LEAVING it goes to ENDING with REMOTE_TAKE pending, which an IDLE controller sends at once. (Each shown alone, on an input
that neither the visit nor a channel names.) The input that the ABORTED record names is the model's choice (log 7), that the
period and the stalled flag of a disabled input clear is deduced (log 23), and that a stray frame delays REMOTE_TAKE is the
model's reading (log 21). -/
def Obligations.ApplyHasItsConsequences : Prop :=
  ∀ (s : State) (r : Taken) (k : Fin 16), s.Carries r .settingsApply → firstBadField s.mem = none →
    let new := blockSettings s.mem
    let applied (p : Nat → Prop) (t u : State) : Prop := s.Completes t r .ok 0 p u
    (s.ApplyIsQuiet { new with lostLimit := s.settings.lostLimit } → new.lostLimit ≠ s.settings.lostLimit →
      let loses (i : Fin 30) : Prop :=
        (s.bus.stations[i]).state ≠ .lost ∧ new.lostLimit ≤ (s.bus.stations[i]).silences
      let gone (i : Fin 30) : Station := { s.bus.stations[i] with state := .lost }
      let rs := (List.finRange 30).filterMap fun i =>
        if loses i then some (stationRecord i (s.bus.stations[i]).state (gone i) 3) else none
      s.RoomForAll k rs →
      Answers (exec .settingsApply s) fun t =>
        applied (fun a => (∃ i, loses i ∧ StationWord i a) ∨ s.RecordWords k rs a) t
            { s.under new with
              bus := { s.bus with stations := t.bus.stations }, coll := t.coll
              wake := if rs = [] then (s.under new).wake else (s.under new).raised .station } ∧
          s.RecordedAll t k rs ∧
          ∀ i : Fin 30,
            (loses i → t.bus.stations[i] = gone i ∧ t.StationShown i) ∧
              (¬ loses i → t.bus.stations[i] = s.bus.stations[i])) ∧
    (∀ start, s.ApplyIsQuiet { new with closeAge := s.settings.closeAge } → new.closeAge ≠ s.settings.closeAge →
      s.coll.st = .filling k start →
      let old := 0 < new.closeAge ∧ start + 100000 * new.closeAge ≤ s.now
      (old → s.GeometryOk → k.val < s.settings.count →
        Answers (exec .settingsApply s) fun t =>
          applied (s.CloseWord k) t
              { s.under new with
                coll := { s.coll with st := .between }, wake := (s.under new).raised .closed } ∧
            s.Closed t k .age) ∧
      (¬ old → Answers (exec .settingsApply s) (applied (fun _ => False) · (s.under new)))) ∧
    (∀ i : Fin 16, s.ApplyIsQuiet { new with inputs := s.settings.inputs } →
      new.inputs = s.settings.inputs.set i new.inputs[i] → s.settings.visitInput ≠ some i →
      (∀ c : Fin 4, (s.settings.channels[c]).tach ≠ some i) →
      let o := s.settings.inputs[i]
      let g := new.inputs[i]
      let x := s.inputs[i]
      let cleared : Input :=
        { x with
          level := false, settled := false, stalled := false, period := 0, window := .none, lastEdge := none
          stallFrom := none }
      let active := x.raw != g.activeLow
      let puts (x' : Input) : Prop :=
        Answers (exec .settingsApply s) fun t =>
          applied (fun a => a = inputAddr i ∨ (o.tach = true ∨ g.tach = true) ∧ a = inputAddr i + 1) t
              { s.under new with inputs := s.inputs.set i x' } ∧
            (statusWord x' 0 ≠ statusWord x 0 →
              t.peek (inputAddr i) = statusWord x' (field (s.peek (inputAddr i)) 4 2)) ∧
            (x' ≠ x → (o.tach = true ∨ g.tach = true) → t.peek (inputAddr i + 1) = BitVec.ofNat 32 x'.period)
      let anew := g.enabled = true ∧ (o.enabled = false ∨ g.activeLow ≠ o.activeLow ∨ g.tach ≠ o.tach)
      (anew → g.tach = false →
        puts
          (if g.debounce = 0 then { cleared with level := active, settled := true }
          else { cleared with window := .first (s.now + 100 * g.debounce) })) ∧
      (anew → g.tach = true → 0 < g.stallTime →
        puts { cleared with level := active, settled := true, stallFrom := some s.now }) ∧
      (o.enabled = true → g.enabled = false → puts cleared) ∧
      (∀ m, g = { o with stallTime := g.stallTime } → g.stallTime ≠ o.stallTime → g.enabled = true → g.tach = true →
        x.stallFrom = some m →
        puts
          (if m + 1000 * g.stallTime ≤ s.now then
            { x with stalled := true, period := 65535, lastEdge := none, stallFrom := none }
          else x))) ∧
    (s.ApplyIsQuiet { new with visitInput := s.settings.visitInput } → s.settings.visitInput ≠ none →
      new.visitInput ≠ s.settings.visitInput →
      ((s.visit.state = .off ∨ s.visit.state = .ending) →
        Answers (exec .settingsApply s) (applied (fun _ => False) · (s.under new))) ∧
      (s.visit.state = .starting → s.RoomFor k 4 →
        Answers (exec .settingsApply s) fun t =>
          applied (fun a => a = 0x40 ∨ s.RecordWord k 4 a) t
              { s.under new with
                visit := { s.visit with state := .off }, coll := s.collAfter 4
                bus := { s.bus with visitPending := none } } ∧
            t.peek 0x40 = t.word40 ∧ s.Recorded t k (visitRecord s.visit .aborted)) ∧
      ((s.visit.state = .on ∨ s.visit.state = .leaving) →
        Answers (exec .settingsApply s) fun t =>
          applied (· = 0x40) t
              { s.under new with
                visit := { s.visit with state := .ending, endDue := none }
                bus := (s.under new).busPending .remoteTake } ∧
            t.peek 0x40 = t.word40))

/-! ## Frames on the instrument bus -/

/-- R54, R55, R57: a reply sent with its fields in order and closed by its check reads back as those fields, and its check
is good exactly when its length is the one R54 fixes; any other 16 bits in place of its check make it GARBLED. -/
def Obligations.RepliesReadBack : Prop :=
  ∀ (a : Awaited) (source type : Nat) (accept ready attention last : Bool) (data check : List Bool),
    source < 32 → type < 4 → check.length = 16 →
    let body := bitsOf 5 source ++ [accept, ready, attention, last] ++ bitsOf 2 type ++ data
    replyFields (body ++ check) = { source, accept, ready, attention, last, type, data := natOfBits data } ∧
      (checkGood a (body ++ check) = true ↔
        check = bitsOf 16 (checkOf body) ∧ ∀ n, fixedLength a type = some n → data.length + 27 = n) ∧
      (checkGood a (body ++ check) = false → judgeReply a (body ++ check) = .garbled)

/-! ## Bus steps: READ, BLOCK_READ, WRITE, CONTROL, STATUS_POLL, ROLL_CALL, SAMPLE_ALL, CLEAR -/

/-- R15, R24, R30–R41, R52, R56: a bus step whose fields pass is counted and hands its work; with the bus free, its station
not LOST and, for a write-type step, no visit, its frame begins at once under the reply timeout in force. -/
def Obligations.BusStepsSendFrames : Prop :=
  ∀ (s : State) (c : Ctx) (k : StepKind) (step : BusStep) (w : Work), s.AtStep c k → s.busStepOf c k = some (step, w) →
    s.BusFree → s.workLost w = false → (w.writeType = true → s.visit.state = .off) →
    Answers (exec (stepCommand k) s) fun t =>
      t.bus.lineBits = w.frameBits ∧ t.peek 0x45 = State.runningWord (some c) ∧ t.peek 0x40 = t.word40 ∧
        s.KeepsWords t (fun a => a = 0x40 ∨ a = 0x45) ∧
        t =
          { s with
            mem := t.mem
            engine := { s.engine with ctx := some { c with executed := c.executed + 1, phase := .bus step } }
            bus := { s.bus with waiting := none, ctl := .sending (.work w s.settings.replyTimeout) } }

/-- R52, R65, R74: while the controller is in SETTLING or DRAINING the work of a bus step waits there; where a stray frame
is arriving in IDLE the controller drains first, for the reply timeout in force. R27: a write-type step taken while the visit
state is not OFF sends no frame and completes HELD, whether its station is LOST or not; the run goes on. What counts as a
stray frame, and that its delay comes before the visit state and a LOST station are read, is the model's reading (log 21). -/
def Obligations.BusStepsWaitOrAreHeld : Prop :=
  ∀ (s : State) (c : Ctx) (k : StepKind) (step : BusStep) (w : Work), s.AtStep c k → s.busStepOf c k = some (step, w) →
    let engine := { s.engine with ctx := some { c with executed := c.executed + 1, phase := .bus step } }
    (((∃ due, s.bus.ctl = .settling due) ∨ ∃ n due, s.bus.ctl = .draining n due) →
      Answers (exec (stepCommand k) s) fun t =>
        t.peek 0x45 = State.runningWord (some c) ∧ s.KeepsWords t (· = 0x45) ∧
          t = { s with mem := t.mem, engine, bus := { s.bus with waiting := some w } }) ∧
    (s.bus.ctl = .idle → s.bus.visitPending = none → s.bus.strayArriving = true →
      Answers (exec (stepCommand k) s) fun t =>
        t.peek 0x45 = State.runningWord (some c) ∧ t.peek 0x40 = t.word40 ∧
          s.KeepsWords t (fun a => a = 0x40 ∨ a = 0x45) ∧
          t =
            { s with
              mem := t.mem, engine
              bus := { s.bus with waiting := some w, ctl := .draining s.settings.replyTimeout none } }) ∧
    (s.BusFree → w.writeType = true → s.visit.state ≠ .off → State.GoesOn c →
      Answers (exec (stepCommand k) s) fun t =>
        t.peek 0x45 = State.runningWord (some c) ∧ s.KeepsWords t (· = 0x45) ∧
          t =
            { s with
              mem := t.mem, engine := { s.engine with ctx := some (c.stepped (c.addr + k.words)) }
              bus := { s.bus with waiting := none } })

/-- R56, R63, R26: work for a LOST station sends nothing and leaves the bus as it was. Under CONTINUE, and where the step has
no failure policy, the step completes LOST, with the record its kind offers, and the run goes on, or ends CUT where a cut is
requested; under ABORT the run ends ABORTED, with the same record. A run that ends offers its LIST_END record, where the list
asks for one, after the step's. The absent fields of the records (log 12) and the word at 0045H after the run (log 13) are the
model's. A run that ends completes every LIST_CUT held in flight OK with its outcome (R17, R182; their order is log 11). -/
def Obligations.LostStationsGetNoFrame : Prop :=
  ∀ (s : State) (c : Ctx) (k : StepKind) (step : BusStep) (w : Work), s.AtStep c k → s.busStepOf c k = some (step, w) →
    s.BusFree → s.workLost w = true → (w.writeType = true → s.visit.state = .off) →
    let policy : FailurePolicy :=
      match step with
      | .read st _ => st.failure
      | .block st => st.failure
      | .write st => st.failure
      | .control st => st.failure
      | .statusPoll _ | .rollCall | .sampleAll | .clear => .continue
    let offered : Option Record :=
      match step with
      | .read st _ =>
        if st.record then some (readingRecord (stationPlace st) .lost none st.watch false) else none
      | .block st => some (blockRecord st .lost [])
      | .statusPoll i => some (statusRecord i .lost none)
      | .write _ | .control _ | .rollCall | .sampleAll | .clear => none
    (policy = .continue → State.GoesOn c → offered = none →
      Answers (exec (stepCommand k) s) fun t =>
        t.peek 0x45 = State.runningWord (some c) ∧ s.KeepsWords t (· = 0x45) ∧
          t =
            { s with
              mem := t.mem, engine := { s.engine with ctx := some (c.stepped (c.addr + k.words)) }
              bus := { s.bus with waiting := none } }) ∧
    (∀ rec i, policy = .continue → State.GoesOn c → offered = some rec → s.RoomFor i rec.length →
      Answers (exec (stepCommand k) s) fun t =>
        t.peek 0x45 = State.runningWord (some c) ∧ s.Recorded t i rec ∧
          s.KeepsWords t (fun a => a = 0x45 ∨ s.RecordWord i rec.length a) ∧
          t =
            { s with
              mem := t.mem, engine := { s.engine with ctx := some (c.stepped (c.addr + k.words)) }
              bus := { s.bus with waiting := none }, coll := s.collAfter rec.length }) ∧
    (policy = .abort → s.EndsQuiet c → offered = none →
      Answers (exec (stepCommand k) s) ({ s with bus := { s.bus with waiting := none } }.RunOver · c.list .aborted)) ∧
    (∀ i, policy = .abort ∨ c.cut = true →
      let counted := { c with executed := c.executed + 1 }
      let own := State.runEnd counted .pass policy .lost
      s.MayConclude counted own offered.toList i →
      Answers (exec (stepCommand k) s) fun t =>
        s.StepConcludes t counted own (c.addr + k.words) offered.toList i (fun _ => False)
          { s with bus := { s.bus with waiting := none } })

/-! ## Every step -/

/-- R15, R16, R28, R46, R20: a step whose words are no step, or whose fields fail a check, and a LOOP with no mark, do
nothing and end the run with BAD_STEP; the LIST_END record, where the list asks for one, carries its address and counts no
step for it. A step that completes where a cut is requested ends the run with CUT, and the 4,096th step with STEP_LIMIT. At
each of these ends every LIST_CUT held in flight completes OK with the run's outcome (R17, R182; their order: log 11).
(The last two are shown on three steps that offer no record: MARK, LOOP and a CLOSE with nothing to close.) The absent
fields of LIST_END (log 12), the word at 0045H after the run (log 13) and the step command that ends the run where the words
are no step (log 15) are the model's. -/
def Obligations.StepsThatEndTheRun : Prop :=
  ∀ (s : State) (c : Ctx) (k : StepKind), s.ready → s.engine.ctx = some c → c.phase = .between →
    let faulty := stepKindAt s.mem c.addr = none ∨ (stepKindAt s.mem c.addr = some k ∧ s.fieldsOk c k = false)
    (faulty → s.EndsQuiet c → Answers (exec (stepCommand k) s) fun t => s.RunOver t c.list .badStep ∧ t.peek 0x40 = t.word40) ∧
    (∀ i, faulty → s.EndsQuiet { c with endRecord := false } → c.endRecord = true → s.RoomFor i 5 →
      Answers (exec (stepCommand k) s) fun t =>
        s.RunOverWith t c.list .badStep i (listEndRecord c .badStep none (some c.addr)) ∧ t.peek 0x40 = t.word40) ∧
    (stepKindAt s.mem c.addr = some k → s.fieldsOk c k = true → s.EndsQuiet c →
      (k = .mark ∨ k = .loop ∨ (k = .close ∧ s.coll.recs = 0)) →
      (c.cut = true → Answers (exec (stepCommand k) s) (s.RunOver · c.list .cut)) ∧
        (c.cut = false → 4095 ≤ c.executed → Answers (exec (stepCommand k) s) (s.RunOver · c.list .stepLimit)))

/-- R44, R48: STAMP offers its record. RAISE offers its record, writes the last raise code beside the wrap count and raises
RAISE. R50, R5, R7: CHAIN offers a CHAIN trigger for its list; whatever the answer, the step completes DONE and the run goes on
at the following step. The queue words beyond the count are 0 as the model chooses (log 13). -/
def Obligations.StampRaiseAndChainAct : Prop :=
  ∀ (s : State) (c : Ctx), State.GoesOn c →
    let engine := { s.engine with ctx := some (c.stepped (c.addr + 1)) }
    (∀ i, s.RoomFor i 4 → s.AtStep c .stamp →
      Answers (exec .stamp s) fun t =>
        t.peek 0x45 = State.runningWord (some c) ∧
          s.Recorded t i
            { kind := .stamp
              payload := [pack [(16, field (s.stepWord c 0) 16 16), (5, c.list.val)], BitVec.ofNat 32 c.addr] } ∧
          s.KeepsWords t (fun a => a = 0x45 ∨ s.RecordWord i 4 a) ∧
          t = { s with mem := t.mem, engine, coll := s.collAfter 4 }) ∧
    (∀ i, s.RoomFor i 4 → s.AtStep c .raise →
      Answers (exec .raise s) fun t =>
        t.peek 0x45 = State.runningWord (some c) ∧
          s.Recorded t i
            { kind := .raise
              payload := [pack [(8, field (s.stepWord c 0) 16 8), (5, c.list.val)], BitVec.ofNat 32 c.addr] } ∧
          t.peek 0x42 = pack [(16, s.time.wrapCount), (8, field (s.stepWord c 0) 16 8)] ∧
          s.KeepsWords t (fun a => a = 0x42 ∨ a = 0x45 ∨ s.RecordWord i 4 a) ∧
          t = { s with mem := t.mem, engine, coll := s.collAfter 4, wake := s.raised .raise }) ∧
    (∀ l, s.AtStep c .chain → listField (s.stepWord c 0) = some l → s.engine.mode ≠ .idle →
      Answers (exec .chain s) fun t =>
        t.peek 0x45 = State.runningWord (some c) ∧ s.Triggered t l .chain (some (c.stepped (c.addr + 1))) ∧
          s.KeepsWords t (fun a => a = 0x45 ∨ TriggerWord l a) ∧ t = { s with mem := t.mem, engine := t.engine })

/-- R45, R46: MARK sets the mark at the step that follows it, with one pass fewer than its count. LOOP returns to the mark
while a count remains, one fewer after it, and then falls through, the mark standing. A LOOP with no mark ends the run with
BAD_STEP; its LIST_END record carries its address and does not count it. R47, R31: WAIT starts an interval of its time, and a
retry spacing one of the setting; at its expiry the WAIT step completes, and a READ's command is handed again. The absent
fields of LIST_END (log 12) and the word at 0045H after the run (log 13) are the model's. A run that ends completes every
LIST_CUT held in flight OK with its outcome (R17, R182; their order is log 11). -/
def Obligations.LoopsAndWaitsDirectTheRun : Prop :=
  ∀ (s : State) (c : Ctx),
    (State.GoesOn c →
      let goes (k : StepKind) (e : Ctx) : Prop :=
        Answers (exec (stepCommand k) s) fun t =>
          t.peek 0x45 = State.runningWord (some c) ∧ s.KeepsWords t (· = 0x45) ∧
            t = { s with mem := t.mem, engine := { s.engine with ctx := some e } }
      (∀ n, s.AtStep c .mark → field (s.stepWord c 0) 16 8 = n + 1 →
        goes .mark { c.stepped (c.addr + 1) with mark := some (c.addr + 1, n) }) ∧
      (∀ a n, s.AtStep c .loop → c.mark = some (a, n + 1) → goes .loop { c.stepped a with mark := some (a, n) }) ∧
      (∀ a, s.AtStep c .loop → c.mark = some (a, 0) → goes .loop (c.stepped (c.addr + 1))) ∧
      (s.AtStep c .loop → c.mark = none → s.EndsQuiet c → Answers (exec .loop s) (s.RunOver · c.list .badStep)) ∧
      (∀ i, s.AtStep c .loop → c.mark = none → s.EndsQuiet { c with endRecord := false } → c.endRecord = true →
        s.RoomFor i 5 →
        Answers (exec .loop s) fun t =>
          s.RunOverWith t c.list .badStep i (listEndRecord c .badStep none (some c.addr)) ∧ t.peek 0x40 = t.word40)) ∧
    (∀ n, s.AtStep c .wait → field (s.stepWord c 0) 16 16 = n → n ≠ 0 →
      Answers (exec .wait s) fun t =>
        t.peek 0x45 = State.runningWord (some c) ∧ s.KeepsWords t (· = 0x45) ∧
          t =
            { s with
              mem := t.mem
              engine :=
                { s.engine with
                  ctx := some { c with executed := c.executed + 1, phase := .waiting (s.now + 100 * n) } } }) ∧
    (∀ due, s.ready → s.engine.ctx = some c → c.phase = .waiting due → due ≤ s.now → State.RunsOn c →
      exec .waitExpiry s =
        .next { s with engine := { s.engine with ctx := some (c.next (c.addr + 1)) } }) ∧
    (∀ st left due, s.ready → s.engine.ctx = some c → c.phase = .spacing st left due → due ≤ s.now → s.BusFree →
      (s.bus.stations[st.station]).state ≠ .lost →
      Answers (exec .retrySpacingExpiry s) fun t =>
        t.bus.lineBits = (Work.transaction (.read st.station st.sub st.wide)).frameBits ∧ t.peek 0x40 = t.word40 ∧
          s.KeepsWords t (· = 0x40) ∧
          t =
            { s with
              mem := t.mem
              engine := { s.engine with ctx := some { c with phase := .bus (.read st left) } }
              bus :=
                { s.bus with
                  waiting := none
                  ctl :=
                    .sending (.work (.transaction (.read st.station st.sub st.wide)) s.settings.replyTimeout) } })

/-- R49, R116, R113: a CLOSE step closes the filling segment with reason LIST where it holds a record, and otherwise changes
nothing; it completes DONE in either case. -/
def Obligations.CloseStepClosesWhatFills : Prop :=
  ∀ (s : State) (c : Ctx), s.AtStep c .close → State.GoesOn c →
    let engine := { s.engine with ctx := some (c.stepped (c.addr + 1)) }
    (((∀ i start, s.coll.st ≠ .filling i start) ∨ s.coll.recs = 0) →
      Answers (exec .close s) fun t =>
        t.peek 0x45 = State.runningWord (some c) ∧ s.KeepsWords t (· = 0x45) ∧ t = { s with mem := t.mem, engine }) ∧
    (∀ i start, s.coll.st = .filling i start → s.coll.recs ≠ 0 → s.GeometryOk → i.val < s.settings.count →
      Answers (exec .close s) fun t =>
        t.peek 0x45 = State.runningWord (some c) ∧ s.Closed t i .list ∧
          s.KeepsWords t (fun a => a = 0x45 ∨ s.CloseWord i a) ∧
          t = { s with mem := t.mem, engine, coll := t.coll, wake := s.raised .closed })

/-- R51, R16, R20, R11: END ends the run COMPLETED, whatever cut or count stands. RUNNING with nothing queued becomes IDLE,
or its queue's head starts; HOLDING becomes HELD, and every pending hold completes OK in its slot. Every LIST_CUT held in
flight completes OK before, with the outcome COMPLETED as its value (R17, R175, R182). The absent fields of
LIST_END (log 12), the word at 0045H after the run and the queue words beyond the count (log 13), and the order of holds that
complete together (log 11) are the model's. -/
def Obligations.EndCompletesTheRun : Prop :=
  ∀ (s : State) (c : Ctx), s.AtStep c .endStep →
    (s.EndsQuiet c → Answers (exec .endStep s) fun t => s.RunOver t c.list .completed ∧ t.peek 0x40 = t.word40) ∧
    (∀ i, s.EndsQuiet { c with endRecord := false } → c.endRecord = true → s.RoomFor i 5 →
      Answers (exec .endStep s) fun t =>
        s.RunOverWith t c.list .completed i (listEndRecord { c with executed := c.executed + 1 } .completed none none) ∧
          t.peek 0x40 = t.word40) ∧
    (∀ e rest, c.endRecord = false → s.engine.mode = .running → s.engine.queue = e :: rest →
      inListArea (readDir s.mem e.list).start →
      Answers (exec .endStep s) fun t =>
        s.RunShown t c.list .completed ∧ s.CutsDone t .completed ∧ t.SnapshotShown ∧
          t.peek 0x45 = State.runningWord (some (s.freshCtx e.list e.source)) ∧
          s.KeepsWords t (fun a => RunEndWord c.list a ∨ StartWord a ∨ s.HeldWord .cut a) ∧
          t =
            { s.heldGone .cut with
              mem := t.mem
              engine :=
                { s.engine with
                  queue := rest, ctx := some (s.freshCtx e.list e.source), cuts := 0
                  completed := s.engine.completed + 1 } }) ∧
    (c.endRecord = false → s.engine.mode = .holding →
      Answers (exec .endStep s) fun t =>
        s.RunShown t c.list .completed ∧ t.peek 0x45 = 0 ∧ t.peek 0x40 = t.word40 ∧ s.CutsDone t .completed ∧
          (∀ q ∈ s.heldOf .hold, (∀ e ∈ s.heldOf .cut, e.slot ≠ q.slot) → s.SlotDone t q.slot .ok 0) ∧
          s.KeepsWords t (fun a =>
            RunEndWord c.list a ∨ a = 0x40 ∨ s.HeldWord .cut a ∨ s.HeldWord .hold a) ∧
          t =
            { s with
              mem := t.mem, wake := s.wakeAfterHeld s (s.heldOf .cut ++ s.heldOf .hold)
              engine :=
                { s.engine with
                  mode := .held, ctx := none, cuts := 0, holds := 0, completed := s.engine.completed + 1 }
              req := { s.req with inflight := s.req.inflight.filter fun q => q.kind ≠ .cut ∧ q.kind ≠ .hold } })

/-- R42, R43, R29, R83–R94: SAMPLE_LOCAL takes a tachometer's period (0 outside tach mode), an output or a count, which it
clears. With no watch named, or one not armed, the value goes to no watch. To an armed watch it goes as a 16-bit raw value;
a grade that stands offers nothing. The READING record, where the step asks for one, stands behind the delivery. The absent
fields of READING follow the model's reading (log 12). -/
def Obligations.SampleLocalReadsThePart : Prop :=
  ∀ (s : State) (c : Ctx) (st : LocalStep), s.AtStep c .sampleLocal → State.GoesOn c →
    localFields (s.stepWord c 0) = some st →
    let engine := { s.engine with ctx := some (c.stepped (c.addr + 1)) }
    let value : Nat :=
      match st.source with
      | .tach i => if (s.settings.inputs[i]).tach then (s.inputs[i]).period else 0
      | .output ch => (s.duty.channels[ch]).output
      | .count i => (s.inputs[i]).count
    let inputs : Vector Input 16 :=
      match st.source with
      | .count i => s.inputs.set i { s.inputs[i] with count := 0 }
      | .tach _ | .output _ => s.inputs
    let cleared (a : Nat) : Prop := ∃ i, st.source = .count i ∧ a = inputAddr i
    (∀ i, st.source = .count i → st.watch = none → st.record = false →
      Answers (exec .sampleLocal s) fun t =>
        t.peek (inputAddr i) =
          pack [(1, bit (s.inputs[i]).level), (1, bit (s.inputs[i]).settled), (1, bit (s.inputs[i]).stalled), (1, 0),
            (2, field (s.peek (inputAddr i)) 4 2), (10, 0), (16, 0)]) ∧
    ((∀ n, st.watch = some n → (s.watches[n]).armed = false) →
      (st.record = false →
        Answers (exec .sampleLocal s) fun t =>
          t.peek 0x45 = State.runningWord (some c) ∧ s.KeepsWords t (fun a => a = 0x45 ∨ cleared a) ∧
            t = { s with mem := t.mem, engine, inputs }) ∧
      (∀ i, st.record = true → s.RoomFor i 5 →
        Answers (exec .sampleLocal s) fun t =>
          t.peek 0x45 = State.runningWord (some c) ∧
            s.Recorded t i (readingRecord st.source.place .done (some value) st.watch false) ∧
            s.KeepsWords t (fun a => a = 0x45 ∨ cleared a ∨ s.RecordWord i 5 a) ∧
            t = { s with mem := t.mem, engine, inputs, coll := s.collAfter 5 })) ∧
    (∀ n, st.watch = some n → (s.watches[n]).armed = true → (readDef s.mem n).firstFault = none →
      let d := readDef s.mem n
      let raw := interpretRaw d.signedRaw false value
      let w := evaluated d s.watches[n] (scaleValue d raw) (some raw) s.time.timestamp s.now
      w.grade = (s.watches[n]).grade →
      (st.record = false →
        Answers (exec .sampleLocal s) fun t =>
          t.peek 0x45 = State.runningWord (some c) ∧ t.WatchShown n ∧
            s.KeepsWords t (fun a => a = 0x45 ∨ cleared a ∨ WatchWord n a) ∧
            t = { s with mem := t.mem, engine, inputs, watches := s.watches.set n w }) ∧
      (∀ i, st.record = true → s.RoomFor i 5 →
        Answers (exec .sampleLocal s) fun t =>
          t.peek 0x45 = State.runningWord (some c) ∧ t.WatchShown n ∧
            s.Recorded t i (readingRecord st.source.place .done (some value) st.watch true) ∧
            s.KeepsWords t (fun a => a = 0x45 ∨ cleared a ∨ WatchWord n a ∨ s.RecordWord i 5 a) ∧
            t =
              { s with
                mem := t.mem, engine, inputs, watches := s.watches.set n w, coll := s.collAfter 5 }))

/-! ## The Instrument Bus Controller -/

/-- R56, R60, R61, R63, R64, R71, R74, R75: when a frame's last bit is out it is counted, and the controller goes on: to the
reply timeout, to the answer slots, or to IDLE, where a SAMPLE_ALL or CLEAR_ALL step completes DONE. SETTLING and DRAINING
end on a quiet line, the one with the controller's own REMOTE_TAKE, the other with whatever waits. R59, R64, R65, R75: a frame
that nothing awaits stops the quiet interval of SETTLING and DRAINING, is counted at its end and discarded, and the interval
begins again. In IDLE and SLOTS it is counted alone; in SENDING nothing is heard. That REPLY_BEGIN and REPLY_END are a stray
frame's there, that one in SLOTS garbles no slot, and that a frame while the H40 sends changes nothing, is the model's choice
(log 21). -/
def Obligations.FramesEndAndStraysAreCounted : Prop :=
  ∀ s : State, s.ready →
    let counted : BusCounts := { s.bus.counts with frames := s.bus.counts.frames + 1 }
    let goesTo (cmd : Instr) (ctl : BusCtl) : Prop :=
      Answers (exec cmd s) fun t =>
        t.peek 0x40 = t.word40 ∧ t.peek 0x57 = counted.frames ∧ s.KeepsWords t (fun a => a = 0x40 ∨ a = 0x57) ∧
          t = { s with mem := t.mem, bus := { s.bus with ctl, counts := counted } }
    (∀ tr timeout, s.bus.ctl = .sending (.work (.transaction tr) timeout) →
      goesTo .commandFrameSent (.awaiting tr (some (s.now + 100 * timeout)))) ∧
    (∀ b timeout, s.bus.ctl = .sending (.work (.block b) timeout) →
      goesTo .commandFrameSent (.streaming b timeout [] (some (s.now + 100 * timeout)))) ∧
    (∀ timeout, s.bus.ctl = .sending (.work .rollCall timeout) → goesTo .rollCallFrameSent (.slots 0 0 0)) ∧
    (s.bus.ctl = .sending .ownTake → s.bus.waiting = none → s.bus.visitPending = none →
      goesTo .broadcastSent .idle) ∧
    (∀ c step timeout, s.InBusStep c step → State.RunsOn c →
      (step = .sampleAll ∧ s.bus.ctl = .sending (.work .sampleAll timeout) ∨
        step = .clear ∧ s.bus.ctl = .sending (.work .clearAll timeout)) →
      Answers (exec .broadcastSent s) fun t =>
        t.peek 0x40 = t.word40 ∧ t.peek 0x57 = counted.frames ∧ s.KeepsWords t (fun a => a = 0x40 ∨ a = 0x57) ∧
          t =
            { s with
              mem := t.mem, bus := { s.bus with ctl := .idle, counts := counted }
              engine := { s.engine with ctx := some (c.next (c.addr + 1)) } }) ∧
    (∀ due, s.bus.ctl = .settling (some due) → due ≤ s.now →
      Answers (exec .settlingEnd s) fun t =>
        t.peek 0x40 = t.word40 ∧ s.KeepsWords t (· = 0x40) ∧
          t = { s with mem := t.mem, bus := { s.bus with ctl := .sending .ownTake } }) ∧
    (∀ n due, s.bus.ctl = .draining n (some due) → due ≤ s.now → s.bus.strayArriving = false →
      Answers (exec .drainEnd s) fun t =>
        (s.bus.visitPending = none → s.bus.waiting = none → t.bus = { s.bus with ctl := .idle }) ∧
          (∀ b, s.bus.visitPending = some b →
            t.bus = { s.bus with visitPending := none, ctl := .sending (.visit b) }) ∧
          (∀ w, s.bus.visitPending = none → s.bus.waiting = some w → s.workLost w = false →
            (w.writeType = true → s.visit.state = .off) →
            t.bus = { s.bus with waiting := none, ctl := .sending (.work w s.settings.replyTimeout) }) ∧
          ((s.bus.waiting = none ∨ s.bus.visitPending ≠ none) →
            t.peek 0x40 = t.word40 ∧ s.KeepsWords t (· = 0x40) ∧
              t = { s with mem := t.mem, bus := t.bus })) ∧
    let strays : BusCounts := { s.bus.counts with stray := s.bus.counts.stray + 1 }
    let begins (ctl : BusCtl) : Prop :=
      exec .replyBegin s = .next { s with bus := { s.bus with strayArriving := true, ctl } }
    let ends (ctl : BusCtl) : Prop :=
      ∀ cmd, (cmd = .strayFrame ∨ ∃ bits, cmd = .replyEnd bits) →
        Answers (exec cmd s) fun t =>
          t.peek 0x5C = strays.stray ∧ s.KeepsWords t (· = 0x5C) ∧
            t = { s with mem := t.mem, bus := { s.bus with strayArriving := false, counts := strays, ctl } }
    (∀ due, s.bus.ctl = .settling due → begins (.settling none) ∧ ends (.settling (some (s.now + 1500)))) ∧
    (∀ n due, s.bus.ctl = .draining n due →
      begins (.draining n none) ∧ ends (.draining n (some (s.now + 100 * n)))) ∧
    ((s.bus.ctl = .idle ∨ ∃ i p a, s.bus.ctl = .slots i p a) → begins s.bus.ctl ∧ ends s.bus.ctl) ∧
    (∀ what, s.bus.ctl = .sending what →
      exec .replyBegin s = .next s ∧ exec .strayFrame s = .next s ∧ ∀ bits, exec (.replyEnd bits) s = .next s)

/-- R24–R26, R29–R31, R56–R58, R66–R68, R71: how a READ's transaction ends. A reply's first bit stops the timeout. A good
reply makes the station PRESENT, and its flags give DONE, REFUSED or NOT_READY; NOT_READY under RETRY starts a spacing while
retries remain and no cut is requested. A GARBLED and an ODD reply count a garble, and an expired timeout a silence, which at
the lost limit is reported. The step then completes with its value to the watch, its READING record, and its policies: the run
ends STOPPED or ABORTED with the failing outcome, ends CUT where a cut is requested, or goes on. (Shown for a station not
LOST, without a new call for attention, and for an evaluation that keeps the grade.) That the bus state stays AWAITING during
the reply, and a REPLY_END with no REPLY_BEGIN before it (log 21), the absent fields of the records (log 12) and the word at
0045H after a run (log 13) are the model's. A run that ends completes every LIST_CUT held in flight OK with its outcome (R17,
R182; their order is log 11). That both mirror words of the station are written, also where the record stays as it was, is the
model's choice (log 34). -/
def Obligations.RepliesEndTransactions : Prop :=
  ∀ (s : State) (c : Ctx) (st : ReadStep) (left : Nat) (due : Option Moment) (k : Fin 16),
    s.InBusStep c (.read st left) → s.bus.ctl = .awaiting (.read st.station st.sub st.wide) due →
    let i := st.station
    let tr := Transaction.read i st.sub st.wide
    let counts := s.bus.counts
    let unarmed := ∀ n, st.watch = some n → (s.watches[n]).armed = false
    let reading (o : StepOutcome) (v : Option Nat) (armed : Bool) : List Record :=
      if st.record then [readingRecord (stationPlace st) o v st.watch armed] else []
    let ends (cmd : Instr) (o : StepOutcome) (rs : List Record) (x : Station) (counts' : BusCounts) (a : Nat) (v : Word)
        (p : Nat → Prop) (u : State) : Prop :=
      let own := State.runEnd c st.ready st.failure o
      s.MayConclude c own rs k →
      Answers (exec cmd s) fun t =>
        t.StationShown i ∧ t.peek a = v ∧
          s.StepConcludes t c own (c.addr + 2) rs k (fun b => StationWord i b ∨ b = a ∨ p b)
            { u with bus := s.busAfter .idle i x counts' }
    let good : BusCounts := { counts with good := counts.good + 1 }
    exec .replyBegin s = .next { s with bus := { s.bus with ctl := .awaiting tr none } } ∧
    (∀ bits rep, judgeReply tr.awaits bits = .good rep → (s.bus.stations[i]).state ≠ .lost →
      (rep.attention = true → (s.bus.stations[i]).attention = true) →
      let comes (o : StepOutcome) (v : Option Nat) (armed : Bool) (p : Nat → Prop) (u : State) : Prop :=
        ends (.replyEnd bits) o (reading o v armed) (s.heardNow i) good 0x58 good.good p u
      (rep.accept = true → rep.ready = true → unarmed → comes .done (some rep.data) false (fun _ => False) s) ∧
      (∀ n, rep.accept = true → rep.ready = true → st.watch = some n → (s.watches[n]).armed = true →
        let d := readDef s.mem n
        let raw := interpretRaw d.signedRaw st.wide rep.data
        let w := evaluated d s.watches[n] (scaleValue d raw) (some raw) s.time.timestamp s.now
        d.firstFault = none → w.grade = (s.watches[n]).grade →
        comes .done (some rep.data) true (WatchWord n) { s with watches := s.watches.set n w }) ∧
      (rep.accept = false → comes .refused none false (fun _ => False) s) ∧
      (rep.accept = true → rep.ready = false → ¬ (st.ready = .retry ∧ 0 < left ∧ c.cut = false) →
        comes .notReady none false (fun _ => False) s) ∧
      (rep.accept = true → rep.ready = false → st.ready = .retry → 0 < left → c.cut = false →
        Answers (exec (.replyEnd bits) s) fun t =>
          t.StationShown i ∧ t.peek 0x40 = t.word40 ∧ t.peek 0x58 = good.good ∧
            s.KeepsWords t (fun a => StationWord i a ∨ a = 0x40 ∨ a = 0x58) ∧
            t =
              { s with
                mem := t.mem, bus := s.busAfter .idle i (s.heardNow i) good
                engine :=
                  { s.engine with
                    ctx := some { c with phase := .spacing st (left - 1) (s.now + 100 * s.settings.retrySpacing) } } })) ∧
    (∀ bits, judgeReply tr.awaits bits = .garbled →
      ends (.replyEnd bits) .garbled (reading .garbled none false) (s.garbledNow i)
        { counts with garbled := counts.garbled + 1 } 0x5A (counts.garbled + 1) (fun _ => False) s) ∧
    (∀ bits, judgeReply tr.awaits bits = .odd → bits.length ≤ 8160 →
      ends (.replyEnd bits) .odd (oddRecord i bits :: reading .odd none false) (s.garbledNow i)
        { counts with odd := counts.odd + 1 } 0x5B (counts.odd + 1) (fun _ => False) s) ∧
    (∀ m, due = some m → m ≤ s.now →
      ends .replyTimeout .silent (s.lossRecords i ++ reading .silent none false) (s.missedNow i)
        { counts with silent := counts.silent + 1 } 0x59 (counts.silent + 1) (fun _ => False)
        { s with wake := s.wakeAfterSilence i })

/-- R19, R24–R26, R36–R38, R41, R57, R58, R66–R70: how the transaction of a WRITE, CONTROL, STATUS_POLL or selected CLEAR step
ends. WRITE and CONTROL go by their policies, with the failing outcome of a run they stop or abort; the run goes on after
STATUS_POLL, which offers its STATUS record, and after CLEAR. A status byte taken DONE is kept, and its service bit sets or
clears the attention flag; an answer to another command sets it with its ATTENTION flag. A flag newly set triggers the
station's attention list. (Shown for a station not LOST; the trigger for a run that goes on.) A REPLY_END with no REPLY_BEGIN
before it (log 21), the absent fields of the records (log 12), and the word at 0045H after a run and the queue words beyond
the count (log 13) are the model's. A run that ends completes every LIST_CUT held in flight OK with its outcome (R17, R182;
their order is log 11). That both mirror words of the station are written, also where the record stays as it was, is the
model's choice (log 34). -/
def Obligations.RepliesEndOtherTransactions : Prop :=
  ∀ (s : State) (c : Ctx) (step : BusStep) (tr : Transaction) (ready : ReadyPolicy) (failure : FailurePolicy) (n : Nat)
    (due : Option Moment) (k : Fin 16),
    s.InBusStep c step → s.bus.ctl = .awaiting tr due → State.GoesBy step tr ready failure n →
    let i := tr.station
    let x := s.bus.stations[i]
    let counts := s.bus.counts
    let status := tr = .status i
    let recs (o : StepOutcome) (v : Option Nat) : List Record :=
      if status then [statusRecord i o v] else []
    let ends (cmd : Instr) (o : StepOutcome) (rs : List Record) (x' : Station) (counts' : BusCounts) (a : Nat) (v : Word)
        (wake : WakeUnit) : Prop :=
      let own := State.runEnd c ready failure o
      s.MayConclude c own rs k →
      Answers (exec cmd s) fun t =>
        t.StationShown i ∧ t.peek a = v ∧
          s.StepConcludes t c own (c.addr + n) rs k (fun b => StationWord i b ∨ b = a)
            { s with wake, bus := s.busAfter .idle i x' counts' }
    exec .replyBegin s = .next { s with bus := { s.bus with ctl := .awaiting tr none } } ∧
    (∀ bits rep, judgeReply tr.awaits bits = .good rep → x.state ≠ .lost →
      let o : StepOutcome := if rep.accept = false then .refused else if rep.ready = false then .notReady else .done
      let byte := status ∧ o = .done
      let calls := if status then o = .done ∧ rep.data.testBit 7 = true else rep.attention = true
      let heard : Station :=
        if byte then
          { s.heardNow i with status := some (BitVec.ofNat 8 rep.data), attention := rep.data.testBit 7 }
        else { s.heardNow i with attention := if calls then true else x.attention }
      let good : BusCounts := { counts with good := counts.good + 1 }
      let rs := recs o (if o = .done then some rep.data else none)
      ((calls → x.attention = true ∨ s.settings.attention[i] = none) →
        ends (.replyEnd bits) o rs heard good 0x58 good.good s.wake) ∧
      (∀ l, calls → x.attention = false → s.settings.attention[i] = some l → s.engine.mode ≠ .idle →
        State.runEnd c ready failure o = none → c.executed < 4096 → s.RoomForAll k rs →
        Answers (exec (.replyEnd bits) s) fun t =>
          t.StationShown i ∧ t.peek 0x40 = t.word40 ∧ t.peek 0x58 = good.good ∧
            s.Triggered t l .attention (some (c.next (c.addr + n))) ∧ s.RecordedAll t k rs ∧
            s.KeepsWords t (fun a =>
              StationWord i a ∨ a = 0x40 ∨ a = 0x58 ∨ TriggerWord l a ∨ s.RecordWords k rs a) ∧
            t =
              { s with mem := t.mem, engine := t.engine, coll := t.coll, bus := s.busAfter .idle i heard good })) ∧
    (∀ bits, judgeReply tr.awaits bits = .garbled →
      ends (.replyEnd bits) .garbled (recs .garbled none) (s.garbledNow i) { counts with garbled := counts.garbled + 1 } 0x5A
        (counts.garbled + 1) s.wake) ∧
    (∀ bits, judgeReply tr.awaits bits = .odd → bits.length ≤ 8160 →
      ends (.replyEnd bits) .odd (oddRecord i bits :: recs .odd none) (s.garbledNow i)
        { counts with odd := counts.odd + 1 } 0x5B (counts.odd + 1) s.wake) ∧
    (∀ m, due = some m → m ≤ s.now →
      ends .replyTimeout .silent (s.lossRecords i ++ recs .silent none) (s.missedNow i)
        { counts with silent := counts.silent + 1 } 0x59 (counts.silent + 1) (s.wakeAfterSilence i))

/-- R33–R35, R63, R64, R71: the words of a block read. A word that meets no ending is kept, and the timeout starts afresh. The
first of TERMINATOR, LAST and COUNT that a word meets ends the block, with the BLOCK record; after TERMINATOR the controller
drains, and otherwise it is IDLE. (Shown for a station that stands PRESENT and a run that goes on.) A REPLY_END with no
REPLY_BEGIN before it is the model's reading (log 21). That both mirror words of the station are written, also where the
record stays as it was, is the model's choice (log 34). -/
def Obligations.BlockWordsAreKept : Prop :=
  ∀ (s : State) (c : Ctx) (st : BlockStep) (timeout : Nat) (words : List Nat) (due : Option Moment) (bits : List Bool)
    (rep : Reply),
    let b : BlockRead :=
      { station := st.station, sub := st.sub, wide := st.wide, count := st.count, terminator := st.terminator }
    let x := s.bus.stations[st.station]
    let kept := words ++ [rep.data]
    let ending : Option BlockEnding :=
      if st.terminator = some rep.data then some .terminator
      else if rep.last then some .last
      else if st.count ≤ kept.length then some .count
      else none
    let heard := s.withStation st.station { x with state := .present, silences := 0, lastReply := s.time.timestamp }
    let counts : BusCounts := { s.bus.counts with good := s.bus.counts.good + 1 }
    s.InBusStep c (.block st) → State.RunsOn c → s.bus.ctl = .streaming b timeout words due →
    judgeReply b.awaits bits = .good rep → rep.accept = true → rep.ready = true → x.state = .present →
    (rep.attention = true → x.attention = true) →
    exec .replyBegin s = .next { s with bus := { s.bus with ctl := .streaming b timeout words none } } ∧
    (ending = none →
      Answers (exec (.replyEnd bits) s) fun t =>
        t.StationShown st.station ∧ t.peek 0x58 = counts.good ∧
          s.KeepsWords t (fun a => StationWord st.station a ∨ a = 0x58) ∧
          t =
            { s with
              mem := t.mem
              bus :=
                { s.bus with
                  stations := heard, counts
                  ctl := .streaming b timeout kept (some (s.now + 100 * timeout)) } }) ∧
    (∀ e i, ending = some e → s.RoomFor i (2 + kept.length) →
      Answers (exec (.replyEnd bits) s) fun t =>
        t.StationShown st.station ∧ t.peek 0x58 = counts.good ∧ t.peek 0x40 = t.word40 ∧
          s.Recorded t i (blockRecord st e kept) ∧
          s.KeepsWords t (fun a =>
            StationWord st.station a ∨ a = 0x58 ∨ a = 0x40 ∨ s.RecordWord i (2 + kept.length) a) ∧
          t =
            { s with
              mem := t.mem, engine := { s.engine with ctx := some (c.next (c.addr + 3)) }
              coll := s.collAfter (2 + kept.length)
              bus :=
                { s.bus with
                  stations := heard, counts
                  ctl :=
                    if e = .terminator then
                      .draining s.settings.replyTimeout (some (s.now + 100 * s.settings.replyTimeout))
                    else .idle } })

/-- R34, R35, R64, R57, R58, R66–R68: the endings of a block read that keep no further word. A reply that is NOT_READY or
REFUSED, and an expired timeout, leave the controller IDLE; a GARBLED and an ODD reply leave it draining for the reply timeout
in force. The BLOCK record carries the ending and the words kept before, and the step goes by its policies. (Shown for a
station not LOST, without a new call for attention.) A REPLY_END with no REPLY_BEGIN before it (log 21), the absent fields of
LIST_END (log 12), the word at 0045H after a run (log 13) and the cause in the STATION record of a silence that loses the
station (log 33) are the model's. A run that ends completes every LIST_CUT held in flight OK with its outcome (R17, R182;
their order is log 11). That both mirror words of the station are written, also where the record stays as it was, is the
model's choice (log 34). -/
def Obligations.BlockReadsEndWithoutAWord : Prop :=
  ∀ (s : State) (c : Ctx) (st : BlockStep) (timeout : Nat) (words : List Nat) (due : Option Moment) (k : Fin 16),
    let i := st.station
    let b : BlockRead :=
      { station := i, sub := st.sub, wide := st.wide, count := st.count, terminator := st.terminator }
    let counts := s.bus.counts
    s.InBusStep c (.block st) → s.bus.ctl = .streaming b timeout words due →
    let drains : BusCtl := .draining s.settings.replyTimeout (some (s.now + 100 * s.settings.replyTimeout))
    let ends (cmd : Instr) (e : BlockEnding) (ctl : BusCtl) (before : List Record) (x : Station) (counts' : BusCounts)
        (a : Nat) (v : Word) (wake : WakeUnit) : Prop :=
      let own := State.runEnd c st.ready st.failure e.outcome
      let rs := before ++ [blockRecord st e words]
      s.MayConclude c own rs k →
      Answers (exec cmd s) fun t =>
        t.StationShown i ∧ t.peek a = v ∧
          s.StepConcludes t c own (c.addr + 3) rs k (fun p => StationWord i p ∨ p = a)
            { s with wake, bus := s.busAfter ctl i x counts' }
    (∀ bits rep, judgeReply b.awaits bits = .good rep → (s.bus.stations[i]).state ≠ .lost →
      (rep.attention = true → (s.bus.stations[i]).attention = true) →
      let good : BusCounts := { counts with good := counts.good + 1 }
      (rep.accept = false → ends (.replyEnd bits) .refused .idle [] (s.heardNow i) good 0x58 good.good s.wake) ∧
      (rep.accept = true → rep.ready = false →
        ends (.replyEnd bits) .notReady .idle [] (s.heardNow i) good 0x58 good.good s.wake)) ∧
    (∀ bits, judgeReply b.awaits bits = .garbled →
      ends (.replyEnd bits) .garbled drains [] (s.garbledNow i) { counts with garbled := counts.garbled + 1 } 0x5A
        (counts.garbled + 1) s.wake) ∧
    (∀ bits, judgeReply b.awaits bits = .odd → bits.length ≤ 8160 →
      ends (.replyEnd bits) .odd drains [oddRecord i bits] (s.garbledNow i) { counts with odd := counts.odd + 1 } 0x5B
        (counts.odd + 1) s.wake) ∧
    (∀ m, due = some m → m ≤ s.now →
      ends .replyTimeout .silent .idle (s.lossRecords i) (s.missedNow i) { counts with silent := counts.silent + 1 } 0x59
        (counts.silent + 1) (s.wakeAfterSilence i))

/-- R61, R62, R66–R69: an answer slot is read as it passes: presence makes its station PRESENT, silence counts and at the lost
limit loses it, a garbled answer counts a garble; the maps take the slot's bits, and the next slot follows. After the
thirtieth the roll call is counted, and the step completes DONE with its ROLL record. The absent fields of the records follow
the model's reading (log 12), and so does that activity outside the answer pattern is no stray frame (log 21). That both
mirror words of the station are written, also where the record stays as it was, is the model's choice (log 34). -/
def Obligations.AnswerSlotsUpdateTheTable : Prop :=
  ∀ (s : State) (i : Fin 30) (present attention : Word) (answer : SlotAnswer), s.ready →
    s.bus.ctl = .slots i present attention →
    let x := s.bus.stations[i]
    let mark : Word := BitVec.ofNat 32 (2 ^ (i.val + 1))
    let garbledCounts : BusCounts := { s.bus.counts with garbled := s.bus.counts.garbled + 1 }
    let nobody := answer = .nothing ∨ ∃ a, answer = .bits false a true (!a)
    let garbled := answer = .activity ∨ ∃ p a np na, answer = .bits p a np na ∧ (p = np ∨ a = na)
    (∀ j : Fin 30, j.val = i.val + 1 →
      (∀ a, answer = .bits true a false (!a) → x.state ≠ .lost → (a = true → x.attention = true) →
        Answers (exec (.rollCallSlot answer) s) fun t =>
          t.StationShown i ∧ s.KeepsWords t (StationWord i) ∧
            t =
              { s with
                mem := t.mem
                bus :=
                  s.busAfter (.slots j (present ||| mark) (if a then attention ||| mark else attention)) i (s.heardNow i)
                    s.bus.counts }) ∧
      (∀ n, answer = .bits true false false true → x.state = .lost → s.RoomFor n 3 →
        Answers (exec (.rollCallSlot answer) s) fun t =>
          t.StationShown i ∧ s.Recorded t n (stationRecord i .lost (s.heardNow i) 2) ∧
            s.KeepsWords t (fun a => StationWord i a ∨ s.RecordWord n 3 a) ∧
            t =
              { s with
                mem := t.mem, coll := s.collAfter 3, wake := s.raised .station
                bus := s.busAfter (.slots j (present ||| mark) attention) i (s.heardNow i) s.bus.counts }) ∧
      (nobody → s.losesNow i = false →
        Answers (exec (.rollCallSlot answer) s) fun t =>
          t.StationShown i ∧ s.KeepsWords t (StationWord i) ∧
            t =
              { s with
                mem := t.mem, bus := s.busAfter (.slots j present attention) i (s.missedNow i) s.bus.counts }) ∧
      (∀ n, nobody → s.losesNow i = true → s.RoomFor n 3 →
        Answers (exec (.rollCallSlot answer) s) fun t =>
          t.StationShown i ∧ s.Recorded t n (stationRecord i x.state (s.missedNow i) 1) ∧
            s.KeepsWords t (fun a => StationWord i a ∨ s.RecordWord n 3 a) ∧
            t =
              { s with
                mem := t.mem, coll := s.collAfter 3, wake := s.raised .station
                bus := s.busAfter (.slots j present attention) i (s.missedNow i) s.bus.counts }) ∧
      (garbled →
        Answers (exec (.rollCallSlot answer) s) fun t =>
          t.StationShown i ∧ t.peek 0x5A = garbledCounts.garbled ∧
            s.KeepsWords t (fun a => StationWord i a ∨ a = 0x5A) ∧
            t =
              { s with
                mem := t.mem
                bus := s.busAfter (.slots j present attention) i (s.garbledNow i) garbledCounts })) ∧
    (∀ c n, i.val = 29 → s.InBusStep c .rollCall → State.RunsOn c → s.RoomFor n 4 →
      let last (present' attention' : Word) (x' : Station) (counts : BusCounts) : Prop :=
        Answers (exec (.rollCallSlot answer) s) fun t =>
          t.StationShown i ∧ t.peek 0x40 = t.word40 ∧ t.peek 0x5D = s.bus.counts.rollCalls + 1 ∧
            (garbled → t.peek 0x5A = counts.garbled) ∧
            s.Recorded t n { kind := .roll, payload := [present', attention'] } ∧
            s.KeepsWords t (fun a =>
              StationWord i a ∨ a = 0x40 ∨ a = 0x5D ∨ garbled ∧ a = 0x5A ∨ s.RecordWord n 4 a) ∧
            t =
              { s with
                mem := t.mem, engine := { s.engine with ctx := some (c.next (c.addr + 1)) }, coll := s.collAfter 4
                bus := s.busAfter .idle i x' { counts with rollCalls := counts.rollCalls + 1 } }
      (∀ a, answer = .bits true a false (!a) → x.state ≠ .lost → (a = true → x.attention = true) →
        last (present ||| mark) (if a then attention ||| mark else attention) (s.heardNow i) s.bus.counts) ∧
      (nobody → s.losesNow i = false → last present attention (s.missedNow i) s.bus.counts) ∧
      (garbled → last present attention (s.garbledNow i) garbledCounts))

/-- R136, R135, R60, R74: the report of a visit broadcast sent drives the visit machine by its state, and the end delay's
expiry ends a visit that is LEAVING. A broadcast made pending goes out at once where the controller is IDLE, and otherwise
waits. The input a VISIT record names after an apply is the model's choice (log 7), and so is that a stray frame delays a
broadcast (log 21). -/
def Obligations.VisitReportsDriveTheMachine : Prop :=
  ∀ s : State, s.ready →
    (∀ b, s.bus.ctl = .sending (.visit b) → s.bus.waiting = none → s.bus.visitPending = none →
      s.bus.strayArriving = false →
      let bus (ctl : BusCtl) : Bus :=
        { s.bus with ctl, counts := { s.bus.counts with frames := s.bus.counts.frames + 1 } }
      let leaves (ctl : BusCtl) (visit : VisitState) : Prop :=
        Answers (exec .broadcastSent s) fun t =>
          t.peek 0x57 = s.bus.counts.frames + 1 ∧ s.KeepsWords t (fun a => a = 0x40 ∨ a = 0x57) ∧
            (s.word40 = t.word40 ∨ t.peek 0x40 = t.word40) ∧
            t = { s with mem := t.mem, bus := bus ctl, visit := { s.visit with state := visit } }
      (b = .localRelease → s.visit.state = .off → leaves (.sending (.visit .remoteTake)) .off) ∧
      (b = .localRelease → s.visit.state = .starting → leaves .idle .on) ∧
      (b = .localRelease → (s.visit.state = .on ∨ s.visit.state = .leaving ∨ s.visit.state = .ending) →
        leaves .idle s.visit.state) ∧
      (b = .remoteTake → (s.visit.state = .off ∨ s.visit.state = .starting) → leaves .idle s.visit.state) ∧
      (b = .remoteTake → (s.visit.state = .on ∨ s.visit.state = .leaving) →
        leaves (.sending (.visit .localRelease)) s.visit.state) ∧
      (∀ i, b = .remoteTake → s.visit.state = .ending → s.RoomFor i 4 →
        Answers (exec .broadcastSent s) fun t =>
          t.peek 0x57 = s.bus.counts.frames + 1 ∧ t.peek 0x40 = t.word40 ∧
            s.Recorded t i
              { kind := .visit
                payload := [pack [(2, VisitEvent.ended.code), (4, s.visit.input.val)], s.visit.begin] } ∧
            s.KeepsWords t (fun a => a = 0x40 ∨ a = 0x57 ∨ s.RecordWord i 4 a) ∧
            t =
              { s with
                mem := t.mem, bus := bus .idle, visit := { s.visit with state := .off }, coll := s.collAfter 4
                wake := s.raised .visit })) ∧
    (∀ due, s.visit.state = .leaving → s.visit.endDue = some due → due ≤ s.now →
      Answers (exec .endDelayExpiry s) fun t =>
        t.peek 0x40 = t.word40 ∧ s.KeepsWords t (· = 0x40) ∧
          t =
            { s with
              mem := t.mem, visit := { s.visit with state := .ending, endDue := none }
              bus := s.busPending .remoteTake })

/-! ## Watches by time -/

/-- R98, R99, R168: at a watch tick every watch that is armed, rated and has a freshness, and whose age has reached it,
becomes UNRATED, keeping its values; every other watch stands. FRESHNESS_EXPIRY does so at one watch, with its GRADE record of
cause FRESHNESS, within a tick that has expired. That it names the first stale watch the tick has still to check, that the
watches up to it then count as checked, and that elsewhere it changes nothing, is the model's split of the tick (log 29), and
so is that the age runs to the moment at which a late tick is taken. -/
def Obligations.StaleWatchesLapse : Prop :=
  ∀ s : State, s.ready → s.time.watchDue ≤ s.now → 0x2000 ≤ s.settings.base →
    let lapsed (n : Fin 64) : Watch :=
      { s.watches[n] with grade := .unrated, cand := none, pcount := 0, restart := true }
    let stale (n : Fin 64) : Prop :=
      s.time.checked ≤ n.val ∧ (s.watches[n]).armed = true ∧ (s.watches[n]).grade ≠ .unrated ∧
        0 < (readDef s.mem n).fresh ∧
        ∃ m, (s.watches[n]).mark = some m ∧ m + 100000 * (readDef s.mem n).fresh ≤ s.now
    let first (n : Fin 64) : Prop := stale n ∧ ∀ j : Fin 64, j.val < n.val → ¬ stale j
    (Answers (exec .watchTick s) fun t =>
      t.time = { s.time with watchDue := s.time.watchDue + 100000, checked := 0 } ∧
        ∀ n : Fin 64, (stale n → t.watches[n] = lapsed n) ∧ (¬ stale n → t.watches[n] = s.watches[n])) ∧
    (∀ n, ¬ first n → exec (.freshnessExpiry n) s = .next s) ∧
    (∀ n i, first n → s.settings.shedWatch ≠ some n → s.RoomFor i 4 →
      Answers (exec (.freshnessExpiry n) s) fun t =>
        t.WatchShown n ∧ s.Recorded t i (gradeRecord n (s.watches[n]).grade (lapsed n) .freshness) ∧
          s.KeepsWords t (fun a => WatchWord n a ∨ s.RecordWord i 4 a) ∧
          t =
            { s with
              mem := t.mem, time := { s.time with checked := n.val + 1 }
              watches := s.watches.set n (lapsed n), coll := s.collAfter 4
              wake := if (readDef s.mem n).wakes .unrated then s.raised .grade else s.wake })

/-- R158, R157, R9, R95, R97, R194: a grade change of the shed watch gives the part the shed level of its new grade, where
that is another: WARN_LOW is ECONOMY, CRIT_LOW is SURVIVAL, and any other grade NONE. The GRADE record, the GRADE cause, the
level, the SHED record and the SHED cause follow, and the line is judged by the mask of the new level. A rise to SURVIVAL
purges the run queue: every entry of a sheddable list leaves it unless it was REQUESTED, its list's shed-drop count rises, and
a snapshot is written; the running list goes on. (Shown for WATCH_FEED, with no worsen trigger.) The queue words beyond the
count are 0 as the model chooses (log 13). -/
def Obligations.GradeChangesMoveTheShedLevel : Prop :=
  ∀ (s : State) (r : Taken) (k : Fin 16), s.Carries r .watchFeed → r.p1.toNat ≤ 63 → s.QueueLaw →
    let n := r.watch
    let d := readDef s.mem n
    let old := s.watches[n]
    let w := evaluated d old (signed 32 r.p2.toNat) none s.time.timestamp s.now
    let level : ShedLevel :=
      match w.grade with
      | .warnLow => .economy
      | .critLow => .survival
      | .unrated | .normal | .warnHigh | .critHigh => .none
    let goes (q : QEntry) : Bool :=
      decide (level = .survival ∧ (readDir s.mem q.list).sheddable = true ∧ q.source ≠ .requested)
    let rs := [gradeRecord n old.grade w .evaluation, shedRecord s.duty.shed level (some n) .grade]
    let pending := (if d.wakes w.grade then s.wake.pending ||| State.causeBit .grade else s.wake.pending)
    let now' : State := { s with duty := { s.duty with shed := level } }
    old.armed = true → d.firstFault = none → w.grade ≠ old.grade → s.settings.shedWatch = some n →
    level ≠ s.duty.shed → (d.worsenList = none ∨ w.grade.severity ≤ old.grade.severity) → s.RoomForAll k rs →
    Answers (exec .watchFeed s) fun t =>
      s.Completes t r .ok (BitVec.ofNat 32 w.grade.code)
          (fun a =>
            WatchWord n a ∨ a = 0x40 ∨ s.RecordWords k rs a ∨
              level = .survival ∧ (QueueWord a ∨ ∃ l, a = shedDropAddr l))
          { now' with
            watches := s.watches.set n w, coll := t.coll
            wake := State.raised { now' with wake := { s.wake with pending } } .shed
            engine := { s.engine with queue := s.engine.queue.filter fun q => !goes q } } ∧
        t.WatchShown n ∧ t.peek 0x40 = t.word40 ∧ s.RecordedAll t k rs ∧ (level = .survival → t.SnapshotShown) ∧
        ∀ l : Fin 32,
          let count (u : State) : Nat := field (u.peek (shedDropAddr l)) (16 * (l.val % 2)) 16
          count t = if ∃ q ∈ s.engine.queue, q.list = l ∧ goes q = true then min (count s + 1) 65535 else count s

/-- R96, R127, R69, R138, R5: the events that trigger a list, with the engine not IDLE: a grade that becomes more severe
triggers the watch's worsen list, an edge of the trigger set the input's trigger list, an attention flag newly set the
station's attention list, and the beginning of a visit the visit list; each by its source. (Shown for WATCH_FEED, for an edge
at a debounce window's expiry and for a roll-call answer.) The queue words beyond the count are 0 as the model chooses
(log 13), and the input a VISIT record names is log 7. -/
def Obligations.TriggersFollowTheirEvents : Prop :=
  ∀ (s : State) (l : Fin 32) (k : Fin 16), s.engine.mode ≠ .idle →
    (∀ r, s.Carries r .watchFeed → r.p1.toNat ≤ 63 →
      let n := r.watch
      let d := readDef s.mem n
      let old := s.watches[n]
      let w := evaluated d old (signed 32 r.p2.toNat) none s.time.timestamp s.now
      old.armed = true → d.firstFault = none → old.grade.severity < w.grade.severity → d.worsen = l.val →
      s.settings.shedWatch ≠ some n → s.RoomFor k 4 →
      Answers (exec .watchFeed s) fun t =>
        s.Completes t r .ok (BitVec.ofNat 32 w.grade.code)
            (fun a => WatchWord n a ∨ TriggerWord l a ∨ s.RecordWord k 4 a)
            { s with
              watches := s.watches.set n w, coll := s.collAfter 4, engine := t.engine
              wake := if d.wakes w.grade then s.raised .grade else s.wake } ∧
          t.WatchShown n ∧ s.Recorded t k (gradeRecord n old.grade w .evaluation) ∧
          s.Triggered t l .grade s.engine.ctx) ∧
    (∀ (i : Fin 16) (due : Moment), s.ready → (s.inputs[i]).window = .debounce due → due ≤ s.now →
      let g := s.settings.inputs[i]
      let active := (s.inputs[i]).raw != g.activeLow
      active ≠ (s.inputs[i]).level →
      (s.settings.visitInput ≠ some i → g.recordEdges.has active = false → g.triggerList = some l →
        g.triggerEdge.has active = true →
        Answers (exec (.debounceWindowExpiry i) s) fun t =>
          s.Triggered t l .edge s.engine.ctx ∧ s.KeepsWords t (fun a => InputWord i a ∨ TriggerWord l a) ∧
            (t.inputs[i]).level = active ∧ (∀ j : Fin 16, j ≠ i → t.inputs[j] = s.inputs[j]) ∧
            t =
              { s with
                mem := t.mem, inputs := t.inputs, engine := t.engine
                wake := if g.wakeEdges.has active then s.raised .edge else s.wake }) ∧
      (s.settings.visitInput = some i → active = true → s.visit.state = .off → s.settings.visitList = some l →
        g.recordEdges.has active = false → g.wakeEdges.has active = false →
        (g.triggerList = none ∨ g.triggerEdge.has active = false) → s.RoomFor k 4 → s.bus.ctl ≠ .idle →
        Answers (exec (.debounceWindowExpiry i) s) fun t =>
          s.Triggered t l .visit s.engine.ctx ∧ s.Recorded t k (visitRecord t.visit .begin) ∧ t.peek 0x40 = t.word40 ∧
            s.KeepsWords t (fun a => InputWord i a ∨ a = 0x40 ∨ TriggerWord l a ∨ s.RecordWord k 4 a) ∧
            t =
              { s with
                mem := t.mem, inputs := t.inputs, engine := t.engine, coll := s.collAfter 4, wake := s.raised .visit
                visit := { state := .starting, begin := s.time.timestamp, input := i, endDue := none }
                bus := { s.bus with visitPending := some .localRelease } })) ∧
    (∀ (i j : Fin 30) (present attention : Word), s.ready → s.bus.ctl = .slots i present attention → j.val = i.val + 1 →
      (s.bus.stations[i]).state ≠ .lost → (s.bus.stations[i]).attention = false → s.settings.attention[i] = some l →
      let mark : Word := BitVec.ofNat 32 (2 ^ (i.val + 1))
      Answers (exec (.rollCallSlot (.bits true true false false)) s) fun t =>
        s.Triggered t l .attention s.engine.ctx ∧ t.StationShown i ∧
          s.KeepsWords t (fun a => StationWord i a ∨ TriggerWord l a) ∧
          t =
            { s with
              mem := t.mem, engine := t.engine
              bus :=
                s.busAfter (.slots j (present ||| mark) (attention ||| mark)) i { s.heardNow i with attention := true }
                  s.bus.counts })

/-! ## The Time Base -/

/-- R161, R162: at each millisecond the timestamp advances by one and its word is rewritten; from its top it wraps to 0, the
wrap count rises, and a TIME_WRAP record is offered. The moment of the next millisecond (log 6), the raise code kept as it is
read at 0042H (log 20) and a TIME_WRAP away from the top (log 10) are the model's choice. R163, R185: TIME_SET replaces the
timestamp, offers a TIME_SET record of the old and new values, and answers the old one; no interval, tick or timer is
disturbed. -/
def Obligations.TimestampAdvancesWrapsAndIsSet : Prop :=
  ∀ s : State,
    (s.ready →
      let clock (stamp : Stamp) (wraps : Nat) : TimeBase :=
        { s.time with
          msMoment := s.time.msMoment + 100, base := max s.time.base (s.time.msMoment + 100), timestamp := stamp
          wrapCount := wraps }
      (s.time.timestamp ≠ BitVec.allOnes 32 →
        Answers (exec .timestampAdvance s) fun t =>
          t.peek 0x41 = s.time.timestamp + 1 ∧ s.KeepsWords t (· = 0x41) ∧
            t = { s with mem := t.mem, time := clock (s.time.timestamp + 1) s.time.wrapCount }) ∧
      (∀ i cmd, (cmd = .timestampAdvance ∨ cmd = .timeWrap) → s.time.timestamp = BitVec.allOnes 32 → s.RoomFor i 3 →
        Answers (exec cmd s) fun t =>
          let n := min (s.time.wrapCount + 1) 65535
          t.peek 0x41 = 0 ∧ t.peek 0x42 = pack [(16, n), (8, field (s.peek 0x42) 16 8)] ∧
            State.Recorded { s with time := clock 0 n } t i { kind := .timeWrap, payload := [BitVec.ofNat 32 n] } ∧
            s.KeepsWords t (fun a => a = 0x41 ∨ a = 0x42 ∨ s.RecordWord i 3 a) ∧
            t = { s with mem := t.mem, time := clock 0 n, coll := s.collAfter 3 }) ∧
      (s.time.timestamp ≠ BitVec.allOnes 32 → exec .timeWrap s = .next s)) ∧
    (∀ (r : Taken) (i : Fin 16), s.Carries r .timeSet → s.RoomFor i 4 →
      Answers (exec .timeSet s) fun t =>
        s.Completes t r .ok s.time.timestamp (fun a => a = 0x41 ∨ s.RecordWord i 4 a)
            { s with time := { s.time with timestamp := r.p1 }, coll := s.collAfter 4 } ∧
          t.peek 0x41 = r.p1 ∧
          State.Recorded { s with time := { s.time with timestamp := r.p1 } } t i
            { kind := .timeSet, payload := [s.time.timestamp, r.p1] })

/-- R165: a survey timer that runs restarts from its expiry for a full period, and offers a trigger for each directory entry
whose timer set includes it, in ascending number: with the engine not IDLE, each such list that is enabled and not shed then
stands in the queue, no other list enters it, and nothing leaves it. The series may stand between two triggers: the command
with the operand 0 begins it, and with 1 it offers the next trigger (log 32). That an expiry of a stopped timer changes nothing
is the model's reading (log 10), and the queue words beyond the count are 0 as it chooses (log 13). -/
def Obligations.SurveyTimersTriggerTheirLists : Prop :=
  ∀ (s : State) (n : Fin 4), s.ready →
    let lists := (List.finRange 32).filter fun l => (readDir s.mem l).timers.testBit n.val
    let restarted (due : Moment) : Vector (Option Moment) 4 :=
      s.time.surveyDue.set n (some (due + 1000 * s.settings.timers[n]))
    (∀ k, s.time.surveyDue[n] = none → s.time.series[n] = [] →
      exec (.surveyTimerExpiry { timer := n, offers := k }) s = .next s) ∧
    (∀ due, s.time.surveyDue[n] = some due → due ≤ s.now → s.time.series[n] = [] →
      exec (.surveyTimerExpiry { timer := n, offers := 0 }) s =
        .next { s with time := { s.time with surveyDue := restarted due, series := s.time.series.set n lists } }) ∧
    (∀ l rest, s.time.series[n] = l :: rest → s.engine.mode ≠ .idle →
      Answers (exec (.surveyTimerExpiry { timer := n, offers := 1 }) s) fun t =>
        s.Triggered t l (.timer n) s.engine.ctx ∧ s.KeepsWords t (TriggerWord l) ∧
          t =
            { s with
              mem := t.mem, engine := t.engine, time := { s.time with series := s.time.series.set n rest } }) ∧
    (∀ due k, s.time.surveyDue[n] = some due → due ≤ s.now → s.time.series[n] = [] → 32 ≤ k → s.engine.mode ≠ .idle →
      let asks (l : Fin 32) : Prop :=
        l ∈ lists ∧ (readDir s.mem l).enabled = true ∧
          ¬ ((readDir s.mem l).sheddable = true ∧ s.duty.shed.drops (.timer n) = true)
      Answers (exec (.surveyTimerExpiry { timer := n, offers := k }) s) fun t =>
        (∀ l : Fin 32,
          (∃ q ∈ t.engine.queue, q.list = l) ↔ (∃ q ∈ s.engine.queue, q.list = l) ∨ asks l) ∧
          s.engine.queue.Sublist t.engine.queue ∧
          (∀ q ∈ t.engine.queue, q ∉ s.engine.queue → q.source = .timer n) ∧
          s.KeepsWords t (fun a => ∃ l, TriggerWord l a) ∧
          t =
            { s with
              mem := t.mem, engine := { s.engine with queue := t.engine.queue }
              time := { s.time with surveyDue := restarted due, series := s.time.series.set n [] } })

/-! ## The Collection Unit's offer rule -/

/-- R107–R113, shown on the record of a timestamp's wrap: with no room the filling segment closes FULL and the next is
tried; a segment that reads EMPTY is opened with the next sequence, the OVERRUN record of a loss episode first; any other
starves the unit, and the record is dropped and counted. The filling record count and words used are mirrored as they change
(R106). The next millisecond is the model's choice (log 6). -/
def Obligations.OffersOpenCloseAndDrop : Prop :=
  ∀ s : State, s.ready → s.time.timestamp = BitVec.allOnes 32 → s.GeometryOk → s.coll.next.val < s.settings.count →
    let j := s.coll.next
    let at_ := s.segAddr j.val
    let drops := s.coll.drops
    let lead : Nat := if drops = 0 then 0 else 5
    (∀ cmd, (cmd = .timeWrap ∨ cmd = .timestampAdvance) →
      ((s.coll.st = .between ∨ s.coll.st = .starved) → s.segState j.val = 0 →
        Answers (exec cmd s) fun t =>
          t.coll =
              { s.coll with
                st := .filling j t.time.base, next := Fin.ofNat 16 ((j.val + 1) % s.settings.count)
                nextSeq := s.coll.nextSeq + 1, recs := if drops = 0 then 1 else 2, used := 3 + lead, opened := 0
                seq := s.coll.nextSeq, route := s.routeCode, hut := s.hutNumber, drops := 0
                firstDrop := if drops = 0 then s.coll.firstDrop else 0
                lastDrop := if drops = 0 then s.coll.lastDrop else 0, offered := s.coll.offered + (if drops = 0 then 1 else 2)
                written := s.coll.written + (if drops = 0 then 1 else 2) } ∧
            t.peek at_ = segWord0 1 s.hutNumber ∧
            t.peek (at_ + 1) = segWord1 (if drops = 0 then 1 else 2) (3 + lead) 0 ∧
            t.peek 0x9B = pack [(14, if drops = 0 then 1 else 2), (15, 3 + lead)] ∧
            t.peek (at_ + 2) = segWord2 s.coll.nextSeq s.routeCode ∧ t.peek (at_ + 3) = 0 ∧ t.peek (at_ + 4) = 0 ∧
            (drops ≠ 0 →
              t.peek (at_ + 5) = pack [(8, 15), (9, 5)] ∧ t.peek (at_ + 6) = 0 ∧
                t.peek (at_ + 7) = BitVec.ofNat 32 drops ∧ t.peek (at_ + 8) = s.coll.firstDrop ∧
                t.peek (at_ + 9) = s.coll.lastDrop) ∧
            t.peek (at_ + 5 + lead) = pack [(8, 16), (9, 3)] ∧ t.peek (at_ + 6 + lead) = 0 ∧
            t.wake = s.wake ∧
            s.KeepsWords t (fun a =>
              a = 0x41 ∨ a = 0x42 ∨ 0x9A ≤ a ∧ a ≤ 0xA2 ∨ at_ ≤ a ∧ a < at_ + 8 + lead)) ∧
      ((s.coll.st = .between ∨ s.coll.st = .starved) → s.segState j.val ≠ 0 →
        Answers (exec cmd s) fun t =>
          t.coll =
              { s.coll with
                st := .starved, offered := s.coll.offered + 1, dropped := s.coll.dropped + 1
                drops := min (drops + 1) 4294967295, firstDrop := if drops = 0 then 0 else s.coll.firstDrop
                lastDrop := 0 } ∧
            t.wake = (if drops = 0 then s.raised .overrun else s.wake) ∧
            s.KeepsWords t (fun a => a = 0x41 ∨ a = 0x42 ∨ 0x9A ≤ a ∧ a ≤ 0xA2)) ∧
      (∀ i start, s.coll.st = .filling i start → i.val < s.settings.count → i ≠ j → s.settings.size < s.coll.used + 8 →
        s.segState j.val = 0 → drops = 0 →
        Answers (exec cmd s) fun t =>
          t.peek (s.segAddr i.val) = segWord0 2 s.coll.hut ∧
            t.peek (s.segAddr i.val + 1) = segWord1 s.coll.recs s.coll.used 1 ∧ t.peek (s.segAddr i.val + 4) = 0 ∧
            t.wake = s.raised .closed ∧ t.coll.st = .filling j t.time.base ∧ t.coll.recs = 1 ∧ t.coll.used = 3 ∧
            t.peek 0x9B = pack [(14, 1), (15, 3)] ∧
            t.peek at_ = segWord0 1 s.hutNumber ∧ t.peek (at_ + 5) = pack [(8, 16), (9, 3)] ∧
            s.KeepsWords t (fun a =>
              a = 0x41 ∨ a = 0x42 ∨ 0x9A ≤ a ∧ a ≤ 0xA2 ∨ s.segAddr i.val ≤ a ∧ a < s.segAddr i.val + 5 ∨
                at_ ≤ a ∧ a < at_ + 8)))

/-! ## Contact inputs -/

/-- R123, R125–R130: the level on a pin. A disabled input is watched for nothing. In contact mode a settled input whose raw
level differs starts its debounce window, and one whose raw level agrees again cancels it; the edge is at the window's expiry,
and with debounce 0 at the raw change: counted, captured, recorded and raised as its sets say. In a first window a raw change
starts the window again, or with debounce 0 settles the input at once, and its end settles the input without an edge. In tach
mode the level follows, and a change to the active level is an active edge. A change to the level already there, read as a
short pulse, is the model's choice (log 26). -/
def Obligations.InputsDebounceAndSettle : Prop :=
  ∀ (s : State) (i : Fin 16), s.ready →
    let g := s.settings.inputs[i]
    let x := s.inputs[i]
    let put (x' : Input) : Vector Input 16 := s.inputs.set i x'
    let shown (x' : Input) (held : Nat) : Word :=
      pack [(1, bit x'.level), (1, bit x'.settled), (1, bit x'.stalled), (1, 0), (2, held), (10, 0), (16, x'.count)]
    let held := field (s.peek (inputAddr i)) 4 2
    let edge (cmd : Instr) (raw : Bool) : Prop :=
      let active := raw != g.activeLow
      let side : Nat := if active then 0 else 1
      let captured := g.firstHold = false ∨ held.testBit side = false
      let held' := if g.firstHold then held ||| 2 ^ side else held
      let x' : Input :=
        { x with
          raw, level := active, window := .none, count := min (x.count + 1) 65535
          actCap := if captured ∧ active = true then s.time.timestamp else x.actCap
          relCap := if captured ∧ active = false then s.time.timestamp else x.relCap }
      let rs : List Record :=
        if g.recordEdges.has active then
          [{ kind := .edge, payload := [pack [(4, i.val), (1, side)], s.time.timestamp] }] else []
      (active = x.level → exec cmd s = .next { s with inputs := put { x with raw, window := .none } }) ∧
      (∀ k, active ≠ x.level → s.settings.visitInput ≠ some i → s.RoomForAll k rs →
        (g.triggerList = none ∨ g.triggerEdge.has active = false) →
        Answers (exec cmd s) fun t =>
          t.peek (inputAddr i) = shown x' held' ∧ (captured → t.peek (inputAddr i + 2 + side) = s.time.timestamp) ∧
            s.RecordedAll t k rs ∧
            s.KeepsWords t (fun a =>
              a = inputAddr i ∨ (captured ∧ a = inputAddr i + 2 + side) ∨ s.RecordWords k rs a) ∧
            t =
              { s with
                mem := t.mem, inputs := put x', coll := t.coll
                wake := if g.wakeEdges.has active then s.raised .edge else s.wake })
    let settles (cmd : Instr) (raw : Bool) : Prop :=
      let x' : Input := { x with raw, level := raw != g.activeLow, settled := true, window := .none }
      s.settings.visitInput ≠ some i → x.settled = false →
      Answers (exec cmd s) fun t =>
        t.peek (inputAddr i) = shown x' held ∧ s.KeepsWords t (· = inputAddr i) ∧
          t = { s with mem := t.mem, inputs := put x' }
    (∀ high, g.enabled = false →
      exec (.rawLevelChange i high) s = .next { s with inputs := put { x with raw := high } }) ∧
    (∀ high, g.enabled = true → g.tach = false → 0 < g.debounce →
      let window : Window :=
        if x.settled = false then .first (s.now + 100 * g.debounce)
        else if (high != g.activeLow) = x.level then .none
        else .debounce (s.now + 100 * g.debounce)
      exec (.rawLevelChange i high) s = .next { s with inputs := put { x with raw := high, window } }) ∧
    (∀ high, g.enabled = true → g.tach = false → g.debounce = 0 →
      (x.settled = true → edge (.rawLevelChange i high) high) ∧ settles (.rawLevelChange i high) high) ∧
    (∀ due, x.window = .debounce due → due ≤ s.now → edge (.debounceWindowExpiry i) x.raw) ∧
    (∀ due, x.window = .first due → due ≤ s.now → settles (.firstWindowExpiry i) x.raw) ∧
    (g.enabled = true → g.tach = true →
      (Answers (exec (.rawLevelChange i g.activeLow) s) fun t =>
        s.KeepsWords t (· = inputAddr i) ∧
          t = { s with mem := t.mem, inputs := put { x with raw := g.activeLow, level := false } }) ∧
      exec (.rawLevelChange i (!g.activeLow)) s = exec (.tachActiveEdge i 0) s)

/-- R134, R135, R138, R74, R126: the visit input. An active event, which is its ACTIVATE edge or its settling toward the active
level at a first window's end, at a raw change or at an apply, begins a visit in OFF: STARTING, the BEGIN record, the VISIT
cause, and LOCAL_RELEASE pending. In LEAVING it cancels the end delay, and in ENDING the pending REMOTE_TAKE, and the state is
ON. Its RELEASE edge in ON starts the end delay, or with an end delay of 0 goes to ENDING with REMOTE_TAKE pending, and in
STARTING it aborts the visit with its record and no cause. An event in any other state changes nothing of the visit, and a
settle toward the inactive level is none. (Shown on edges with no other effect of the edge set.) The input a VISIT record
names is the model's choice (log 7), and so are when an apply's settle is taken (log 14), and that a stray frame delays a
broadcast (log 21). -/
def Obligations.VisitInputBeginsAndEndsVisits : Prop :=
  ∀ (s : State) (i k : Fin 16), s.ready →
    let x := s.inputs[i]
    let record (v : Visit) (e : VisitEvent) : Record :=
      { kind := .visit, payload := [pack [(2, e.code), (4, v.input.val)], v.begin] }
    let begun : Visit := { state := .starting, begin := s.time.timestamp, input := i, endDue := none }
    (s.settings.visitInput = some i →
      let g := s.settings.inputs[i]
      let active (raw : Bool) : Bool := raw != g.activeLow
      let alone (raw : Bool) : Prop :=
        active raw ≠ x.level ∧ g.recordEdges.has (active raw) = false ∧ g.wakeEdges.has (active raw) = false ∧
          (g.triggerList = none ∨ g.triggerEdge.has (active raw) = false)
      let edge (cmd : Instr) (raw : Bool) : Prop :=
        ((cmd = .debounceWindowExpiry i ∧ raw = x.raw ∧ ∃ due, x.window = .debounce due ∧ due ≤ s.now) ∨
            (cmd = .rawLevelChange i raw ∧ g.enabled = true ∧ g.tach = false ∧ g.debounce = 0 ∧ x.settled = true)) ∧
          alone raw
      let settle (cmd : Instr) (raw : Bool) : Prop :=
        (cmd = .firstWindowExpiry i ∧ raw = x.raw ∧ g.tach = false ∧ ∃ due, x.window = .first due ∧ due ≤ s.now) ∨
          (cmd = .rawLevelChange i raw ∧ g.enabled = true ∧ g.tach = false ∧ g.debounce = 0 ∧ x.settled = false)
      let leaves (cmd : Instr) (visit : Visit) (bus : Bus) : Prop :=
        Answers (exec cmd s) fun t =>
          s.KeepsWords t (fun a => InputWord i a ∨ a = 0x40) ∧ (visit = s.visit ∨ t.peek 0x40 = t.word40) ∧
            (t.inputs[i]).window = .none ∧ (∀ j : Fin 16, j ≠ i → t.inputs[j] = s.inputs[j]) ∧
            t =
              { s with
                mem := t.mem, inputs := t.inputs, visit, bus }
      (∀ cmd raw, edge cmd raw ∨ settle cmd raw → active raw = true →
        (s.visit.state = .off → s.settings.visitList = none → s.RoomFor k 4 →
          Answers (exec cmd s) fun t =>
            s.Recorded t k (record begun .begin) ∧ t.peek 0x40 = t.word40 ∧
              s.KeepsWords t (fun a => InputWord i a ∨ a = 0x40 ∨ s.RecordWord k 4 a) ∧
              (t.inputs[i]).level = true ∧ (∀ j : Fin 16, j ≠ i → t.inputs[j] = s.inputs[j]) ∧
              t =
                { s with
                  mem := t.mem, inputs := t.inputs, visit := begun, coll := s.collAfter 4, wake := s.raised .visit
                  bus := s.busPending .localRelease }) ∧
        (s.visit.state = .starting ∨ s.visit.state = .on → leaves cmd s.visit s.bus) ∧
        (s.visit.state = .leaving → leaves cmd { s.visit with state := .on, endDue := none } s.bus) ∧
        (s.visit.state = .ending → leaves cmd { s.visit with state := .on } { s.bus with visitPending := none })) ∧
      (∀ cmd raw, settle cmd raw → active raw = false → leaves cmd s.visit s.bus) ∧
      (∀ cmd raw, edge cmd raw → active raw = false →
        (s.visit.state = .off ∨ s.visit.state = .leaving ∨ s.visit.state = .ending →
          leaves cmd s.visit s.bus) ∧
        (s.visit.state = .on →
          leaves cmd
            (if s.settings.endDelay = 0 then { s.visit with state := .ending, endDue := none }
            else { s.visit with state := .leaving, endDue := some (s.now + 100000 * s.settings.endDelay) })
            (if s.settings.endDelay = 0 then s.busPending .remoteTake else s.bus)) ∧
        (s.visit.state = .starting → s.RoomFor k 4 →
          Answers (exec cmd s) fun t =>
            s.Recorded t k (record s.visit .aborted) ∧ t.peek 0x40 = t.word40 ∧
              s.KeepsWords t (fun a => InputWord i a ∨ a = 0x40 ∨ s.RecordWord k 4 a) ∧
              (t.inputs[i]).level = false ∧ (∀ j : Fin 16, j ≠ i → t.inputs[j] = s.inputs[j]) ∧
              t =
                { s with
                  mem := t.mem, inputs := t.inputs, visit := { s.visit with state := .off }, coll := s.collAfter 4
                  bus := { s.bus with visitPending := none } }))) ∧
    (∀ r : Taken, s.Carries r .settingsApply → firstBadField s.mem = none →
      let new := blockSettings s.mem
      let g := new.inputs[i]
      let settled : Input :=
        { x with
          level := true, settled := true, stalled := false, period := 0, window := .none, lastEdge := none
          stallFrom := none }
      s.ApplyIsQuiet { new with inputs := s.settings.inputs, visitInput := s.settings.visitInput } →
      new.inputs = s.settings.inputs.set i g → new.visitInput = some i →
      (s.settings.visitInput = none ∨ s.settings.visitInput = some i) →
      (s.settings.inputs[i]).enabled = false → g.enabled = true → g.tach = false → g.debounce = 0 →
      x.raw ≠ g.activeLow → x.stalled = false → s.visit.state = .off → new.visitList = none → s.RoomFor k 4 →
      Answers (exec .settingsApply s) fun t =>
        s.Completes t r .ok 0 (fun a => InputWord i a ∨ a = 0x40 ∨ s.RecordWord k 4 a)
            { s.under new with
              inputs := s.inputs.set i settled, visit := begun, coll := s.collAfter 4
              wake := (s.under new).raised .visit
              bus := (s.under new).busPending .localRelease } ∧
          s.Recorded t k (record begun .begin) ∧ t.peek 0x40 = t.word40)

/-- R130–R132: an active edge of a tach input counts, and with a last edge held measures the period in units of 10 µs,
rounded down and stopping at 65,535, and clears a stall; its moment becomes the last edge. A stall interval that expires
stalls the input, with period 65,535 and no last edge. (Shown for an input that no channel names.) The pin at an edge is the
model's choice (log 26). -/
def Obligations.TachometersMeasureAndStall : Prop :=
  ∀ (s : State) (i : Fin 16) (elapsed : Nat), s.ready → (s.settings.inputs[i]).enabled = true →
    (s.settings.inputs[i]).tach = true → (∀ c : Fin 4, (s.settings.channels[c]).tach ≠ some i) →
    let g := s.settings.inputs[i]
    let x := s.inputs[i]
    let now := s.now + elapsed
    let edge : Input :=
      { x with raw := !g.activeLow, level := true, count := min (x.count + 1) 65535, lastEdge := some now }
    let time : TimeBase := { s.time with base := now }
    (∀ m, x.lastEdge = some m →
      Answers (exec (.tachActiveEdge i elapsed) s) fun t =>
        t.peek (inputAddr i + 1) = BitVec.ofNat 32 (min (now - m) 65535) ∧
          s.KeepsWords t (fun a => a = inputAddr i ∨ a = inputAddr i + 1) ∧
          t =
            { s with
              mem := t.mem, time
              inputs := s.inputs.set i { edge with period := min (now - m) 65535, stalled := false, stallFrom := some now } }) ∧
    (x.lastEdge = none →
      Answers (exec (.tachActiveEdge i elapsed) s) fun t =>
        s.KeepsWords t (· = inputAddr i) ∧
          t =
            { s with
              mem := t.mem, time
              inputs := s.inputs.set i { edge with stallFrom := if x.stalled then none else some now } }) ∧
    (∀ m, x.stallFrom = some m → m + 1000 * g.stallTime ≤ s.now →
      Answers (exec (.stallIntervalExpiry i) s) fun t =>
        t.peek (inputAddr i + 1) = 65535 ∧ s.KeepsWords t (fun a => a = inputAddr i ∨ a = inputAddr i + 1) ∧
          t =
            { s with
              mem := t.mem
              inputs := s.inputs.set i { x with stalled := true, period := 65535, lastEdge := none, stallFrom := none } })

/-! ## The Duty Controller -/

/-- R151, R152, R155, R156: a stall of an input sets the stalled flag of every channel that names it, and begins an episode,
with its BEGIN record and the STALL cause, where none is in progress, the output is above 0 and the mode is not OFF. An active
edge that ends the stall clears the flag and ends an episode in progress with a CLEAR record and no cause. An apply that gives
channels another tach input ends their episodes without a record; each takes the flag of the input it then names, and may begin
a new episode. That the channels act in ascending number, which orders their records, is the model's choice (log 28); so are
the pin at an edge (log 26), a burst start dropped with an episode's end (log 22), and the absent tach input (log 12). -/
def Obligations.StallNoticesReachChannels : Prop :=
  ∀ (s : State) (k : Fin 16),
    let ch (c : Fin 4) : Channel := s.duty.channels[c]
    let tach (c : Fin 4) : Option (Fin 16) := (s.settings.channels[c]).tach
    let record (c : Fin 4) (i : Option (Fin 16)) (e used : Nat) : Record :=
      { kind := .stall
        payload := [pack [(2, c.val), (4, match i with | some i => i.val | none => 15), (2, e), (2, used)]] }
    let episode (x : Channel) : Channel :=
      { x with used := 1, burst := .burst (s.now + 200000), output := 255, handed := false }
    let may (x : Channel) : Prop := 0 < x.output ∧ x.mode ≠ .off
    let shows (t : State) (c : Fin 4) (x : Channel) : Prop :=
      t.duty.channels[c] = x ∧ (State.channelWord x ≠ State.channelWord (ch c) → t.peek (0xA3 + 2 * c.val) = State.channelWord x) ∧
        s.Reshown t (0xA4 + 2 * c.val) (BitVec.ofNat 32 (ch c).output) (BitVec.ofNat 32 x.output)
    (∀ i : Fin 16, s.ready → (s.settings.inputs[i]).enabled = true → (s.settings.inputs[i]).tach = true →
      let x := s.inputs[i]
      let begins (c : Fin 4) : Prop := tach c = some i ∧ (ch c).burst = .none ∧ may (ch c)
      let begun := (List.finRange 4).filterMap fun c => if begins c then some (record c (some i) 0 1) else none
      let ended := (List.finRange 4).filterMap fun c =>
        if tach c = some i ∧ (ch c).burst ≠ .none then some (record c (some i) 2 (ch c).used) else none
      let acts (cmd : Instr) (x' : Input) (time : TimeBase) (wake : WakeUnit) (rs : List Record) (f : Channel → Channel) :
          Prop :=
        s.RoomForAll k rs →
        Answers (exec cmd s) fun t =>
          t.peek (inputAddr i + 1) = BitVec.ofNat 32 x'.period ∧ s.RecordedAll t k rs ∧
            (∀ c, shows t c (if tach c = some i then f (ch c) else ch c)) ∧
            s.KeepsWords t (fun a =>
              a = inputAddr i ∨ a = inputAddr i + 1 ∨ (∃ c, tach c = some i ∧ ChannelWord c a) ∨
                s.RecordWords k rs a) ∧
            t =
              { s with
                mem := t.mem, time, wake, inputs := s.inputs.set i x', coll := t.coll
                duty := { s.duty with channels := t.duty.channels } }
      (∀ m, x.stallFrom = some m → m + 1000 * (s.settings.inputs[i]).stallTime ≤ s.now →
        acts (.stallIntervalExpiry i) { x with stalled := true, period := 65535, lastEdge := none, stallFrom := none } s.time
          (if begun = [] then s.wake else s.raised .stall) begun fun y =>
          if y.burst = .none ∧ may y then episode { y with stalled := true } else { y with stalled := true }) ∧
      (∀ m elapsed, x.stalled = true → x.lastEdge = some m →
        let now := s.now + elapsed
        acts (.tachActiveEdge i elapsed)
          { x with
            raw := !(s.settings.inputs[i]).activeLow, level := true, count := min (x.count + 1) 65535
            period := min (now - m) 65535, stalled := false, lastEdge := some now, stallFrom := some now }
          { s.time with base := now } s.wake ended fun y =>
          if y.burst = .none then { y with stalled := false, handed := false }
          else { y with stalled := false, burst := .none, used := 0, handed := false })) ∧
    (∀ r, s.Carries r .settingsApply → firstBadField s.mem = none →
      let new := blockSettings s.mem
      let tach' (c : Fin 4) : Option (Fin 16) := (new.channels[c]).tach
      let stalled (c : Fin 4) : Bool := match tach' c with | some i => (s.inputs[i]).stalled | none => false
      let begins (c : Fin 4) : Prop := tach' c ≠ tach c ∧ stalled c = true ∧ may (ch c)
      let rs := (List.finRange 4).filterMap fun c => if begins c then some (record c (tach' c) 0 1) else none
      let after (c : Fin 4) : Channel :=
        if tach' c = tach c then ch c
        else
          let y : Channel := { ch c with stalled := stalled c, burst := .none, used := 0, handed := false }
          if begins c then episode y else y
      s.ApplyIsQuiet { new with channels := s.settings.channels } → s.RoomForAll k rs →
      Answers (exec .settingsApply s) fun t =>
        s.Completes t r .ok 0
            (fun a => (∃ c, tach' c ≠ tach c ∧ ChannelWord c a) ∨ s.RecordWords k rs a)
            { s.under new with
              duty := { s.duty with channels := t.duty.channels }, coll := t.coll
              wake := if rs = [] then (s.under new).wake else (s.under new).raised .stall } ∧
          s.RecordedAll t k rs ∧ ∀ c, shows t c (after c))

/-- R147–R150, R168, with the laws of R148 and R149: a ramp tick gives every channel its target and moves its output. The
target is 0 in OFF and otherwise the asked duty under the cap; it passes the cap of the shed level only where the source
watch of an ADAPTIVE channel is CRIT_HIGH. With ramp enabled and no burst the output moves by at most the step, toward the
target. A burst holds it at 255. That a burst start handed before stands through the tick is the model's choice (log 22). -/
def Obligations.RampTicksCapAndMove : Prop :=
  ∀ s : State, s.ready → s.time.rampDue ≤ s.now →
    let cap : Nat :=
      match s.duty.shed with
      | .none => 255
      | .economy => s.settings.economyCap
      | .survival => s.settings.survivalCap
    Answers (exec .rampTick s) fun t =>
      (∀ c : Fin 4,
        let g := s.settings.channels[c]
        let ch := s.duty.channels[c]
        let ch' := t.duty.channels[c]
        let rated (w : Fin 64) : Prop :=
          g.source = some w ∧ (s.watches[w]).armed = true ∧ (s.watches[w]).grade ≠ .unrated
        (ch.mode = .off → ch'.target = 0) ∧ (ch.mode = .manual → ch'.target = min ch.manual cap) ∧
          (ch.mode = .adaptive → (∀ w, ¬ rated w) → ch'.target = min g.fallback cap) ∧
          (∀ w, ch.mode = .adaptive → rated w →
            let d := (s.watches[w]).smooth - g.start
            let u := max (if d ≤ 0 then 0 else min (d.toNat * g.slope / 64) 255) g.minimum
            ch'.target = min u (if (s.watches[w]).grade = .critHigh then 255 else cap)) ∧
          ((∃ due, ch.burst = .burst due) → ch'.output = 255) ∧
          ((∀ due, ch.burst ≠ .burst due) → g.ramp = false → ch'.output = ch'.target) ∧
          ((∀ due, ch.burst ≠ .burst due) → g.ramp = true →
            ch'.output =
              if ch.output < ch'.target then ch.output + min g.step (ch'.target - ch.output)
              else ch.output - min g.step (ch.output - ch'.target)) ∧
          (ch'.handed = true ↔
            ch.handed = true ∨
              (0 < ch'.output ∧ ch.stalled = true ∧ (ch.burst = .none ∨ ch.burst = .waiting) ∧ ch.mode ≠ .off)) ∧
          ch' = { ch with target := ch'.target, output := ch'.output, handed := ch'.handed } ∧
          s.ChannelReshown t c) ∧
        s.KeepsWords t (fun a => ∃ c, ChannelWord c a) ∧
        t =
          { s with
            mem := t.mem, duty := { s.duty with channels := t.duty.channels }
            time := { s.time with rampDue := s.time.rampDue + 10000 } }

/-- R149 with its law, and R159: at a tick an output in BURST is 255; with ramp enabled another output moves toward its target, no
farther, by at most its step; with ramp disabled it becomes its target. Under every other command an output changes only to 0
in OFF, to 255 at the start of a burst, and to 255 where a power-on, a brown-out or a hard reset begins. -/
def Obligations.OutputsMoveOnlyByTheirRules : Prop :=
  ∀ (cmd : Instr) (s t : State) (c : Fin 4), s.ready ∧ s.time.rampDue ≤ s.now ∨ cmd ≠ .rampTick → exec cmd s = .next t →
    let g := s.settings.channels[c]
    let ch := s.duty.channels[c]
    let ch' := t.duty.channels[c]
    (cmd = .rampTick →
      (∀ due, ch.burst = .burst due → ch'.output = 255) ∧
      ((∀ due, ch.burst ≠ .burst due) → g.ramp = false → ch'.output = ch'.target) ∧
      ((∀ due, ch.burst ≠ .burst due) → g.ramp = true →
        min ch.output ch'.target ≤ ch'.output ∧ ch'.output ≤ max ch.output ch'.target ∧
          ch'.output ≤ ch.output + g.step ∧ ch.output ≤ ch'.output + g.step ∧
          (ch'.output = ch'.target ∨ ch'.output = ch.output + g.step ∨ ch.output = ch'.output + g.step))) ∧
    (cmd ≠ .rampTick → ch'.output ≠ ch.output →
      (ch'.output = 0 ∧ ch'.mode = .off ∧ cmd = .dutySet) ∨ (ch'.output = 255 ∧ ∃ due, ch'.burst = .burst due) ∨
        (ch'.output = 255 ∧ t.power.cause ≠ .soft ∧
          (cmd = .powerOn ∨ cmd = .brownOut ∨ cmd = .hardResetAssert ∨ cmd = .deferredResetBegin)))

/-- R150–R155: a burst start that a tick handed begins an episode, with a burst of 2 s at 255, its BEGIN record and the
STALL cause, or gives a WAITING channel its next burst. A burst's expiry starts a spacing of 10 s. At the spacing's expiry
another burst follows while fewer than three were made and the output is above 0, the channel waits where it is 0, and after
the third the fan has failed, with its record and cause. How a burst start is handed (log 22) and the 4 bits of the tach input
(log 12) are the model's. -/
def Obligations.BurstsFreeOrFailAFan : Prop :=
  ∀ (s : State) (c : Fin 4), s.ready →
    let ch := s.duty.channels[c]
    let tach := (s.settings.channels[c]).tach
    let record (e used : Nat) : Record :=
      { kind := .stall
        payload :=
          [pack [(2, c.val), (4, match tach with | some i => i.val | none => 15), (2, e), (2, used)]] }
    let puts (cmd : Instr) (ch' : Channel) : Prop :=
      Answers (exec cmd s) fun t =>
        s.ChannelReshown t c ∧ s.KeepsWords t (ChannelWord c) ∧ t = { s with mem := t.mem, duty := s.withChannel c ch' }
    let reports (cmd : Instr) (ch' : Channel) (i : Fin 16) (rec : Record) : Prop :=
      Answers (exec cmd s) fun t =>
        s.ChannelReshown t c ∧ s.Recorded t i rec ∧
          s.KeepsWords t (fun a => ChannelWord c a ∨ s.RecordWord i 3 a) ∧
          t =
            { s with
              mem := t.mem, duty := s.withChannel c ch', coll := s.collAfter 3, wake := s.raised .stall }
    (∀ i, ch.handed = true → ch.stalled = true → ch.mode ≠ .off → ch.burst = .none → s.RoomFor i 3 →
      reports (.burstStart c) { ch with used := 1, burst := .burst (s.now + 200000), output := 255, handed := false } i
        (record 0 1)) ∧
    (ch.handed = true → ch.stalled = true → ch.mode ≠ .off → ch.burst = .waiting →
      puts (.burstStart c)
        { ch with used := ch.used + 1, burst := .burst (s.now + 200000), output := 255, handed := false }) ∧
    (∀ due, ch.burst = .burst due → due ≤ s.now →
      puts (.burstExpiry c) { ch with burst := .spacing (s.now + 1000000) }) ∧
    (∀ due, ch.burst = .spacing due → due ≤ s.now →
      (ch.used < 3 → 0 < ch.output →
        puts (.spacingExpiry c)
          { ch with used := ch.used + 1, burst := .burst (s.now + 200000), output := 255, handed := false }) ∧
      (ch.used < 3 → ch.output = 0 → puts (.spacingExpiry c) { ch with burst := .waiting }) ∧
      (∀ i, 3 ≤ ch.used → s.RoomFor i 3 →
        reports (.spacingExpiry c) { ch with burst := .failed } i (record 1 3)))

end
end

