-- ==== Sys2Proof/Laws/State.lean ====
section
/-! SUPPORT. Every field after every setter of State: one lemma per field per update. -/

namespace Sys2Proof.Machine.State

section setPending

variable (s : State) (v : List Instr)

@[simp] theorem setPending_pending : (s.setPending v).pending = v := rfl
@[simp] theorem setPending_mem : (s.setPending v).mem = s.mem := rfl
@[simp] theorem setPending_hostData : (s.setPending v).hostData = s.hostData := rfl
@[simp] theorem setPending_power : (s.setPending v).power = s.power := rfl
@[simp] theorem setPending_settings : (s.setPending v).settings = s.settings := rfl
@[simp] theorem setPending_refused : (s.setPending v).refused = s.refused := rfl
@[simp] theorem setPending_time : (s.setPending v).time = s.time := rfl
@[simp] theorem setPending_wake : (s.setPending v).wake = s.wake := rfl
@[simp] theorem setPending_ident : (s.setPending v).ident = s.ident := rfl
@[simp] theorem setPending_req : (s.setPending v).req = s.req := rfl
@[simp] theorem setPending_engine : (s.setPending v).engine = s.engine := rfl
@[simp] theorem setPending_bus : (s.setPending v).bus = s.bus := rfl
@[simp] theorem setPending_watches : (s.setPending v).watches = s.watches := rfl
@[simp] theorem setPending_coll : (s.setPending v).coll = s.coll := rfl
@[simp] theorem setPending_inputs : (s.setPending v).inputs = s.inputs := rfl
@[simp] theorem setPending_visit : (s.setPending v).visit = s.visit := rfl
@[simp] theorem setPending_duty : (s.setPending v).duty = s.duty := rfl
@[simp] theorem setPending_freeIdx : (s.setPending v).freeIdx = s.freeIdx := rfl

end setPending

section setMem

variable (s : State) (v : Memory)

@[simp] theorem setMem_pending : (s.setMem v).pending = s.pending := rfl
@[simp] theorem setMem_mem : (s.setMem v).mem = v := rfl
@[simp] theorem setMem_hostData : (s.setMem v).hostData = s.hostData := rfl
@[simp] theorem setMem_power : (s.setMem v).power = s.power := rfl
@[simp] theorem setMem_settings : (s.setMem v).settings = s.settings := rfl
@[simp] theorem setMem_refused : (s.setMem v).refused = s.refused := rfl
@[simp] theorem setMem_time : (s.setMem v).time = s.time := rfl
@[simp] theorem setMem_wake : (s.setMem v).wake = s.wake := rfl
@[simp] theorem setMem_ident : (s.setMem v).ident = s.ident := rfl
@[simp] theorem setMem_req : (s.setMem v).req = s.req := rfl
@[simp] theorem setMem_engine : (s.setMem v).engine = s.engine := rfl
@[simp] theorem setMem_bus : (s.setMem v).bus = s.bus := rfl
@[simp] theorem setMem_watches : (s.setMem v).watches = s.watches := rfl
@[simp] theorem setMem_coll : (s.setMem v).coll = s.coll := rfl
@[simp] theorem setMem_inputs : (s.setMem v).inputs = s.inputs := rfl
@[simp] theorem setMem_visit : (s.setMem v).visit = s.visit := rfl
@[simp] theorem setMem_duty : (s.setMem v).duty = s.duty := rfl
@[simp] theorem setMem_freeIdx : (s.setMem v).freeIdx = s.freeIdx := rfl

end setMem

section setHostData

variable (s : State) (v : Word)

@[simp] theorem setHostData_pending : (s.setHostData v).pending = s.pending := rfl
@[simp] theorem setHostData_mem : (s.setHostData v).mem = s.mem := rfl
@[simp] theorem setHostData_hostData : (s.setHostData v).hostData = v := rfl
@[simp] theorem setHostData_power : (s.setHostData v).power = s.power := rfl
@[simp] theorem setHostData_settings : (s.setHostData v).settings = s.settings := rfl
@[simp] theorem setHostData_refused : (s.setHostData v).refused = s.refused := rfl
@[simp] theorem setHostData_time : (s.setHostData v).time = s.time := rfl
@[simp] theorem setHostData_wake : (s.setHostData v).wake = s.wake := rfl
@[simp] theorem setHostData_ident : (s.setHostData v).ident = s.ident := rfl
@[simp] theorem setHostData_req : (s.setHostData v).req = s.req := rfl
@[simp] theorem setHostData_engine : (s.setHostData v).engine = s.engine := rfl
@[simp] theorem setHostData_bus : (s.setHostData v).bus = s.bus := rfl
@[simp] theorem setHostData_watches : (s.setHostData v).watches = s.watches := rfl
@[simp] theorem setHostData_coll : (s.setHostData v).coll = s.coll := rfl
@[simp] theorem setHostData_inputs : (s.setHostData v).inputs = s.inputs := rfl
@[simp] theorem setHostData_visit : (s.setHostData v).visit = s.visit := rfl
@[simp] theorem setHostData_duty : (s.setHostData v).duty = s.duty := rfl
@[simp] theorem setHostData_freeIdx : (s.setHostData v).freeIdx = s.freeIdx := rfl

end setHostData

section setPower

variable (s : State) (v : Power)

@[simp] theorem setPower_pending : (s.setPower v).pending = s.pending := rfl
@[simp] theorem setPower_mem : (s.setPower v).mem = s.mem := rfl
@[simp] theorem setPower_hostData : (s.setPower v).hostData = s.hostData := rfl
@[simp] theorem setPower_power : (s.setPower v).power = v := rfl
@[simp] theorem setPower_settings : (s.setPower v).settings = s.settings := rfl
@[simp] theorem setPower_refused : (s.setPower v).refused = s.refused := rfl
@[simp] theorem setPower_time : (s.setPower v).time = s.time := rfl
@[simp] theorem setPower_wake : (s.setPower v).wake = s.wake := rfl
@[simp] theorem setPower_ident : (s.setPower v).ident = s.ident := rfl
@[simp] theorem setPower_req : (s.setPower v).req = s.req := rfl
@[simp] theorem setPower_engine : (s.setPower v).engine = s.engine := rfl
@[simp] theorem setPower_bus : (s.setPower v).bus = s.bus := rfl
@[simp] theorem setPower_watches : (s.setPower v).watches = s.watches := rfl
@[simp] theorem setPower_coll : (s.setPower v).coll = s.coll := rfl
@[simp] theorem setPower_inputs : (s.setPower v).inputs = s.inputs := rfl
@[simp] theorem setPower_visit : (s.setPower v).visit = s.visit := rfl
@[simp] theorem setPower_duty : (s.setPower v).duty = s.duty := rfl
@[simp] theorem setPower_freeIdx : (s.setPower v).freeIdx = s.freeIdx := rfl

end setPower

section setSettings

variable (s : State) (v : Settings)

@[simp] theorem setSettings_pending : (s.setSettings v).pending = s.pending := rfl
@[simp] theorem setSettings_mem : (s.setSettings v).mem = s.mem := rfl
@[simp] theorem setSettings_hostData : (s.setSettings v).hostData = s.hostData := rfl
@[simp] theorem setSettings_power : (s.setSettings v).power = s.power := rfl
@[simp] theorem setSettings_settings : (s.setSettings v).settings = v := rfl
@[simp] theorem setSettings_refused : (s.setSettings v).refused = s.refused := rfl
@[simp] theorem setSettings_time : (s.setSettings v).time = s.time := rfl
@[simp] theorem setSettings_wake : (s.setSettings v).wake = s.wake := rfl
@[simp] theorem setSettings_ident : (s.setSettings v).ident = s.ident := rfl
@[simp] theorem setSettings_req : (s.setSettings v).req = s.req := rfl
@[simp] theorem setSettings_engine : (s.setSettings v).engine = s.engine := rfl
@[simp] theorem setSettings_bus : (s.setSettings v).bus = s.bus := rfl
@[simp] theorem setSettings_watches : (s.setSettings v).watches = s.watches := rfl
@[simp] theorem setSettings_coll : (s.setSettings v).coll = s.coll := rfl
@[simp] theorem setSettings_inputs : (s.setSettings v).inputs = s.inputs := rfl
@[simp] theorem setSettings_visit : (s.setSettings v).visit = s.visit := rfl
@[simp] theorem setSettings_duty : (s.setSettings v).duty = s.duty := rfl
@[simp] theorem setSettings_freeIdx : (s.setSettings v).freeIdx = s.freeIdx := rfl

end setSettings

section setRefused

variable (s : State) (v : Nat)

@[simp] theorem setRefused_pending : (s.setRefused v).pending = s.pending := rfl
@[simp] theorem setRefused_mem : (s.setRefused v).mem = s.mem := rfl
@[simp] theorem setRefused_hostData : (s.setRefused v).hostData = s.hostData := rfl
@[simp] theorem setRefused_power : (s.setRefused v).power = s.power := rfl
@[simp] theorem setRefused_settings : (s.setRefused v).settings = s.settings := rfl
@[simp] theorem setRefused_refused : (s.setRefused v).refused = v := rfl
@[simp] theorem setRefused_time : (s.setRefused v).time = s.time := rfl
@[simp] theorem setRefused_wake : (s.setRefused v).wake = s.wake := rfl
@[simp] theorem setRefused_ident : (s.setRefused v).ident = s.ident := rfl
@[simp] theorem setRefused_req : (s.setRefused v).req = s.req := rfl
@[simp] theorem setRefused_engine : (s.setRefused v).engine = s.engine := rfl
@[simp] theorem setRefused_bus : (s.setRefused v).bus = s.bus := rfl
@[simp] theorem setRefused_watches : (s.setRefused v).watches = s.watches := rfl
@[simp] theorem setRefused_coll : (s.setRefused v).coll = s.coll := rfl
@[simp] theorem setRefused_inputs : (s.setRefused v).inputs = s.inputs := rfl
@[simp] theorem setRefused_visit : (s.setRefused v).visit = s.visit := rfl
@[simp] theorem setRefused_duty : (s.setRefused v).duty = s.duty := rfl
@[simp] theorem setRefused_freeIdx : (s.setRefused v).freeIdx = s.freeIdx := rfl

end setRefused

section setTime

variable (s : State) (v : TimeBase)

@[simp] theorem setTime_pending : (s.setTime v).pending = s.pending := rfl
@[simp] theorem setTime_mem : (s.setTime v).mem = s.mem := rfl
@[simp] theorem setTime_hostData : (s.setTime v).hostData = s.hostData := rfl
@[simp] theorem setTime_power : (s.setTime v).power = s.power := rfl
@[simp] theorem setTime_settings : (s.setTime v).settings = s.settings := rfl
@[simp] theorem setTime_refused : (s.setTime v).refused = s.refused := rfl
@[simp] theorem setTime_time : (s.setTime v).time = v := rfl
@[simp] theorem setTime_wake : (s.setTime v).wake = s.wake := rfl
@[simp] theorem setTime_ident : (s.setTime v).ident = s.ident := rfl
@[simp] theorem setTime_req : (s.setTime v).req = s.req := rfl
@[simp] theorem setTime_engine : (s.setTime v).engine = s.engine := rfl
@[simp] theorem setTime_bus : (s.setTime v).bus = s.bus := rfl
@[simp] theorem setTime_watches : (s.setTime v).watches = s.watches := rfl
@[simp] theorem setTime_coll : (s.setTime v).coll = s.coll := rfl
@[simp] theorem setTime_inputs : (s.setTime v).inputs = s.inputs := rfl
@[simp] theorem setTime_visit : (s.setTime v).visit = s.visit := rfl
@[simp] theorem setTime_duty : (s.setTime v).duty = s.duty := rfl
@[simp] theorem setTime_freeIdx : (s.setTime v).freeIdx = s.freeIdx := rfl

end setTime

section setWake

variable (s : State) (v : WakeUnit)

@[simp] theorem setWake_pending : (s.setWake v).pending = s.pending := rfl
@[simp] theorem setWake_mem : (s.setWake v).mem = s.mem := rfl
@[simp] theorem setWake_hostData : (s.setWake v).hostData = s.hostData := rfl
@[simp] theorem setWake_power : (s.setWake v).power = s.power := rfl
@[simp] theorem setWake_settings : (s.setWake v).settings = s.settings := rfl
@[simp] theorem setWake_refused : (s.setWake v).refused = s.refused := rfl
@[simp] theorem setWake_time : (s.setWake v).time = s.time := rfl
@[simp] theorem setWake_wake : (s.setWake v).wake = v := rfl
@[simp] theorem setWake_ident : (s.setWake v).ident = s.ident := rfl
@[simp] theorem setWake_req : (s.setWake v).req = s.req := rfl
@[simp] theorem setWake_engine : (s.setWake v).engine = s.engine := rfl
@[simp] theorem setWake_bus : (s.setWake v).bus = s.bus := rfl
@[simp] theorem setWake_watches : (s.setWake v).watches = s.watches := rfl
@[simp] theorem setWake_coll : (s.setWake v).coll = s.coll := rfl
@[simp] theorem setWake_inputs : (s.setWake v).inputs = s.inputs := rfl
@[simp] theorem setWake_visit : (s.setWake v).visit = s.visit := rfl
@[simp] theorem setWake_duty : (s.setWake v).duty = s.duty := rfl
@[simp] theorem setWake_freeIdx : (s.setWake v).freeIdx = s.freeIdx := rfl

end setWake

section setIdent

variable (s : State) (v : IdentStore)

@[simp] theorem setIdent_pending : (s.setIdent v).pending = s.pending := rfl
@[simp] theorem setIdent_mem : (s.setIdent v).mem = s.mem := rfl
@[simp] theorem setIdent_hostData : (s.setIdent v).hostData = s.hostData := rfl
@[simp] theorem setIdent_power : (s.setIdent v).power = s.power := rfl
@[simp] theorem setIdent_settings : (s.setIdent v).settings = s.settings := rfl
@[simp] theorem setIdent_refused : (s.setIdent v).refused = s.refused := rfl
@[simp] theorem setIdent_time : (s.setIdent v).time = s.time := rfl
@[simp] theorem setIdent_wake : (s.setIdent v).wake = s.wake := rfl
@[simp] theorem setIdent_ident : (s.setIdent v).ident = v := rfl
@[simp] theorem setIdent_req : (s.setIdent v).req = s.req := rfl
@[simp] theorem setIdent_engine : (s.setIdent v).engine = s.engine := rfl
@[simp] theorem setIdent_bus : (s.setIdent v).bus = s.bus := rfl
@[simp] theorem setIdent_watches : (s.setIdent v).watches = s.watches := rfl
@[simp] theorem setIdent_coll : (s.setIdent v).coll = s.coll := rfl
@[simp] theorem setIdent_inputs : (s.setIdent v).inputs = s.inputs := rfl
@[simp] theorem setIdent_visit : (s.setIdent v).visit = s.visit := rfl
@[simp] theorem setIdent_duty : (s.setIdent v).duty = s.duty := rfl
@[simp] theorem setIdent_freeIdx : (s.setIdent v).freeIdx = s.freeIdx := rfl

end setIdent

section setReq

variable (s : State) (v : RequestTable)

@[simp] theorem setReq_pending : (s.setReq v).pending = s.pending := rfl
@[simp] theorem setReq_mem : (s.setReq v).mem = s.mem := rfl
@[simp] theorem setReq_hostData : (s.setReq v).hostData = s.hostData := rfl
@[simp] theorem setReq_power : (s.setReq v).power = s.power := rfl
@[simp] theorem setReq_settings : (s.setReq v).settings = s.settings := rfl
@[simp] theorem setReq_refused : (s.setReq v).refused = s.refused := rfl
@[simp] theorem setReq_time : (s.setReq v).time = s.time := rfl
@[simp] theorem setReq_wake : (s.setReq v).wake = s.wake := rfl
@[simp] theorem setReq_ident : (s.setReq v).ident = s.ident := rfl
@[simp] theorem setReq_req : (s.setReq v).req = v := rfl
@[simp] theorem setReq_engine : (s.setReq v).engine = s.engine := rfl
@[simp] theorem setReq_bus : (s.setReq v).bus = s.bus := rfl
@[simp] theorem setReq_watches : (s.setReq v).watches = s.watches := rfl
@[simp] theorem setReq_coll : (s.setReq v).coll = s.coll := rfl
@[simp] theorem setReq_inputs : (s.setReq v).inputs = s.inputs := rfl
@[simp] theorem setReq_visit : (s.setReq v).visit = s.visit := rfl
@[simp] theorem setReq_duty : (s.setReq v).duty = s.duty := rfl
@[simp] theorem setReq_freeIdx : (s.setReq v).freeIdx = s.freeIdx := rfl

end setReq

section setEngine

variable (s : State) (v : Engine)

@[simp] theorem setEngine_pending : (s.setEngine v).pending = s.pending := rfl
@[simp] theorem setEngine_mem : (s.setEngine v).mem = s.mem := rfl
@[simp] theorem setEngine_hostData : (s.setEngine v).hostData = s.hostData := rfl
@[simp] theorem setEngine_power : (s.setEngine v).power = s.power := rfl
@[simp] theorem setEngine_settings : (s.setEngine v).settings = s.settings := rfl
@[simp] theorem setEngine_refused : (s.setEngine v).refused = s.refused := rfl
@[simp] theorem setEngine_time : (s.setEngine v).time = s.time := rfl
@[simp] theorem setEngine_wake : (s.setEngine v).wake = s.wake := rfl
@[simp] theorem setEngine_ident : (s.setEngine v).ident = s.ident := rfl
@[simp] theorem setEngine_req : (s.setEngine v).req = s.req := rfl
@[simp] theorem setEngine_engine : (s.setEngine v).engine = v := rfl
@[simp] theorem setEngine_bus : (s.setEngine v).bus = s.bus := rfl
@[simp] theorem setEngine_watches : (s.setEngine v).watches = s.watches := rfl
@[simp] theorem setEngine_coll : (s.setEngine v).coll = s.coll := rfl
@[simp] theorem setEngine_inputs : (s.setEngine v).inputs = s.inputs := rfl
@[simp] theorem setEngine_visit : (s.setEngine v).visit = s.visit := rfl
@[simp] theorem setEngine_duty : (s.setEngine v).duty = s.duty := rfl
@[simp] theorem setEngine_freeIdx : (s.setEngine v).freeIdx = s.freeIdx := rfl

end setEngine

section setBus

variable (s : State) (v : Bus)

@[simp] theorem setBus_pending : (s.setBus v).pending = s.pending := rfl
@[simp] theorem setBus_mem : (s.setBus v).mem = s.mem := rfl
@[simp] theorem setBus_hostData : (s.setBus v).hostData = s.hostData := rfl
@[simp] theorem setBus_power : (s.setBus v).power = s.power := rfl
@[simp] theorem setBus_settings : (s.setBus v).settings = s.settings := rfl
@[simp] theorem setBus_refused : (s.setBus v).refused = s.refused := rfl
@[simp] theorem setBus_time : (s.setBus v).time = s.time := rfl
@[simp] theorem setBus_wake : (s.setBus v).wake = s.wake := rfl
@[simp] theorem setBus_ident : (s.setBus v).ident = s.ident := rfl
@[simp] theorem setBus_req : (s.setBus v).req = s.req := rfl
@[simp] theorem setBus_engine : (s.setBus v).engine = s.engine := rfl
@[simp] theorem setBus_bus : (s.setBus v).bus = v := rfl
@[simp] theorem setBus_watches : (s.setBus v).watches = s.watches := rfl
@[simp] theorem setBus_coll : (s.setBus v).coll = s.coll := rfl
@[simp] theorem setBus_inputs : (s.setBus v).inputs = s.inputs := rfl
@[simp] theorem setBus_visit : (s.setBus v).visit = s.visit := rfl
@[simp] theorem setBus_duty : (s.setBus v).duty = s.duty := rfl
@[simp] theorem setBus_freeIdx : (s.setBus v).freeIdx = s.freeIdx := rfl

end setBus

section setWatches

variable (s : State) (v : Vector Watch 64)

@[simp] theorem setWatches_pending : (s.setWatches v).pending = s.pending := rfl
@[simp] theorem setWatches_mem : (s.setWatches v).mem = s.mem := rfl
@[simp] theorem setWatches_hostData : (s.setWatches v).hostData = s.hostData := rfl
@[simp] theorem setWatches_power : (s.setWatches v).power = s.power := rfl
@[simp] theorem setWatches_settings : (s.setWatches v).settings = s.settings := rfl
@[simp] theorem setWatches_refused : (s.setWatches v).refused = s.refused := rfl
@[simp] theorem setWatches_time : (s.setWatches v).time = s.time := rfl
@[simp] theorem setWatches_wake : (s.setWatches v).wake = s.wake := rfl
@[simp] theorem setWatches_ident : (s.setWatches v).ident = s.ident := rfl
@[simp] theorem setWatches_req : (s.setWatches v).req = s.req := rfl
@[simp] theorem setWatches_engine : (s.setWatches v).engine = s.engine := rfl
@[simp] theorem setWatches_bus : (s.setWatches v).bus = s.bus := rfl
@[simp] theorem setWatches_watches : (s.setWatches v).watches = v := rfl
@[simp] theorem setWatches_coll : (s.setWatches v).coll = s.coll := rfl
@[simp] theorem setWatches_inputs : (s.setWatches v).inputs = s.inputs := rfl
@[simp] theorem setWatches_visit : (s.setWatches v).visit = s.visit := rfl
@[simp] theorem setWatches_duty : (s.setWatches v).duty = s.duty := rfl
@[simp] theorem setWatches_freeIdx : (s.setWatches v).freeIdx = s.freeIdx := rfl

end setWatches

section setColl

variable (s : State) (v : Coll)

@[simp] theorem setColl_pending : (s.setColl v).pending = s.pending := rfl
@[simp] theorem setColl_mem : (s.setColl v).mem = s.mem := rfl
@[simp] theorem setColl_hostData : (s.setColl v).hostData = s.hostData := rfl
@[simp] theorem setColl_power : (s.setColl v).power = s.power := rfl
@[simp] theorem setColl_settings : (s.setColl v).settings = s.settings := rfl
@[simp] theorem setColl_refused : (s.setColl v).refused = s.refused := rfl
@[simp] theorem setColl_time : (s.setColl v).time = s.time := rfl
@[simp] theorem setColl_wake : (s.setColl v).wake = s.wake := rfl
@[simp] theorem setColl_ident : (s.setColl v).ident = s.ident := rfl
@[simp] theorem setColl_req : (s.setColl v).req = s.req := rfl
@[simp] theorem setColl_engine : (s.setColl v).engine = s.engine := rfl
@[simp] theorem setColl_bus : (s.setColl v).bus = s.bus := rfl
@[simp] theorem setColl_watches : (s.setColl v).watches = s.watches := rfl
@[simp] theorem setColl_coll : (s.setColl v).coll = v := rfl
@[simp] theorem setColl_inputs : (s.setColl v).inputs = s.inputs := rfl
@[simp] theorem setColl_visit : (s.setColl v).visit = s.visit := rfl
@[simp] theorem setColl_duty : (s.setColl v).duty = s.duty := rfl
@[simp] theorem setColl_freeIdx : (s.setColl v).freeIdx = s.freeIdx := rfl

end setColl

section setInputs

variable (s : State) (v : Vector Input 16)

@[simp] theorem setInputs_pending : (s.setInputs v).pending = s.pending := rfl
@[simp] theorem setInputs_mem : (s.setInputs v).mem = s.mem := rfl
@[simp] theorem setInputs_hostData : (s.setInputs v).hostData = s.hostData := rfl
@[simp] theorem setInputs_power : (s.setInputs v).power = s.power := rfl
@[simp] theorem setInputs_settings : (s.setInputs v).settings = s.settings := rfl
@[simp] theorem setInputs_refused : (s.setInputs v).refused = s.refused := rfl
@[simp] theorem setInputs_time : (s.setInputs v).time = s.time := rfl
@[simp] theorem setInputs_wake : (s.setInputs v).wake = s.wake := rfl
@[simp] theorem setInputs_ident : (s.setInputs v).ident = s.ident := rfl
@[simp] theorem setInputs_req : (s.setInputs v).req = s.req := rfl
@[simp] theorem setInputs_engine : (s.setInputs v).engine = s.engine := rfl
@[simp] theorem setInputs_bus : (s.setInputs v).bus = s.bus := rfl
@[simp] theorem setInputs_watches : (s.setInputs v).watches = s.watches := rfl
@[simp] theorem setInputs_coll : (s.setInputs v).coll = s.coll := rfl
@[simp] theorem setInputs_inputs : (s.setInputs v).inputs = v := rfl
@[simp] theorem setInputs_visit : (s.setInputs v).visit = s.visit := rfl
@[simp] theorem setInputs_duty : (s.setInputs v).duty = s.duty := rfl
@[simp] theorem setInputs_freeIdx : (s.setInputs v).freeIdx = s.freeIdx := rfl

end setInputs

section setVisit

variable (s : State) (v : Visit)

@[simp] theorem setVisit_pending : (s.setVisit v).pending = s.pending := rfl
@[simp] theorem setVisit_mem : (s.setVisit v).mem = s.mem := rfl
@[simp] theorem setVisit_hostData : (s.setVisit v).hostData = s.hostData := rfl
@[simp] theorem setVisit_power : (s.setVisit v).power = s.power := rfl
@[simp] theorem setVisit_settings : (s.setVisit v).settings = s.settings := rfl
@[simp] theorem setVisit_refused : (s.setVisit v).refused = s.refused := rfl
@[simp] theorem setVisit_time : (s.setVisit v).time = s.time := rfl
@[simp] theorem setVisit_wake : (s.setVisit v).wake = s.wake := rfl
@[simp] theorem setVisit_ident : (s.setVisit v).ident = s.ident := rfl
@[simp] theorem setVisit_req : (s.setVisit v).req = s.req := rfl
@[simp] theorem setVisit_engine : (s.setVisit v).engine = s.engine := rfl
@[simp] theorem setVisit_bus : (s.setVisit v).bus = s.bus := rfl
@[simp] theorem setVisit_watches : (s.setVisit v).watches = s.watches := rfl
@[simp] theorem setVisit_coll : (s.setVisit v).coll = s.coll := rfl
@[simp] theorem setVisit_inputs : (s.setVisit v).inputs = s.inputs := rfl
@[simp] theorem setVisit_visit : (s.setVisit v).visit = v := rfl
@[simp] theorem setVisit_duty : (s.setVisit v).duty = s.duty := rfl
@[simp] theorem setVisit_freeIdx : (s.setVisit v).freeIdx = s.freeIdx := rfl

end setVisit

section setDuty

variable (s : State) (v : Duty)

@[simp] theorem setDuty_pending : (s.setDuty v).pending = s.pending := rfl
@[simp] theorem setDuty_mem : (s.setDuty v).mem = s.mem := rfl
@[simp] theorem setDuty_hostData : (s.setDuty v).hostData = s.hostData := rfl
@[simp] theorem setDuty_power : (s.setDuty v).power = s.power := rfl
@[simp] theorem setDuty_settings : (s.setDuty v).settings = s.settings := rfl
@[simp] theorem setDuty_refused : (s.setDuty v).refused = s.refused := rfl
@[simp] theorem setDuty_time : (s.setDuty v).time = s.time := rfl
@[simp] theorem setDuty_wake : (s.setDuty v).wake = s.wake := rfl
@[simp] theorem setDuty_ident : (s.setDuty v).ident = s.ident := rfl
@[simp] theorem setDuty_req : (s.setDuty v).req = s.req := rfl
@[simp] theorem setDuty_engine : (s.setDuty v).engine = s.engine := rfl
@[simp] theorem setDuty_bus : (s.setDuty v).bus = s.bus := rfl
@[simp] theorem setDuty_watches : (s.setDuty v).watches = s.watches := rfl
@[simp] theorem setDuty_coll : (s.setDuty v).coll = s.coll := rfl
@[simp] theorem setDuty_inputs : (s.setDuty v).inputs = s.inputs := rfl
@[simp] theorem setDuty_visit : (s.setDuty v).visit = s.visit := rfl
@[simp] theorem setDuty_duty : (s.setDuty v).duty = v := rfl
@[simp] theorem setDuty_freeIdx : (s.setDuty v).freeIdx = s.freeIdx := rfl

end setDuty

section setFreeIdx

variable (s : State) (v : Nat)

@[simp] theorem setFreeIdx_pending : (s.setFreeIdx v).pending = s.pending := rfl
@[simp] theorem setFreeIdx_mem : (s.setFreeIdx v).mem = s.mem := rfl
@[simp] theorem setFreeIdx_hostData : (s.setFreeIdx v).hostData = s.hostData := rfl
@[simp] theorem setFreeIdx_power : (s.setFreeIdx v).power = s.power := rfl
@[simp] theorem setFreeIdx_settings : (s.setFreeIdx v).settings = s.settings := rfl
@[simp] theorem setFreeIdx_refused : (s.setFreeIdx v).refused = s.refused := rfl
@[simp] theorem setFreeIdx_time : (s.setFreeIdx v).time = s.time := rfl
@[simp] theorem setFreeIdx_wake : (s.setFreeIdx v).wake = s.wake := rfl
@[simp] theorem setFreeIdx_ident : (s.setFreeIdx v).ident = s.ident := rfl
@[simp] theorem setFreeIdx_req : (s.setFreeIdx v).req = s.req := rfl
@[simp] theorem setFreeIdx_engine : (s.setFreeIdx v).engine = s.engine := rfl
@[simp] theorem setFreeIdx_bus : (s.setFreeIdx v).bus = s.bus := rfl
@[simp] theorem setFreeIdx_watches : (s.setFreeIdx v).watches = s.watches := rfl
@[simp] theorem setFreeIdx_coll : (s.setFreeIdx v).coll = s.coll := rfl
@[simp] theorem setFreeIdx_inputs : (s.setFreeIdx v).inputs = s.inputs := rfl
@[simp] theorem setFreeIdx_visit : (s.setFreeIdx v).visit = s.visit := rfl
@[simp] theorem setFreeIdx_duty : (s.setFreeIdx v).duty = s.duty := rfl
@[simp] theorem setFreeIdx_freeIdx : (s.setFreeIdx v).freeIdx = v := rfl

end setFreeIdx

section Ite

variable (p : Prop) [Decidable p] (s t : State)

@[simp] theorem ite_pending : (if p then s else t).pending = if p then s.pending else t.pending := by split <;> rfl
@[simp] theorem ite_mem : (if p then s else t).mem = if p then s.mem else t.mem := by split <;> rfl
@[simp] theorem ite_hostData : (if p then s else t).hostData = if p then s.hostData else t.hostData := by split <;> rfl
@[simp] theorem ite_power : (if p then s else t).power = if p then s.power else t.power := by split <;> rfl
@[simp] theorem ite_settings : (if p then s else t).settings = if p then s.settings else t.settings := by split <;> rfl
@[simp] theorem ite_refused : (if p then s else t).refused = if p then s.refused else t.refused := by split <;> rfl
@[simp] theorem ite_time : (if p then s else t).time = if p then s.time else t.time := by split <;> rfl
@[simp] theorem ite_wake : (if p then s else t).wake = if p then s.wake else t.wake := by split <;> rfl
@[simp] theorem ite_ident : (if p then s else t).ident = if p then s.ident else t.ident := by split <;> rfl
@[simp] theorem ite_req : (if p then s else t).req = if p then s.req else t.req := by split <;> rfl
@[simp] theorem ite_engine : (if p then s else t).engine = if p then s.engine else t.engine := by split <;> rfl
@[simp] theorem ite_bus : (if p then s else t).bus = if p then s.bus else t.bus := by split <;> rfl
@[simp] theorem ite_watches : (if p then s else t).watches = if p then s.watches else t.watches := by split <;> rfl
@[simp] theorem ite_coll : (if p then s else t).coll = if p then s.coll else t.coll := by split <;> rfl
@[simp] theorem ite_inputs : (if p then s else t).inputs = if p then s.inputs else t.inputs := by split <;> rfl
@[simp] theorem ite_visit : (if p then s else t).visit = if p then s.visit else t.visit := by split <;> rfl
@[simp] theorem ite_duty : (if p then s else t).duty = if p then s.duty else t.duty := by split <;> rfl
@[simp] theorem ite_freeIdx : (if p then s else t).freeIdx = if p then s.freeIdx else t.freeIdx := by split <;> rfl

end Ite

section Fold

variable {α : Type} (f : State → α → State) (l : List α) (s : State)

@[simp] theorem foldl_pending (h : ∀ s a, (f s a).pending = s.pending) : (l.foldl f s).pending = s.pending := by
  induction l generalizing s with
  | nil => rfl
  | cons a l ih => rw [List.foldl_cons, ih, h]

@[simp] theorem foldl_mem (h : ∀ s a, (f s a).mem = s.mem) : (l.foldl f s).mem = s.mem := by
  induction l generalizing s with
  | nil => rfl
  | cons a l ih => rw [List.foldl_cons, ih, h]

@[simp] theorem foldl_hostData (h : ∀ s a, (f s a).hostData = s.hostData) : (l.foldl f s).hostData = s.hostData := by
  induction l generalizing s with
  | nil => rfl
  | cons a l ih => rw [List.foldl_cons, ih, h]

@[simp] theorem foldl_power (h : ∀ s a, (f s a).power = s.power) : (l.foldl f s).power = s.power := by
  induction l generalizing s with
  | nil => rfl
  | cons a l ih => rw [List.foldl_cons, ih, h]

@[simp] theorem foldl_settings (h : ∀ s a, (f s a).settings = s.settings) : (l.foldl f s).settings = s.settings := by
  induction l generalizing s with
  | nil => rfl
  | cons a l ih => rw [List.foldl_cons, ih, h]

@[simp] theorem foldl_refused (h : ∀ s a, (f s a).refused = s.refused) : (l.foldl f s).refused = s.refused := by
  induction l generalizing s with
  | nil => rfl
  | cons a l ih => rw [List.foldl_cons, ih, h]

@[simp] theorem foldl_time (h : ∀ s a, (f s a).time = s.time) : (l.foldl f s).time = s.time := by
  induction l generalizing s with
  | nil => rfl
  | cons a l ih => rw [List.foldl_cons, ih, h]

@[simp] theorem foldl_wake (h : ∀ s a, (f s a).wake = s.wake) : (l.foldl f s).wake = s.wake := by
  induction l generalizing s with
  | nil => rfl
  | cons a l ih => rw [List.foldl_cons, ih, h]

@[simp] theorem foldl_ident (h : ∀ s a, (f s a).ident = s.ident) : (l.foldl f s).ident = s.ident := by
  induction l generalizing s with
  | nil => rfl
  | cons a l ih => rw [List.foldl_cons, ih, h]

@[simp] theorem foldl_req (h : ∀ s a, (f s a).req = s.req) : (l.foldl f s).req = s.req := by
  induction l generalizing s with
  | nil => rfl
  | cons a l ih => rw [List.foldl_cons, ih, h]

@[simp] theorem foldl_engine (h : ∀ s a, (f s a).engine = s.engine) : (l.foldl f s).engine = s.engine := by
  induction l generalizing s with
  | nil => rfl
  | cons a l ih => rw [List.foldl_cons, ih, h]

@[simp] theorem foldl_bus (h : ∀ s a, (f s a).bus = s.bus) : (l.foldl f s).bus = s.bus := by
  induction l generalizing s with
  | nil => rfl
  | cons a l ih => rw [List.foldl_cons, ih, h]

@[simp] theorem foldl_watches (h : ∀ s a, (f s a).watches = s.watches) : (l.foldl f s).watches = s.watches := by
  induction l generalizing s with
  | nil => rfl
  | cons a l ih => rw [List.foldl_cons, ih, h]

@[simp] theorem foldl_coll (h : ∀ s a, (f s a).coll = s.coll) : (l.foldl f s).coll = s.coll := by
  induction l generalizing s with
  | nil => rfl
  | cons a l ih => rw [List.foldl_cons, ih, h]

@[simp] theorem foldl_inputs (h : ∀ s a, (f s a).inputs = s.inputs) : (l.foldl f s).inputs = s.inputs := by
  induction l generalizing s with
  | nil => rfl
  | cons a l ih => rw [List.foldl_cons, ih, h]

@[simp] theorem foldl_visit (h : ∀ s a, (f s a).visit = s.visit) : (l.foldl f s).visit = s.visit := by
  induction l generalizing s with
  | nil => rfl
  | cons a l ih => rw [List.foldl_cons, ih, h]

@[simp] theorem foldl_duty (h : ∀ s a, (f s a).duty = s.duty) : (l.foldl f s).duty = s.duty := by
  induction l generalizing s with
  | nil => rfl
  | cons a l ih => rw [List.foldl_cons, ih, h]

@[simp] theorem foldl_freeIdx (h : ∀ s a, (f s a).freeIdx = s.freeIdx) : (l.foldl f s).freeIdx = s.freeIdx := by
  induction l generalizing s with
  | nil => rfl
  | cons a l ih => rw [List.foldl_cons, ih, h]

end Fold

end Sys2Proof.Machine.State
end

