-- ==== Sys2Proof/Laws/FrameOps.lean ====
section
/-! SUPPORT. What the operations of the named operations and the Wake Unit leave unchanged: one lemma per operation. -/

namespace Sys2Proof.Machine.State

variable (s : State)

@[simp] theorem poke_frame (a : Nat) (v : Word) :
    (s.poke a v).pending = s.pending ∧ (s.poke a v).hostData = s.hostData ∧ (s.poke a v).power = s.power ∧
    (s.poke a v).settings = s.settings ∧ (s.poke a v).refused = s.refused ∧ (s.poke a v).time = s.time ∧
    (s.poke a v).wake = s.wake ∧ (s.poke a v).ident = s.ident ∧ (s.poke a v).req = s.req ∧
    (s.poke a v).engine = s.engine ∧ (s.poke a v).bus = s.bus ∧ (s.poke a v).watches = s.watches ∧
    (s.poke a v).coll = s.coll ∧ (s.poke a v).inputs = s.inputs ∧ (s.poke a v).visit = s.visit ∧
    (s.poke a v).duty = s.duty ∧ (s.poke a v).freeIdx = s.freeIdx := by
  simp [State.poke]

@[simp] theorem pokes_frame (a : Nat) (vs : List Word) :
    (s.pokes a vs).pending = s.pending ∧ (s.pokes a vs).hostData = s.hostData ∧ (s.pokes a vs).power = s.power ∧
    (s.pokes a vs).settings = s.settings ∧ (s.pokes a vs).refused = s.refused ∧ (s.pokes a vs).time = s.time ∧
    (s.pokes a vs).wake = s.wake ∧ (s.pokes a vs).ident = s.ident ∧ (s.pokes a vs).req = s.req ∧
    (s.pokes a vs).engine = s.engine ∧ (s.pokes a vs).bus = s.bus ∧ (s.pokes a vs).watches = s.watches ∧
    (s.pokes a vs).coll = s.coll ∧ (s.pokes a vs).inputs = s.inputs ∧ (s.pokes a vs).visit = s.visit ∧
    (s.pokes a vs).duty = s.duty ∧ (s.pokes a vs).freeIdx = s.freeIdx := by
  simp [State.pokes]

@[simp] theorem pokeIf_frame (a : Nat) (o n : Word) :
    (s.pokeIf a o n).pending = s.pending ∧ (s.pokeIf a o n).hostData = s.hostData ∧
    (s.pokeIf a o n).power = s.power ∧ (s.pokeIf a o n).settings = s.settings ∧
    (s.pokeIf a o n).refused = s.refused ∧ (s.pokeIf a o n).time = s.time ∧ (s.pokeIf a o n).wake = s.wake ∧
    (s.pokeIf a o n).ident = s.ident ∧ (s.pokeIf a o n).req = s.req ∧ (s.pokeIf a o n).engine = s.engine ∧
    (s.pokeIf a o n).bus = s.bus ∧ (s.pokeIf a o n).watches = s.watches ∧ (s.pokeIf a o n).coll = s.coll ∧
    (s.pokeIf a o n).inputs = s.inputs ∧ (s.pokeIf a o n).visit = s.visit ∧ (s.pokeIf a o n).duty = s.duty ∧
    (s.pokeIf a o n).freeIdx = s.freeIdx := by
  unfold State.pokeIf; (repeat' split) <;> simp

@[simp] theorem pokeChanged_frame (a : Nat) (os ns : List Word) :
    (s.pokeChanged a os ns).pending = s.pending ∧ (s.pokeChanged a os ns).hostData = s.hostData ∧
    (s.pokeChanged a os ns).power = s.power ∧ (s.pokeChanged a os ns).settings = s.settings ∧
    (s.pokeChanged a os ns).refused = s.refused ∧ (s.pokeChanged a os ns).time = s.time ∧
    (s.pokeChanged a os ns).wake = s.wake ∧ (s.pokeChanged a os ns).ident = s.ident ∧
    (s.pokeChanged a os ns).req = s.req ∧ (s.pokeChanged a os ns).engine = s.engine ∧
    (s.pokeChanged a os ns).bus = s.bus ∧ (s.pokeChanged a os ns).watches = s.watches ∧
    (s.pokeChanged a os ns).coll = s.coll ∧ (s.pokeChanged a os ns).inputs = s.inputs ∧
    (s.pokeChanged a os ns).visit = s.visit ∧ (s.pokeChanged a os ns).duty = s.duty ∧
    (s.pokeChanged a os ns).freeIdx = s.freeIdx := by
  induction os generalizing s a ns with
  | nil => simp [pokeChanged]
  | cons x xs ih => cases ns <;> simp [pokeChanged, ih]

@[simp] theorem elapse_frame (n : Nat) :
    (s.elapse n).pending = s.pending ∧ (s.elapse n).mem = s.mem ∧ (s.elapse n).hostData = s.hostData ∧
    (s.elapse n).power = s.power ∧ (s.elapse n).settings = s.settings ∧ (s.elapse n).refused = s.refused ∧
    (s.elapse n).wake = s.wake ∧ (s.elapse n).ident = s.ident ∧ (s.elapse n).req = s.req ∧
    (s.elapse n).engine = s.engine ∧ (s.elapse n).bus = s.bus ∧ (s.elapse n).watches = s.watches ∧
    (s.elapse n).coll = s.coll ∧ (s.elapse n).inputs = s.inputs ∧ (s.elapse n).visit = s.visit ∧
    (s.elapse n).duty = s.duty ∧ (s.elapse n).freeIdx = s.freeIdx := by
  simp [State.elapse]

@[simp] theorem show40_frame :
    (s.show40).pending = s.pending ∧ (s.show40).hostData = s.hostData ∧ (s.show40).power = s.power ∧
    (s.show40).settings = s.settings ∧ (s.show40).refused = s.refused ∧ (s.show40).time = s.time ∧
    (s.show40).wake = s.wake ∧ (s.show40).ident = s.ident ∧ (s.show40).req = s.req ∧ (s.show40).engine = s.engine ∧
    (s.show40).bus = s.bus ∧ (s.show40).watches = s.watches ∧ (s.show40).coll = s.coll ∧
    (s.show40).inputs = s.inputs ∧ (s.show40).visit = s.visit ∧ (s.show40).duty = s.duty ∧
    (s.show40).freeIdx = s.freeIdx := by
  simp [State.show40]

@[simp] theorem showTimestamp_frame :
    (s.showTimestamp).pending = s.pending ∧ (s.showTimestamp).hostData = s.hostData ∧
    (s.showTimestamp).power = s.power ∧ (s.showTimestamp).settings = s.settings ∧
    (s.showTimestamp).refused = s.refused ∧ (s.showTimestamp).time = s.time ∧ (s.showTimestamp).wake = s.wake ∧
    (s.showTimestamp).ident = s.ident ∧ (s.showTimestamp).req = s.req ∧ (s.showTimestamp).engine = s.engine ∧
    (s.showTimestamp).bus = s.bus ∧ (s.showTimestamp).watches = s.watches ∧ (s.showTimestamp).coll = s.coll ∧
    (s.showTimestamp).inputs = s.inputs ∧ (s.showTimestamp).visit = s.visit ∧ (s.showTimestamp).duty = s.duty ∧
    (s.showTimestamp).freeIdx = s.freeIdx := by
  simp [State.showTimestamp]

@[simp] theorem showWrapCount_frame :
    (s.showWrapCount).pending = s.pending ∧ (s.showWrapCount).hostData = s.hostData ∧
    (s.showWrapCount).power = s.power ∧ (s.showWrapCount).settings = s.settings ∧
    (s.showWrapCount).refused = s.refused ∧ (s.showWrapCount).time = s.time ∧ (s.showWrapCount).wake = s.wake ∧
    (s.showWrapCount).ident = s.ident ∧ (s.showWrapCount).req = s.req ∧ (s.showWrapCount).engine = s.engine ∧
    (s.showWrapCount).bus = s.bus ∧ (s.showWrapCount).watches = s.watches ∧ (s.showWrapCount).coll = s.coll ∧
    (s.showWrapCount).inputs = s.inputs ∧ (s.showWrapCount).visit = s.visit ∧ (s.showWrapCount).duty = s.duty ∧
    (s.showWrapCount).freeIdx = s.freeIdx := by
  simp [State.showWrapCount]

@[simp] theorem showSweepCount_frame :
    (s.showSweepCount).pending = s.pending ∧ (s.showSweepCount).hostData = s.hostData ∧
    (s.showSweepCount).power = s.power ∧ (s.showSweepCount).settings = s.settings ∧
    (s.showSweepCount).refused = s.refused ∧ (s.showSweepCount).time = s.time ∧ (s.showSweepCount).wake = s.wake ∧
    (s.showSweepCount).ident = s.ident ∧ (s.showSweepCount).req = s.req ∧ (s.showSweepCount).engine = s.engine ∧
    (s.showSweepCount).bus = s.bus ∧ (s.showSweepCount).watches = s.watches ∧ (s.showSweepCount).coll = s.coll ∧
    (s.showSweepCount).inputs = s.inputs ∧ (s.showSweepCount).visit = s.visit ∧ (s.showSweepCount).duty = s.duty ∧
    (s.showSweepCount).freeIdx = s.freeIdx := by
  simp [State.showSweepCount]

@[simp] theorem showCompleted_frame :
    (s.showCompleted).pending = s.pending ∧ (s.showCompleted).hostData = s.hostData ∧
    (s.showCompleted).power = s.power ∧ (s.showCompleted).settings = s.settings ∧
    (s.showCompleted).refused = s.refused ∧ (s.showCompleted).time = s.time ∧ (s.showCompleted).wake = s.wake ∧
    (s.showCompleted).ident = s.ident ∧ (s.showCompleted).req = s.req ∧ (s.showCompleted).engine = s.engine ∧
    (s.showCompleted).bus = s.bus ∧ (s.showCompleted).watches = s.watches ∧ (s.showCompleted).coll = s.coll ∧
    (s.showCompleted).inputs = s.inputs ∧ (s.showCompleted).visit = s.visit ∧ (s.showCompleted).duty = s.duty ∧
    (s.showCompleted).freeIdx = s.freeIdx := by
  simp [State.showCompleted]

@[simp] theorem showFilling_frame :
    (s.showFilling).pending = s.pending ∧ (s.showFilling).hostData = s.hostData ∧
    (s.showFilling).power = s.power ∧ (s.showFilling).settings = s.settings ∧
    (s.showFilling).refused = s.refused ∧ (s.showFilling).time = s.time ∧ (s.showFilling).wake = s.wake ∧
    (s.showFilling).ident = s.ident ∧ (s.showFilling).req = s.req ∧ (s.showFilling).engine = s.engine ∧
    (s.showFilling).bus = s.bus ∧ (s.showFilling).watches = s.watches ∧ (s.showFilling).coll = s.coll ∧
    (s.showFilling).inputs = s.inputs ∧ (s.showFilling).visit = s.visit ∧ (s.showFilling).duty = s.duty ∧
    (s.showFilling).freeIdx = s.freeIdx := by
  simp [State.showFilling]

@[simp] theorem showRunning_frame :
    (s.showRunning).pending = s.pending ∧ (s.showRunning).hostData = s.hostData ∧ (s.showRunning).power = s.power ∧
    (s.showRunning).settings = s.settings ∧ (s.showRunning).refused = s.refused ∧ (s.showRunning).time = s.time ∧
    (s.showRunning).wake = s.wake ∧ (s.showRunning).ident = s.ident ∧ (s.showRunning).req = s.req ∧
    (s.showRunning).engine = s.engine ∧ (s.showRunning).bus = s.bus ∧ (s.showRunning).watches = s.watches ∧
    (s.showRunning).coll = s.coll ∧ (s.showRunning).inputs = s.inputs ∧ (s.showRunning).visit = s.visit ∧
    (s.showRunning).duty = s.duty ∧ (s.showRunning).freeIdx = s.freeIdx := by
  simp [State.showRunning]

@[simp] theorem showQueue_frame :
    (s.showQueue).pending = s.pending ∧ (s.showQueue).hostData = s.hostData ∧ (s.showQueue).power = s.power ∧
    (s.showQueue).settings = s.settings ∧ (s.showQueue).refused = s.refused ∧ (s.showQueue).time = s.time ∧
    (s.showQueue).wake = s.wake ∧ (s.showQueue).ident = s.ident ∧ (s.showQueue).req = s.req ∧
    (s.showQueue).engine = s.engine ∧ (s.showQueue).bus = s.bus ∧ (s.showQueue).watches = s.watches ∧
    (s.showQueue).coll = s.coll ∧ (s.showQueue).inputs = s.inputs ∧ (s.showQueue).visit = s.visit ∧
    (s.showQueue).duty = s.duty ∧ (s.showQueue).freeIdx = s.freeIdx := by
  simp [State.showQueue]

@[simp] theorem showIdent_frame :
    (s.showIdent).pending = s.pending ∧ (s.showIdent).hostData = s.hostData ∧ (s.showIdent).power = s.power ∧
    (s.showIdent).settings = s.settings ∧ (s.showIdent).refused = s.refused ∧ (s.showIdent).time = s.time ∧
    (s.showIdent).wake = s.wake ∧ (s.showIdent).ident = s.ident ∧ (s.showIdent).req = s.req ∧
    (s.showIdent).engine = s.engine ∧ (s.showIdent).bus = s.bus ∧ (s.showIdent).watches = s.watches ∧
    (s.showIdent).coll = s.coll ∧ (s.showIdent).inputs = s.inputs ∧ (s.showIdent).visit = s.visit ∧
    (s.showIdent).duty = s.duty ∧ (s.showIdent).freeIdx = s.freeIdx := by
  simp [State.showIdent]

@[simp] theorem showStation_frame (i : Fin 30) :
    (s.showStation i).pending = s.pending ∧ (s.showStation i).hostData = s.hostData ∧
    (s.showStation i).power = s.power ∧ (s.showStation i).settings = s.settings ∧
    (s.showStation i).refused = s.refused ∧ (s.showStation i).time = s.time ∧ (s.showStation i).wake = s.wake ∧
    (s.showStation i).ident = s.ident ∧ (s.showStation i).req = s.req ∧ (s.showStation i).engine = s.engine ∧
    (s.showStation i).bus = s.bus ∧ (s.showStation i).watches = s.watches ∧ (s.showStation i).coll = s.coll ∧
    (s.showStation i).inputs = s.inputs ∧ (s.showStation i).visit = s.visit ∧ (s.showStation i).duty = s.duty ∧
    (s.showStation i).freeIdx = s.freeIdx := by
  simp [State.showStation]

@[simp] theorem showColl_frame (c : Coll) :
    (s.showColl c).pending = s.pending ∧ (s.showColl c).hostData = s.hostData ∧ (s.showColl c).power = s.power ∧
    (s.showColl c).settings = s.settings ∧ (s.showColl c).refused = s.refused ∧ (s.showColl c).time = s.time ∧
    (s.showColl c).wake = s.wake ∧ (s.showColl c).ident = s.ident ∧ (s.showColl c).req = s.req ∧
    (s.showColl c).engine = s.engine ∧ (s.showColl c).bus = s.bus ∧ (s.showColl c).watches = s.watches ∧
    (s.showColl c).coll = s.coll ∧ (s.showColl c).inputs = s.inputs ∧ (s.showColl c).visit = s.visit ∧
    (s.showColl c).duty = s.duty ∧ (s.showColl c).freeIdx = s.freeIdx := by
  simp [State.showColl]

@[simp] theorem writeColl_frame :
    (s.writeColl).pending = s.pending ∧ (s.writeColl).hostData = s.hostData ∧ (s.writeColl).power = s.power ∧
    (s.writeColl).settings = s.settings ∧ (s.writeColl).refused = s.refused ∧ (s.writeColl).time = s.time ∧
    (s.writeColl).wake = s.wake ∧ (s.writeColl).ident = s.ident ∧ (s.writeColl).req = s.req ∧
    (s.writeColl).engine = s.engine ∧ (s.writeColl).bus = s.bus ∧ (s.writeColl).watches = s.watches ∧
    (s.writeColl).coll = s.coll ∧ (s.writeColl).inputs = s.inputs ∧ (s.writeColl).visit = s.visit ∧
    (s.writeColl).duty = s.duty ∧ (s.writeColl).freeIdx = s.freeIdx := by
  simp [State.writeColl]

@[simp] theorem reshow40_frame (u : State) :
    (s.reshow40 u).pending = s.pending ∧ (s.reshow40 u).hostData = s.hostData ∧ (s.reshow40 u).power = s.power ∧
    (s.reshow40 u).settings = s.settings ∧ (s.reshow40 u).refused = s.refused ∧ (s.reshow40 u).time = s.time ∧
    (s.reshow40 u).wake = s.wake ∧ (s.reshow40 u).ident = s.ident ∧ (s.reshow40 u).req = s.req ∧
    (s.reshow40 u).engine = s.engine ∧ (s.reshow40 u).bus = s.bus ∧ (s.reshow40 u).watches = s.watches ∧
    (s.reshow40 u).coll = s.coll ∧ (s.reshow40 u).inputs = s.inputs ∧ (s.reshow40 u).visit = s.visit ∧
    (s.reshow40 u).duty = s.duty ∧ (s.reshow40 u).freeIdx = s.freeIdx := by
  unfold State.reshow40; (repeat' split) <;> simp

@[simp] theorem setChannel_frame (c : Fin 4) (ch : Channel) :
    (s.setChannel c ch).pending = s.pending ∧ (s.setChannel c ch).hostData = s.hostData ∧
    (s.setChannel c ch).power = s.power ∧ (s.setChannel c ch).settings = s.settings ∧
    (s.setChannel c ch).refused = s.refused ∧ (s.setChannel c ch).time = s.time ∧
    (s.setChannel c ch).wake = s.wake ∧ (s.setChannel c ch).ident = s.ident ∧ (s.setChannel c ch).req = s.req ∧
    (s.setChannel c ch).engine = s.engine ∧ (s.setChannel c ch).bus = s.bus ∧
    (s.setChannel c ch).watches = s.watches ∧ (s.setChannel c ch).coll = s.coll ∧
    (s.setChannel c ch).inputs = s.inputs ∧ (s.setChannel c ch).visit = s.visit ∧
    (s.setChannel c ch).freeIdx = s.freeIdx := by
  simp [State.setChannel]

@[simp] theorem setMode_frame (m : EngineMode) :
    (s.setMode m).pending = s.pending ∧ (s.setMode m).hostData = s.hostData ∧ (s.setMode m).power = s.power ∧
    (s.setMode m).settings = s.settings ∧ (s.setMode m).refused = s.refused ∧ (s.setMode m).time = s.time ∧
    (s.setMode m).wake = s.wake ∧ (s.setMode m).ident = s.ident ∧ (s.setMode m).req = s.req ∧
    (s.setMode m).bus = s.bus ∧ (s.setMode m).watches = s.watches ∧ (s.setMode m).coll = s.coll ∧
    (s.setMode m).inputs = s.inputs ∧ (s.setMode m).visit = s.visit ∧ (s.setMode m).duty = s.duty ∧
    (s.setMode m).freeIdx = s.freeIdx := by
  simp [State.setMode]

@[simp] theorem setQueue_frame (q : List QEntry) :
    (s.setQueue q).pending = s.pending ∧ (s.setQueue q).hostData = s.hostData ∧ (s.setQueue q).power = s.power ∧
    (s.setQueue q).settings = s.settings ∧ (s.setQueue q).refused = s.refused ∧ (s.setQueue q).time = s.time ∧
    (s.setQueue q).wake = s.wake ∧ (s.setQueue q).ident = s.ident ∧ (s.setQueue q).req = s.req ∧
    (s.setQueue q).bus = s.bus ∧ (s.setQueue q).watches = s.watches ∧ (s.setQueue q).coll = s.coll ∧
    (s.setQueue q).inputs = s.inputs ∧ (s.setQueue q).visit = s.visit ∧ (s.setQueue q).duty = s.duty ∧
    (s.setQueue q).freeIdx = s.freeIdx := by
  simp [State.setQueue]

@[simp] theorem setCtx_frame (c : Option Ctx) :
    (s.setCtx c).pending = s.pending ∧ (s.setCtx c).mem = s.mem ∧ (s.setCtx c).hostData = s.hostData ∧
    (s.setCtx c).power = s.power ∧ (s.setCtx c).settings = s.settings ∧ (s.setCtx c).refused = s.refused ∧
    (s.setCtx c).time = s.time ∧ (s.setCtx c).wake = s.wake ∧ (s.setCtx c).ident = s.ident ∧
    (s.setCtx c).req = s.req ∧ (s.setCtx c).bus = s.bus ∧ (s.setCtx c).watches = s.watches ∧
    (s.setCtx c).coll = s.coll ∧ (s.setCtx c).inputs = s.inputs ∧ (s.setCtx c).visit = s.visit ∧
    (s.setCtx c).duty = s.duty ∧ (s.setCtx c).freeIdx = s.freeIdx := by
  simp [State.setCtx]

@[simp] theorem setCtl_frame (c : BusCtl) :
    (s.setCtl c).pending = s.pending ∧ (s.setCtl c).hostData = s.hostData ∧ (s.setCtl c).power = s.power ∧
    (s.setCtl c).settings = s.settings ∧ (s.setCtl c).refused = s.refused ∧ (s.setCtl c).time = s.time ∧
    (s.setCtl c).wake = s.wake ∧ (s.setCtl c).ident = s.ident ∧ (s.setCtl c).req = s.req ∧
    (s.setCtl c).engine = s.engine ∧ (s.setCtl c).watches = s.watches ∧ (s.setCtl c).coll = s.coll ∧
    (s.setCtl c).inputs = s.inputs ∧ (s.setCtl c).visit = s.visit ∧ (s.setCtl c).duty = s.duty ∧
    (s.setCtl c).freeIdx = s.freeIdx := by
  simp [State.setCtl]

@[simp] theorem setStation_frame (i : Fin 30) (t : Station) :
    (s.setStation i t).pending = s.pending ∧ (s.setStation i t).hostData = s.hostData ∧
    (s.setStation i t).power = s.power ∧ (s.setStation i t).settings = s.settings ∧
    (s.setStation i t).refused = s.refused ∧ (s.setStation i t).time = s.time ∧ (s.setStation i t).wake = s.wake ∧
    (s.setStation i t).ident = s.ident ∧ (s.setStation i t).req = s.req ∧ (s.setStation i t).engine = s.engine ∧
    (s.setStation i t).watches = s.watches ∧ (s.setStation i t).coll = s.coll ∧
    (s.setStation i t).inputs = s.inputs ∧ (s.setStation i t).visit = s.visit ∧ (s.setStation i t).duty = s.duty ∧
    (s.setStation i t).freeIdx = s.freeIdx := by
  simp [State.setStation]

@[simp] theorem setCounts_frame (c : BusCounts) :
    (s.setCounts c).pending = s.pending ∧ (s.setCounts c).hostData = s.hostData ∧ (s.setCounts c).power = s.power ∧
    (s.setCounts c).settings = s.settings ∧ (s.setCounts c).refused = s.refused ∧ (s.setCounts c).time = s.time ∧
    (s.setCounts c).wake = s.wake ∧ (s.setCounts c).ident = s.ident ∧ (s.setCounts c).req = s.req ∧
    (s.setCounts c).engine = s.engine ∧ (s.setCounts c).watches = s.watches ∧ (s.setCounts c).coll = s.coll ∧
    (s.setCounts c).inputs = s.inputs ∧ (s.setCounts c).visit = s.visit ∧ (s.setCounts c).duty = s.duty ∧
    (s.setCounts c).freeIdx = s.freeIdx := by
  simp [State.setCounts]

@[simp] theorem setVisitState_frame (v : Visit) :
    (s.setVisitState v).pending = s.pending ∧ (s.setVisitState v).hostData = s.hostData ∧
    (s.setVisitState v).power = s.power ∧ (s.setVisitState v).settings = s.settings ∧
    (s.setVisitState v).refused = s.refused ∧ (s.setVisitState v).time = s.time ∧
    (s.setVisitState v).wake = s.wake ∧ (s.setVisitState v).ident = s.ident ∧ (s.setVisitState v).req = s.req ∧
    (s.setVisitState v).engine = s.engine ∧ (s.setVisitState v).bus = s.bus ∧
    (s.setVisitState v).watches = s.watches ∧ (s.setVisitState v).coll = s.coll ∧
    (s.setVisitState v).inputs = s.inputs ∧ (s.setVisitState v).duty = s.duty ∧
    (s.setVisitState v).freeIdx = s.freeIdx := by
  simp [State.setVisitState]

@[simp] theorem setWatchAt_frame (n : Fin 64) (w : Watch) :
    (s.setWatchAt n w).pending = s.pending ∧ (s.setWatchAt n w).mem = s.mem ∧
    (s.setWatchAt n w).hostData = s.hostData ∧ (s.setWatchAt n w).power = s.power ∧
    (s.setWatchAt n w).settings = s.settings ∧ (s.setWatchAt n w).refused = s.refused ∧
    (s.setWatchAt n w).time = s.time ∧ (s.setWatchAt n w).wake = s.wake ∧ (s.setWatchAt n w).ident = s.ident ∧
    (s.setWatchAt n w).req = s.req ∧ (s.setWatchAt n w).engine = s.engine ∧ (s.setWatchAt n w).bus = s.bus ∧
    (s.setWatchAt n w).coll = s.coll ∧ (s.setWatchAt n w).inputs = s.inputs ∧ (s.setWatchAt n w).visit = s.visit ∧
    (s.setWatchAt n w).duty = s.duty ∧ (s.setWatchAt n w).freeIdx = s.freeIdx := by
  simp [State.setWatchAt]

@[simp] theorem setInputAt_frame (i : Fin 16) (x : Input) :
    (s.setInputAt i x).pending = s.pending ∧ (s.setInputAt i x).mem = s.mem ∧
    (s.setInputAt i x).hostData = s.hostData ∧ (s.setInputAt i x).power = s.power ∧
    (s.setInputAt i x).settings = s.settings ∧ (s.setInputAt i x).refused = s.refused ∧
    (s.setInputAt i x).time = s.time ∧ (s.setInputAt i x).wake = s.wake ∧ (s.setInputAt i x).ident = s.ident ∧
    (s.setInputAt i x).req = s.req ∧ (s.setInputAt i x).engine = s.engine ∧ (s.setInputAt i x).bus = s.bus ∧
    (s.setInputAt i x).watches = s.watches ∧ (s.setInputAt i x).coll = s.coll ∧ (s.setInputAt i x).visit = s.visit ∧
    (s.setInputAt i x).duty = s.duty ∧ (s.setInputAt i x).freeIdx = s.freeIdx := by
  simp [State.setInputAt]

@[simp] theorem drawFree_frame :
    (s.drawFree).pending = s.pending ∧ (s.drawFree).mem = s.mem ∧ (s.drawFree).hostData = s.hostData ∧
    (s.drawFree).power = s.power ∧ (s.drawFree).settings = s.settings ∧ (s.drawFree).refused = s.refused ∧
    (s.drawFree).time = s.time ∧ (s.drawFree).wake = s.wake ∧ (s.drawFree).ident = s.ident ∧
    (s.drawFree).req = s.req ∧ (s.drawFree).engine = s.engine ∧ (s.drawFree).bus = s.bus ∧
    (s.drawFree).watches = s.watches ∧ (s.drawFree).coll = s.coll ∧ (s.drawFree).inputs = s.inputs ∧
    (s.drawFree).visit = s.visit ∧ (s.drawFree).duty = s.duty := by
  simp [State.drawFree]

@[simp] theorem judge_frame :
    (s.judge).pending = s.pending ∧ (s.judge).mem = s.mem ∧ (s.judge).hostData = s.hostData ∧
    (s.judge).power = s.power ∧ (s.judge).settings = s.settings ∧ (s.judge).refused = s.refused ∧
    (s.judge).time = s.time ∧ (s.judge).ident = s.ident ∧ (s.judge).req = s.req ∧ (s.judge).engine = s.engine ∧
    (s.judge).bus = s.bus ∧ (s.judge).watches = s.watches ∧ (s.judge).coll = s.coll ∧ (s.judge).inputs = s.inputs ∧
    (s.judge).visit = s.visit ∧ (s.judge).duty = s.duty ∧ (s.judge).freeIdx = s.freeIdx := by
  simp [State.judge]

@[simp] theorem raiseCause_frame (c : WakeCause) :
    (s.raiseCause c).pending = s.pending ∧ (s.raiseCause c).mem = s.mem ∧ (s.raiseCause c).hostData = s.hostData ∧
    (s.raiseCause c).power = s.power ∧ (s.raiseCause c).settings = s.settings ∧
    (s.raiseCause c).refused = s.refused ∧ (s.raiseCause c).time = s.time ∧ (s.raiseCause c).ident = s.ident ∧
    (s.raiseCause c).req = s.req ∧ (s.raiseCause c).engine = s.engine ∧ (s.raiseCause c).bus = s.bus ∧
    (s.raiseCause c).watches = s.watches ∧ (s.raiseCause c).coll = s.coll ∧ (s.raiseCause c).inputs = s.inputs ∧
    (s.raiseCause c).visit = s.visit ∧ (s.raiseCause c).duty = s.duty ∧ (s.raiseCause c).freeIdx = s.freeIdx := by
  simp [State.raiseCause]

@[simp] theorem clearCauses_frame (v : BitVec 11) :
    (s.clearCauses v).pending = s.pending ∧ (s.clearCauses v).mem = s.mem ∧
    (s.clearCauses v).hostData = s.hostData ∧ (s.clearCauses v).power = s.power ∧
    (s.clearCauses v).settings = s.settings ∧ (s.clearCauses v).refused = s.refused ∧
    (s.clearCauses v).time = s.time ∧ (s.clearCauses v).ident = s.ident ∧ (s.clearCauses v).req = s.req ∧
    (s.clearCauses v).engine = s.engine ∧ (s.clearCauses v).bus = s.bus ∧ (s.clearCauses v).watches = s.watches ∧
    (s.clearCauses v).coll = s.coll ∧ (s.clearCauses v).inputs = s.inputs ∧ (s.clearCauses v).visit = s.visit ∧
    (s.clearCauses v).duty = s.duty ∧ (s.clearCauses v).freeIdx = s.freeIdx := by
  simp [State.clearCauses]

end Sys2Proof.Machine.State
end

