-- ==== Sys2Proof/Laws/FrameCollection.lean ====
section
/-! SUPPORT. What the operations of the Collection Unit leave unchanged: one lemma per operation. -/

namespace Sys2Proof.Machine.State

variable (s : State)

@[simp] theorem putRecord_frame (i : Fin 16) (r : Record) :
    (s.putRecord i r).pending = s.pending ∧ (s.putRecord i r).hostData = s.hostData ∧
    (s.putRecord i r).power = s.power ∧ (s.putRecord i r).settings = s.settings ∧
    (s.putRecord i r).refused = s.refused ∧ (s.putRecord i r).time = s.time ∧ (s.putRecord i r).wake = s.wake ∧
    (s.putRecord i r).ident = s.ident ∧ (s.putRecord i r).req = s.req ∧ (s.putRecord i r).engine = s.engine ∧
    (s.putRecord i r).bus = s.bus ∧ (s.putRecord i r).watches = s.watches ∧ (s.putRecord i r).inputs = s.inputs ∧
    (s.putRecord i r).visit = s.visit ∧ (s.putRecord i r).duty = s.duty ∧
    (s.putRecord i r).freeIdx = s.freeIdx := by
  simp [State.putRecord]

@[simp] theorem openNext_frame :
    (s.openNext).pending = s.pending ∧ (s.openNext).hostData = s.hostData ∧ (s.openNext).power = s.power ∧
    (s.openNext).settings = s.settings ∧ (s.openNext).refused = s.refused ∧ (s.openNext).time = s.time ∧
    (s.openNext).wake = s.wake ∧ (s.openNext).ident = s.ident ∧ (s.openNext).req = s.req ∧
    (s.openNext).engine = s.engine ∧ (s.openNext).bus = s.bus ∧ (s.openNext).watches = s.watches ∧
    (s.openNext).inputs = s.inputs ∧ (s.openNext).visit = s.visit ∧ (s.openNext).duty = s.duty ∧
    (s.openNext).freeIdx = s.freeIdx := by
  simp [State.openNext]

@[simp] theorem accountLoss_frame (i : Fin 16) :
    (s.accountLoss i).pending = s.pending ∧ (s.accountLoss i).hostData = s.hostData ∧
    (s.accountLoss i).power = s.power ∧ (s.accountLoss i).settings = s.settings ∧
    (s.accountLoss i).refused = s.refused ∧ (s.accountLoss i).time = s.time ∧ (s.accountLoss i).wake = s.wake ∧
    (s.accountLoss i).ident = s.ident ∧ (s.accountLoss i).req = s.req ∧ (s.accountLoss i).engine = s.engine ∧
    (s.accountLoss i).bus = s.bus ∧ (s.accountLoss i).watches = s.watches ∧ (s.accountLoss i).inputs = s.inputs ∧
    (s.accountLoss i).visit = s.visit ∧ (s.accountLoss i).duty = s.duty ∧
    (s.accountLoss i).freeIdx = s.freeIdx := by
  unfold State.accountLoss; (repeat' split) <;> simp

@[simp] theorem dropRecord_frame :
    (s.dropRecord).pending = s.pending ∧ (s.dropRecord).mem = s.mem ∧ (s.dropRecord).hostData = s.hostData ∧
    (s.dropRecord).power = s.power ∧ (s.dropRecord).settings = s.settings ∧ (s.dropRecord).refused = s.refused ∧
    (s.dropRecord).time = s.time ∧ (s.dropRecord).ident = s.ident ∧ (s.dropRecord).req = s.req ∧
    (s.dropRecord).engine = s.engine ∧ (s.dropRecord).bus = s.bus ∧ (s.dropRecord).watches = s.watches ∧
    (s.dropRecord).inputs = s.inputs ∧ (s.dropRecord).visit = s.visit ∧ (s.dropRecord).duty = s.duty ∧
    (s.dropRecord).freeIdx = s.freeIdx := by
  simp only [State.dropRecord]; (repeat' split) <;> simp

@[simp] theorem tryNext_frame (r : Record) :
    (s.tryNext r).pending = s.pending ∧ (s.tryNext r).hostData = s.hostData ∧ (s.tryNext r).power = s.power ∧
    (s.tryNext r).settings = s.settings ∧ (s.tryNext r).refused = s.refused ∧ (s.tryNext r).time = s.time ∧
    (s.tryNext r).ident = s.ident ∧ (s.tryNext r).req = s.req ∧ (s.tryNext r).engine = s.engine ∧
    (s.tryNext r).bus = s.bus ∧ (s.tryNext r).watches = s.watches ∧ (s.tryNext r).inputs = s.inputs ∧
    (s.tryNext r).visit = s.visit ∧ (s.tryNext r).duty = s.duty ∧ (s.tryNext r).freeIdx = s.freeIdx := by
  simp only [State.tryNext]; (repeat' split) <;> simp

@[simp] theorem closeAt_frame (i : Fin 16) (r : CloseReason) :
    (s.closeAt i r).pending = s.pending ∧ (s.closeAt i r).hostData = s.hostData ∧ (s.closeAt i r).power = s.power ∧
    (s.closeAt i r).settings = s.settings ∧ (s.closeAt i r).refused = s.refused ∧ (s.closeAt i r).time = s.time ∧
    (s.closeAt i r).ident = s.ident ∧ (s.closeAt i r).req = s.req ∧ (s.closeAt i r).engine = s.engine ∧
    (s.closeAt i r).bus = s.bus ∧ (s.closeAt i r).watches = s.watches ∧ (s.closeAt i r).inputs = s.inputs ∧
    (s.closeAt i r).visit = s.visit ∧ (s.closeAt i r).duty = s.duty ∧ (s.closeAt i r).freeIdx = s.freeIdx := by
  simp [State.closeAt]

@[simp] theorem placeRecord_frame (r : Record) :
    (s.placeRecord r).pending = s.pending ∧ (s.placeRecord r).hostData = s.hostData ∧
    (s.placeRecord r).power = s.power ∧ (s.placeRecord r).settings = s.settings ∧
    (s.placeRecord r).refused = s.refused ∧ (s.placeRecord r).time = s.time ∧ (s.placeRecord r).ident = s.ident ∧
    (s.placeRecord r).req = s.req ∧ (s.placeRecord r).engine = s.engine ∧ (s.placeRecord r).bus = s.bus ∧
    (s.placeRecord r).watches = s.watches ∧ (s.placeRecord r).inputs = s.inputs ∧
    (s.placeRecord r).visit = s.visit ∧ (s.placeRecord r).duty = s.duty ∧
    (s.placeRecord r).freeIdx = s.freeIdx := by
  unfold State.placeRecord; (repeat' split) <;> simp

@[simp] theorem offer_frame (r : Record) :
    (s.offer r).pending = s.pending ∧ (s.offer r).hostData = s.hostData ∧ (s.offer r).power = s.power ∧
    (s.offer r).settings = s.settings ∧ (s.offer r).refused = s.refused ∧ (s.offer r).time = s.time ∧
    (s.offer r).ident = s.ident ∧ (s.offer r).req = s.req ∧ (s.offer r).engine = s.engine ∧
    (s.offer r).bus = s.bus ∧ (s.offer r).watches = s.watches ∧ (s.offer r).inputs = s.inputs ∧
    (s.offer r).visit = s.visit ∧ (s.offer r).duty = s.duty ∧ (s.offer r).freeIdx = s.freeIdx := by
  simp [State.offer]

@[simp] theorem closeFilling_frame (r : CloseReason) :
    (s.closeFilling r).pending = s.pending ∧ (s.closeFilling r).hostData = s.hostData ∧
    (s.closeFilling r).power = s.power ∧ (s.closeFilling r).settings = s.settings ∧
    (s.closeFilling r).refused = s.refused ∧ (s.closeFilling r).time = s.time ∧ (s.closeFilling r).ident = s.ident ∧
    (s.closeFilling r).req = s.req ∧ (s.closeFilling r).engine = s.engine ∧ (s.closeFilling r).bus = s.bus ∧
    (s.closeFilling r).watches = s.watches ∧ (s.closeFilling r).inputs = s.inputs ∧
    (s.closeFilling r).visit = s.visit ∧ (s.closeFilling r).duty = s.duty ∧
    (s.closeFilling r).freeIdx = s.freeIdx := by
  unfold State.closeFilling; (repeat' split) <;> simp

@[simp] theorem closeByAge_frame :
    (s.closeByAge).pending = s.pending ∧ (s.closeByAge).hostData = s.hostData ∧ (s.closeByAge).power = s.power ∧
    (s.closeByAge).settings = s.settings ∧ (s.closeByAge).refused = s.refused ∧ (s.closeByAge).time = s.time ∧
    (s.closeByAge).ident = s.ident ∧ (s.closeByAge).req = s.req ∧ (s.closeByAge).engine = s.engine ∧
    (s.closeByAge).bus = s.bus ∧ (s.closeByAge).watches = s.watches ∧ (s.closeByAge).inputs = s.inputs ∧
    (s.closeByAge).visit = s.visit ∧ (s.closeByAge).duty = s.duty ∧ (s.closeByAge).freeIdx = s.freeIdx := by
  unfold State.closeByAge; (repeat' split) <;> simp

@[simp] theorem emptyHeader_frame (i : Nat) :
    (s.emptyHeader i).pending = s.pending ∧ (s.emptyHeader i).hostData = s.hostData ∧
    (s.emptyHeader i).power = s.power ∧ (s.emptyHeader i).settings = s.settings ∧
    (s.emptyHeader i).refused = s.refused ∧ (s.emptyHeader i).time = s.time ∧ (s.emptyHeader i).wake = s.wake ∧
    (s.emptyHeader i).ident = s.ident ∧ (s.emptyHeader i).req = s.req ∧ (s.emptyHeader i).engine = s.engine ∧
    (s.emptyHeader i).bus = s.bus ∧ (s.emptyHeader i).watches = s.watches ∧ (s.emptyHeader i).coll = s.coll ∧
    (s.emptyHeader i).inputs = s.inputs ∧ (s.emptyHeader i).visit = s.visit ∧ (s.emptyHeader i).duty = s.duty ∧
    (s.emptyHeader i).freeIdx = s.freeIdx := by
  simp [State.emptyHeader]

@[simp] theorem emptyHeaders_frame :
    (s.emptyHeaders).pending = s.pending ∧ (s.emptyHeaders).hostData = s.hostData ∧
    (s.emptyHeaders).power = s.power ∧ (s.emptyHeaders).settings = s.settings ∧
    (s.emptyHeaders).refused = s.refused ∧ (s.emptyHeaders).time = s.time ∧ (s.emptyHeaders).wake = s.wake ∧
    (s.emptyHeaders).ident = s.ident ∧ (s.emptyHeaders).req = s.req ∧ (s.emptyHeaders).engine = s.engine ∧
    (s.emptyHeaders).bus = s.bus ∧ (s.emptyHeaders).watches = s.watches ∧ (s.emptyHeaders).coll = s.coll ∧
    (s.emptyHeaders).inputs = s.inputs ∧ (s.emptyHeaders).visit = s.visit ∧ (s.emptyHeaders).duty = s.duty ∧
    (s.emptyHeaders).freeIdx = s.freeIdx := by
  simp [State.emptyHeaders]

@[simp] theorem restartCollection_frame :
    (s.restartCollection).pending = s.pending ∧ (s.restartCollection).hostData = s.hostData ∧
    (s.restartCollection).power = s.power ∧ (s.restartCollection).settings = s.settings ∧
    (s.restartCollection).refused = s.refused ∧ (s.restartCollection).time = s.time ∧
    (s.restartCollection).wake = s.wake ∧ (s.restartCollection).ident = s.ident ∧
    (s.restartCollection).req = s.req ∧ (s.restartCollection).engine = s.engine ∧
    (s.restartCollection).bus = s.bus ∧ (s.restartCollection).watches = s.watches ∧
    (s.restartCollection).inputs = s.inputs ∧ (s.restartCollection).visit = s.visit ∧
    (s.restartCollection).duty = s.duty ∧ (s.restartCollection).freeIdx = s.freeIdx := by
  simp [State.restartCollection]

end Sys2Proof.Machine.State
end

