-- ==== Sys2Proof/Laws/FrameRequests.lean ====
section
/-! SUPPORT. What the operations of the Request Table leave unchanged: one lemma per operation. -/

namespace Sys2Proof.Machine.State

variable (s : State)

@[simp] theorem completeSlot_frame (k : Fin 16) (w : Bool) (r : Result) (v : Word) :
    (s.completeSlot k w r v).pending = s.pending ∧ (s.completeSlot k w r v).hostData = s.hostData ∧
    (s.completeSlot k w r v).power = s.power ∧ (s.completeSlot k w r v).settings = s.settings ∧
    (s.completeSlot k w r v).refused = s.refused ∧ (s.completeSlot k w r v).time = s.time ∧
    (s.completeSlot k w r v).ident = s.ident ∧ (s.completeSlot k w r v).req = s.req ∧
    (s.completeSlot k w r v).engine = s.engine ∧ (s.completeSlot k w r v).bus = s.bus ∧
    (s.completeSlot k w r v).watches = s.watches ∧ (s.completeSlot k w r v).coll = s.coll ∧
    (s.completeSlot k w r v).inputs = s.inputs ∧ (s.completeSlot k w r v).visit = s.visit ∧
    (s.completeSlot k w r v).duty = s.duty ∧ (s.completeSlot k w r v).freeIdx = s.freeIdx := by
  unfold State.completeSlot; (repeat' split) <;> simp

@[simp] theorem completeHeld_frame (k : HeldKind) (r : Result) (v : Word) :
    (s.completeHeld k r v).pending = s.pending ∧ (s.completeHeld k r v).hostData = s.hostData ∧
    (s.completeHeld k r v).power = s.power ∧ (s.completeHeld k r v).settings = s.settings ∧
    (s.completeHeld k r v).refused = s.refused ∧ (s.completeHeld k r v).time = s.time ∧
    (s.completeHeld k r v).ident = s.ident ∧ (s.completeHeld k r v).engine = s.engine ∧
    (s.completeHeld k r v).bus = s.bus ∧ (s.completeHeld k r v).watches = s.watches ∧
    (s.completeHeld k r v).coll = s.coll ∧ (s.completeHeld k r v).inputs = s.inputs ∧
    (s.completeHeld k r v).visit = s.visit ∧ (s.completeHeld k r v).duty = s.duty ∧
    (s.completeHeld k r v).freeIdx = s.freeIdx := by
  simp [State.completeHeld]

@[simp] theorem holdInFlight_frame (r : Taken) (k : HeldKind) :
    (s.holdInFlight r k).pending = s.pending ∧ (s.holdInFlight r k).mem = s.mem ∧
    (s.holdInFlight r k).hostData = s.hostData ∧ (s.holdInFlight r k).power = s.power ∧
    (s.holdInFlight r k).settings = s.settings ∧ (s.holdInFlight r k).refused = s.refused ∧
    (s.holdInFlight r k).time = s.time ∧ (s.holdInFlight r k).wake = s.wake ∧ (s.holdInFlight r k).ident = s.ident ∧
    (s.holdInFlight r k).engine = s.engine ∧ (s.holdInFlight r k).bus = s.bus ∧
    (s.holdInFlight r k).watches = s.watches ∧ (s.holdInFlight r k).coll = s.coll ∧
    (s.holdInFlight r k).inputs = s.inputs ∧ (s.holdInFlight r k).visit = s.visit ∧
    (s.holdInFlight r k).duty = s.duty ∧ (s.holdInFlight r k).freeIdx = s.freeIdx := by
  simp [State.holdInFlight]

@[simp] theorem detach_frame (k : Fin 16) :
    (s.detach k).pending = s.pending ∧ (s.detach k).mem = s.mem ∧ (s.detach k).hostData = s.hostData ∧
    (s.detach k).power = s.power ∧ (s.detach k).settings = s.settings ∧ (s.detach k).refused = s.refused ∧
    (s.detach k).time = s.time ∧ (s.detach k).wake = s.wake ∧ (s.detach k).ident = s.ident ∧
    (s.detach k).engine = s.engine ∧ (s.detach k).bus = s.bus ∧ (s.detach k).watches = s.watches ∧
    (s.detach k).coll = s.coll ∧ (s.detach k).inputs = s.inputs ∧ (s.detach k).visit = s.visit ∧
    (s.detach k).duty = s.duty ∧ (s.detach k).freeIdx = s.freeIdx := by
  simp [State.detach]

@[simp] theorem requestSweep_frame :
    (s.requestSweep).pending = s.pending ∧ (s.requestSweep).mem = s.mem ∧ (s.requestSweep).hostData = s.hostData ∧
    (s.requestSweep).power = s.power ∧ (s.requestSweep).settings = s.settings ∧
    (s.requestSweep).refused = s.refused ∧ (s.requestSweep).time = s.time ∧ (s.requestSweep).wake = s.wake ∧
    (s.requestSweep).ident = s.ident ∧ (s.requestSweep).engine = s.engine ∧ (s.requestSweep).bus = s.bus ∧
    (s.requestSweep).watches = s.watches ∧ (s.requestSweep).coll = s.coll ∧ (s.requestSweep).inputs = s.inputs ∧
    (s.requestSweep).visit = s.visit ∧ (s.requestSweep).duty = s.duty ∧ (s.requestSweep).freeIdx = s.freeIdx := by
  unfold State.requestSweep; (repeat' split) <;> simp

@[simp] theorem advanceSweep_frame :
    (s.advanceSweep).pending = s.pending ∧ (s.advanceSweep).hostData = s.hostData ∧
    (s.advanceSweep).power = s.power ∧ (s.advanceSweep).settings = s.settings ∧
    (s.advanceSweep).refused = s.refused ∧ (s.advanceSweep).time = s.time ∧ (s.advanceSweep).wake = s.wake ∧
    (s.advanceSweep).ident = s.ident ∧ (s.advanceSweep).engine = s.engine ∧ (s.advanceSweep).bus = s.bus ∧
    (s.advanceSweep).watches = s.watches ∧ (s.advanceSweep).coll = s.coll ∧ (s.advanceSweep).inputs = s.inputs ∧
    (s.advanceSweep).visit = s.visit ∧ (s.advanceSweep).duty = s.duty ∧ (s.advanceSweep).freeIdx = s.freeIdx := by
  unfold State.advanceSweep; (repeat' split) <;> simp

@[simp] theorem endExamination_frame :
    (s.endExamination).pending = s.pending ∧ (s.endExamination).hostData = s.hostData ∧
    (s.endExamination).power = s.power ∧ (s.endExamination).settings = s.settings ∧
    (s.endExamination).refused = s.refused ∧ (s.endExamination).time = s.time ∧ (s.endExamination).wake = s.wake ∧
    (s.endExamination).ident = s.ident ∧ (s.endExamination).engine = s.engine ∧ (s.endExamination).bus = s.bus ∧
    (s.endExamination).watches = s.watches ∧ (s.endExamination).coll = s.coll ∧
    (s.endExamination).inputs = s.inputs ∧ (s.endExamination).visit = s.visit ∧ (s.endExamination).duty = s.duty ∧
    (s.endExamination).freeIdx = s.freeIdx := by
  simp [State.endExamination]

@[simp] theorem takeSlot_frame (k : Fin 16) :
    (s.takeSlot k).pending = s.pending ∧ (s.takeSlot k).hostData = s.hostData ∧ (s.takeSlot k).power = s.power ∧
    (s.takeSlot k).settings = s.settings ∧ (s.takeSlot k).refused = s.refused ∧ (s.takeSlot k).time = s.time ∧
    (s.takeSlot k).ident = s.ident ∧ (s.takeSlot k).engine = s.engine ∧ (s.takeSlot k).bus = s.bus ∧
    (s.takeSlot k).watches = s.watches ∧ (s.takeSlot k).coll = s.coll ∧ (s.takeSlot k).inputs = s.inputs ∧
    (s.takeSlot k).visit = s.visit ∧ (s.takeSlot k).duty = s.duty ∧ (s.takeSlot k).freeIdx = s.freeIdx := by
  simp only [State.takeSlot]; (repeat' split) <;> simp

@[simp] theorem sweepSlot_frame :
    (s.sweepSlot).pending = s.pending ∧ (s.sweepSlot).hostData = s.hostData ∧ (s.sweepSlot).power = s.power ∧
    (s.sweepSlot).settings = s.settings ∧ (s.sweepSlot).refused = s.refused ∧ (s.sweepSlot).time = s.time ∧
    (s.sweepSlot).ident = s.ident ∧ (s.sweepSlot).engine = s.engine ∧ (s.sweepSlot).bus = s.bus ∧
    (s.sweepSlot).watches = s.watches ∧ (s.sweepSlot).coll = s.coll ∧ (s.sweepSlot).inputs = s.inputs ∧
    (s.sweepSlot).visit = s.visit ∧ (s.sweepSlot).duty = s.duty ∧ (s.sweepSlot).freeIdx = s.freeIdx := by
  unfold State.sweepSlot; (repeat' split) <;> simp

end Sys2Proof.Machine.State
end

