-- ==== Sys2Proof/Laws/FrameEngine.lean ====
section
/-! SUPPORT. What the operations of the Survey Engine leave unchanged: one lemma per operation. -/

namespace Sys2Proof.Machine.State

variable (s : State)

@[simp] theorem bumpHalf_frame (a lo : Nat) :
    (s.bumpHalf a lo).pending = s.pending ∧ (s.bumpHalf a lo).hostData = s.hostData ∧
    (s.bumpHalf a lo).power = s.power ∧ (s.bumpHalf a lo).settings = s.settings ∧
    (s.bumpHalf a lo).refused = s.refused ∧ (s.bumpHalf a lo).time = s.time ∧ (s.bumpHalf a lo).wake = s.wake ∧
    (s.bumpHalf a lo).ident = s.ident ∧ (s.bumpHalf a lo).req = s.req ∧ (s.bumpHalf a lo).engine = s.engine ∧
    (s.bumpHalf a lo).bus = s.bus ∧ (s.bumpHalf a lo).watches = s.watches ∧ (s.bumpHalf a lo).coll = s.coll ∧
    (s.bumpHalf a lo).inputs = s.inputs ∧ (s.bumpHalf a lo).visit = s.visit ∧ (s.bumpHalf a lo).duty = s.duty ∧
    (s.bumpHalf a lo).freeIdx = s.freeIdx := by
  simp [State.bumpHalf]

@[simp] theorem bumpRunCount_frame (l : Fin 32) :
    (s.bumpRunCount l).pending = s.pending ∧ (s.bumpRunCount l).hostData = s.hostData ∧
    (s.bumpRunCount l).power = s.power ∧ (s.bumpRunCount l).settings = s.settings ∧
    (s.bumpRunCount l).refused = s.refused ∧ (s.bumpRunCount l).time = s.time ∧ (s.bumpRunCount l).wake = s.wake ∧
    (s.bumpRunCount l).ident = s.ident ∧ (s.bumpRunCount l).req = s.req ∧ (s.bumpRunCount l).engine = s.engine ∧
    (s.bumpRunCount l).bus = s.bus ∧ (s.bumpRunCount l).watches = s.watches ∧ (s.bumpRunCount l).coll = s.coll ∧
    (s.bumpRunCount l).inputs = s.inputs ∧ (s.bumpRunCount l).visit = s.visit ∧ (s.bumpRunCount l).duty = s.duty ∧
    (s.bumpRunCount l).freeIdx = s.freeIdx := by
  simp [State.bumpRunCount]

@[simp] theorem bumpCoalesced_frame (l : Fin 32) :
    (s.bumpCoalesced l).pending = s.pending ∧ (s.bumpCoalesced l).hostData = s.hostData ∧
    (s.bumpCoalesced l).power = s.power ∧ (s.bumpCoalesced l).settings = s.settings ∧
    (s.bumpCoalesced l).refused = s.refused ∧ (s.bumpCoalesced l).time = s.time ∧
    (s.bumpCoalesced l).wake = s.wake ∧ (s.bumpCoalesced l).ident = s.ident ∧ (s.bumpCoalesced l).req = s.req ∧
    (s.bumpCoalesced l).engine = s.engine ∧ (s.bumpCoalesced l).bus = s.bus ∧
    (s.bumpCoalesced l).watches = s.watches ∧ (s.bumpCoalesced l).coll = s.coll ∧
    (s.bumpCoalesced l).inputs = s.inputs ∧ (s.bumpCoalesced l).visit = s.visit ∧
    (s.bumpCoalesced l).duty = s.duty ∧ (s.bumpCoalesced l).freeIdx = s.freeIdx := by
  simp [State.bumpCoalesced]

@[simp] theorem bumpShedDrop_frame (l : Fin 32) :
    (s.bumpShedDrop l).pending = s.pending ∧ (s.bumpShedDrop l).hostData = s.hostData ∧
    (s.bumpShedDrop l).power = s.power ∧ (s.bumpShedDrop l).settings = s.settings ∧
    (s.bumpShedDrop l).refused = s.refused ∧ (s.bumpShedDrop l).time = s.time ∧ (s.bumpShedDrop l).wake = s.wake ∧
    (s.bumpShedDrop l).ident = s.ident ∧ (s.bumpShedDrop l).req = s.req ∧ (s.bumpShedDrop l).engine = s.engine ∧
    (s.bumpShedDrop l).bus = s.bus ∧ (s.bumpShedDrop l).watches = s.watches ∧ (s.bumpShedDrop l).coll = s.coll ∧
    (s.bumpShedDrop l).inputs = s.inputs ∧ (s.bumpShedDrop l).visit = s.visit ∧ (s.bumpShedDrop l).duty = s.duty ∧
    (s.bumpShedDrop l).freeIdx = s.freeIdx := by
  simp [State.bumpShedDrop]

@[simp] theorem setLastOutcome_frame (l : Fin 32) (o : ListOutcome) :
    (s.setLastOutcome l o).pending = s.pending ∧ (s.setLastOutcome l o).hostData = s.hostData ∧
    (s.setLastOutcome l o).power = s.power ∧ (s.setLastOutcome l o).settings = s.settings ∧
    (s.setLastOutcome l o).refused = s.refused ∧ (s.setLastOutcome l o).time = s.time ∧
    (s.setLastOutcome l o).wake = s.wake ∧ (s.setLastOutcome l o).ident = s.ident ∧
    (s.setLastOutcome l o).req = s.req ∧ (s.setLastOutcome l o).engine = s.engine ∧
    (s.setLastOutcome l o).bus = s.bus ∧ (s.setLastOutcome l o).watches = s.watches ∧
    (s.setLastOutcome l o).coll = s.coll ∧ (s.setLastOutcome l o).inputs = s.inputs ∧
    (s.setLastOutcome l o).visit = s.visit ∧ (s.setLastOutcome l o).duty = s.duty ∧
    (s.setLastOutcome l o).freeIdx = s.freeIdx := by
  simp [State.setLastOutcome]

@[simp] theorem finishRun_frame (c : Ctx) (o : ListOutcome) (w : Option StepOutcome) (a : Option Nat) :
    (s.finishRun c o w a).pending = s.pending ∧ (s.finishRun c o w a).hostData = s.hostData ∧
    (s.finishRun c o w a).power = s.power ∧ (s.finishRun c o w a).settings = s.settings ∧
    (s.finishRun c o w a).refused = s.refused ∧ (s.finishRun c o w a).time = s.time ∧
    (s.finishRun c o w a).ident = s.ident ∧ (s.finishRun c o w a).bus = s.bus ∧
    (s.finishRun c o w a).watches = s.watches ∧ (s.finishRun c o w a).inputs = s.inputs ∧
    (s.finishRun c o w a).visit = s.visit ∧ (s.finishRun c o w a).duty = s.duty ∧
    (s.finishRun c o w a).freeIdx = s.freeIdx := by
  unfold State.finishRun; (repeat' split) <;> simp

@[simp] theorem startRun_frame (e : QEntry) (q : List QEntry) :
    (s.startRun e q).pending = s.pending ∧ (s.startRun e q).hostData = s.hostData ∧
    (s.startRun e q).power = s.power ∧ (s.startRun e q).settings = s.settings ∧
    (s.startRun e q).refused = s.refused ∧ (s.startRun e q).time = s.time ∧ (s.startRun e q).wake = s.wake ∧
    (s.startRun e q).ident = s.ident ∧ (s.startRun e q).req = s.req ∧ (s.startRun e q).bus = s.bus ∧
    (s.startRun e q).watches = s.watches ∧ (s.startRun e q).coll = s.coll ∧ (s.startRun e q).inputs = s.inputs ∧
    (s.startRun e q).visit = s.visit ∧ (s.startRun e q).duty = s.duty ∧ (s.startRun e q).freeIdx = s.freeIdx := by
  simp [State.startRun]

@[simp] theorem startHeads_frame (n : Nat) :
    (startHeads n s).pending = s.pending ∧ (startHeads n s).hostData = s.hostData ∧
    (startHeads n s).power = s.power ∧ (startHeads n s).settings = s.settings ∧
    (startHeads n s).refused = s.refused ∧ (startHeads n s).time = s.time ∧ (startHeads n s).ident = s.ident ∧
    (startHeads n s).bus = s.bus ∧ (startHeads n s).watches = s.watches ∧ (startHeads n s).inputs = s.inputs ∧
    (startHeads n s).visit = s.visit ∧ (startHeads n s).duty = s.duty ∧ (startHeads n s).freeIdx = s.freeIdx := by
  induction n generalizing s with
  | zero => simp [startHeads]
  | succ n ih =>
    simp only [startHeads]
    split
    · simp
    · split <;> (try split) <;> simp [ih]

@[simp] theorem startNext_frame :
    (s.startNext).pending = s.pending ∧ (s.startNext).hostData = s.hostData ∧ (s.startNext).power = s.power ∧
    (s.startNext).settings = s.settings ∧ (s.startNext).refused = s.refused ∧ (s.startNext).time = s.time ∧
    (s.startNext).ident = s.ident ∧ (s.startNext).bus = s.bus ∧ (s.startNext).watches = s.watches ∧
    (s.startNext).inputs = s.inputs ∧ (s.startNext).visit = s.visit ∧ (s.startNext).duty = s.duty ∧
    (s.startNext).freeIdx = s.freeIdx := by
  simp [State.startNext]

@[simp] theorem leaveRun_frame :
    (s.leaveRun).pending = s.pending ∧ (s.leaveRun).hostData = s.hostData ∧ (s.leaveRun).power = s.power ∧
    (s.leaveRun).settings = s.settings ∧ (s.leaveRun).refused = s.refused ∧ (s.leaveRun).time = s.time ∧
    (s.leaveRun).ident = s.ident ∧ (s.leaveRun).bus = s.bus ∧ (s.leaveRun).watches = s.watches ∧
    (s.leaveRun).inputs = s.inputs ∧ (s.leaveRun).visit = s.visit ∧ (s.leaveRun).duty = s.duty ∧
    (s.leaveRun).freeIdx = s.freeIdx := by
  unfold State.leaveRun; (repeat' split) <;> simp

@[simp] theorem endRun_frame (o : ListOutcome) (w : Option StepOutcome) (a : Option Nat) :
    (s.endRun o w a).pending = s.pending ∧ (s.endRun o w a).hostData = s.hostData ∧
    (s.endRun o w a).power = s.power ∧ (s.endRun o w a).settings = s.settings ∧
    (s.endRun o w a).refused = s.refused ∧ (s.endRun o w a).time = s.time ∧ (s.endRun o w a).ident = s.ident ∧
    (s.endRun o w a).bus = s.bus ∧ (s.endRun o w a).watches = s.watches ∧ (s.endRun o w a).inputs = s.inputs ∧
    (s.endRun o w a).visit = s.visit ∧ (s.endRun o w a).duty = s.duty ∧ (s.endRun o w a).freeIdx = s.freeIdx := by
  unfold State.endRun; (repeat' split) <;> simp

@[simp] theorem trigger_frame (l : Fin 32) (src : Source) :
    ((s.trigger l src).1).pending = s.pending ∧ ((s.trigger l src).1).hostData = s.hostData ∧
    ((s.trigger l src).1).power = s.power ∧ ((s.trigger l src).1).settings = s.settings ∧
    ((s.trigger l src).1).refused = s.refused ∧ ((s.trigger l src).1).time = s.time ∧
    ((s.trigger l src).1).ident = s.ident ∧ ((s.trigger l src).1).bus = s.bus ∧
    ((s.trigger l src).1).watches = s.watches ∧ ((s.trigger l src).1).inputs = s.inputs ∧
    ((s.trigger l src).1).visit = s.visit ∧ ((s.trigger l src).1).duty = s.duty ∧
    ((s.trigger l src).1).freeIdx = s.freeIdx := by
  simp only [State.trigger]; (repeat' split) <;> simp

@[simp] theorem offerTrigger_frame (l : Fin 32) (src : Source) :
    (s.offerTrigger l src).pending = s.pending ∧ (s.offerTrigger l src).hostData = s.hostData ∧
    (s.offerTrigger l src).power = s.power ∧ (s.offerTrigger l src).settings = s.settings ∧
    (s.offerTrigger l src).refused = s.refused ∧ (s.offerTrigger l src).time = s.time ∧
    (s.offerTrigger l src).ident = s.ident ∧ (s.offerTrigger l src).bus = s.bus ∧
    (s.offerTrigger l src).watches = s.watches ∧ (s.offerTrigger l src).inputs = s.inputs ∧
    (s.offerTrigger l src).visit = s.visit ∧ (s.offerTrigger l src).duty = s.duty ∧
    (s.offerTrigger l src).freeIdx = s.freeIdx := by
  simp [State.offerTrigger]

@[simp] theorem offerTriggerTo_frame (l : Option (Fin 32)) (src : Source) :
    (s.offerTriggerTo l src).pending = s.pending ∧ (s.offerTriggerTo l src).hostData = s.hostData ∧
    (s.offerTriggerTo l src).power = s.power ∧ (s.offerTriggerTo l src).settings = s.settings ∧
    (s.offerTriggerTo l src).refused = s.refused ∧ (s.offerTriggerTo l src).time = s.time ∧
    (s.offerTriggerTo l src).ident = s.ident ∧ (s.offerTriggerTo l src).bus = s.bus ∧
    (s.offerTriggerTo l src).watches = s.watches ∧ (s.offerTriggerTo l src).inputs = s.inputs ∧
    (s.offerTriggerTo l src).visit = s.visit ∧ (s.offerTriggerTo l src).duty = s.duty ∧
    (s.offerTriggerTo l src).freeIdx = s.freeIdx := by
  unfold State.offerTriggerTo; (repeat' split) <;> simp

@[simp] theorem purge_frame :
    (s.purge).pending = s.pending ∧ (s.purge).hostData = s.hostData ∧ (s.purge).power = s.power ∧
    (s.purge).settings = s.settings ∧ (s.purge).refused = s.refused ∧ (s.purge).time = s.time ∧
    (s.purge).wake = s.wake ∧ (s.purge).ident = s.ident ∧ (s.purge).req = s.req ∧ (s.purge).bus = s.bus ∧
    (s.purge).watches = s.watches ∧ (s.purge).coll = s.coll ∧ (s.purge).inputs = s.inputs ∧
    (s.purge).visit = s.visit ∧ (s.purge).duty = s.duty ∧ (s.purge).freeIdx = s.freeIdx := by
  simp [State.purge]

@[simp] theorem finishStep_frame (o : OwnEnd) (a : Nat) :
    (s.finishStep o a).pending = s.pending ∧ (s.finishStep o a).hostData = s.hostData ∧
    (s.finishStep o a).power = s.power ∧ (s.finishStep o a).settings = s.settings ∧
    (s.finishStep o a).refused = s.refused ∧ (s.finishStep o a).time = s.time ∧ (s.finishStep o a).ident = s.ident ∧
    (s.finishStep o a).bus = s.bus ∧ (s.finishStep o a).watches = s.watches ∧ (s.finishStep o a).inputs = s.inputs ∧
    (s.finishStep o a).visit = s.visit ∧ (s.finishStep o a).duty = s.duty ∧
    (s.finishStep o a).freeIdx = s.freeIdx := by
  unfold State.finishStep; (repeat' split) <;> simp

end Sys2Proof.Machine.State
end

