-- ==== Sys2Proof/Laws/FrameDuty.lean ====
section
/-! SUPPORT. What the operations of the Duty Controller leave unchanged: one lemma per operation. -/

namespace Sys2Proof.Machine.State

variable (s : State)

@[simp] theorem setShed_frame (l : ShedLevel) :
    (s.setShed l).pending = s.pending ∧ (s.setShed l).hostData = s.hostData ∧ (s.setShed l).power = s.power ∧
    (s.setShed l).settings = s.settings ∧ (s.setShed l).refused = s.refused ∧ (s.setShed l).time = s.time ∧
    (s.setShed l).ident = s.ident ∧ (s.setShed l).req = s.req ∧ (s.setShed l).engine = s.engine ∧
    (s.setShed l).bus = s.bus ∧ (s.setShed l).watches = s.watches ∧ (s.setShed l).coll = s.coll ∧
    (s.setShed l).inputs = s.inputs ∧ (s.setShed l).visit = s.visit ∧ (s.setShed l).freeIdx = s.freeIdx := by
  simp [State.setShed]

@[simp] theorem recomputeShed_frame (c : ShedCause) :
    (s.recomputeShed c).pending = s.pending ∧ (s.recomputeShed c).hostData = s.hostData ∧
    (s.recomputeShed c).power = s.power ∧ (s.recomputeShed c).settings = s.settings ∧
    (s.recomputeShed c).refused = s.refused ∧ (s.recomputeShed c).time = s.time ∧
    (s.recomputeShed c).ident = s.ident ∧ (s.recomputeShed c).req = s.req ∧ (s.recomputeShed c).bus = s.bus ∧
    (s.recomputeShed c).watches = s.watches ∧ (s.recomputeShed c).inputs = s.inputs ∧
    (s.recomputeShed c).visit = s.visit ∧ (s.recomputeShed c).freeIdx = s.freeIdx := by
  simp only [State.recomputeShed]; (repeat' split) <;> simp

@[simp] theorem beginEpisode_frame (c : Fin 4) :
    (s.beginEpisode c).pending = s.pending ∧ (s.beginEpisode c).hostData = s.hostData ∧
    (s.beginEpisode c).power = s.power ∧ (s.beginEpisode c).settings = s.settings ∧
    (s.beginEpisode c).refused = s.refused ∧ (s.beginEpisode c).time = s.time ∧ (s.beginEpisode c).ident = s.ident ∧
    (s.beginEpisode c).req = s.req ∧ (s.beginEpisode c).engine = s.engine ∧ (s.beginEpisode c).bus = s.bus ∧
    (s.beginEpisode c).watches = s.watches ∧ (s.beginEpisode c).inputs = s.inputs ∧
    (s.beginEpisode c).visit = s.visit ∧ (s.beginEpisode c).freeIdx = s.freeIdx := by
  simp [State.beginEpisode]

@[simp] theorem nextBurst_frame (c : Fin 4) :
    (s.nextBurst c).pending = s.pending ∧ (s.nextBurst c).hostData = s.hostData ∧ (s.nextBurst c).power = s.power ∧
    (s.nextBurst c).settings = s.settings ∧ (s.nextBurst c).refused = s.refused ∧ (s.nextBurst c).time = s.time ∧
    (s.nextBurst c).wake = s.wake ∧ (s.nextBurst c).ident = s.ident ∧ (s.nextBurst c).req = s.req ∧
    (s.nextBurst c).engine = s.engine ∧ (s.nextBurst c).bus = s.bus ∧ (s.nextBurst c).watches = s.watches ∧
    (s.nextBurst c).coll = s.coll ∧ (s.nextBurst c).inputs = s.inputs ∧ (s.nextBurst c).visit = s.visit ∧
    (s.nextBurst c).freeIdx = s.freeIdx := by
  simp [State.nextBurst]

@[simp] theorem stallChannel_frame (c : Fin 4) :
    (s.stallChannel c).pending = s.pending ∧ (s.stallChannel c).hostData = s.hostData ∧
    (s.stallChannel c).power = s.power ∧ (s.stallChannel c).settings = s.settings ∧
    (s.stallChannel c).refused = s.refused ∧ (s.stallChannel c).time = s.time ∧ (s.stallChannel c).ident = s.ident ∧
    (s.stallChannel c).req = s.req ∧ (s.stallChannel c).engine = s.engine ∧ (s.stallChannel c).bus = s.bus ∧
    (s.stallChannel c).watches = s.watches ∧ (s.stallChannel c).inputs = s.inputs ∧
    (s.stallChannel c).visit = s.visit ∧ (s.stallChannel c).freeIdx = s.freeIdx := by
  simp only [State.stallChannel]; (repeat' split) <;> simp

@[simp] theorem clearChannel_frame (c : Fin 4) :
    (s.clearChannel c).pending = s.pending ∧ (s.clearChannel c).hostData = s.hostData ∧
    (s.clearChannel c).power = s.power ∧ (s.clearChannel c).settings = s.settings ∧
    (s.clearChannel c).refused = s.refused ∧ (s.clearChannel c).time = s.time ∧ (s.clearChannel c).ident = s.ident ∧
    (s.clearChannel c).req = s.req ∧ (s.clearChannel c).engine = s.engine ∧ (s.clearChannel c).bus = s.bus ∧
    (s.clearChannel c).watches = s.watches ∧ (s.clearChannel c).inputs = s.inputs ∧
    (s.clearChannel c).visit = s.visit ∧ (s.clearChannel c).freeIdx = s.freeIdx := by
  simp only [State.clearChannel]; (repeat' split) <;> simp

@[simp] theorem retachChannel_frame (c : Fin 4) :
    (s.retachChannel c).pending = s.pending ∧ (s.retachChannel c).hostData = s.hostData ∧
    (s.retachChannel c).power = s.power ∧ (s.retachChannel c).settings = s.settings ∧
    (s.retachChannel c).refused = s.refused ∧ (s.retachChannel c).time = s.time ∧
    (s.retachChannel c).ident = s.ident ∧ (s.retachChannel c).req = s.req ∧ (s.retachChannel c).engine = s.engine ∧
    (s.retachChannel c).bus = s.bus ∧ (s.retachChannel c).watches = s.watches ∧
    (s.retachChannel c).inputs = s.inputs ∧ (s.retachChannel c).visit = s.visit ∧
    (s.retachChannel c).freeIdx = s.freeIdx := by
  simp only [State.retachChannel]; (repeat' split) <;> simp

@[simp] theorem tickChannel_frame (c : Fin 4) :
    (s.tickChannel c).pending = s.pending ∧ (s.tickChannel c).hostData = s.hostData ∧
    (s.tickChannel c).power = s.power ∧ (s.tickChannel c).settings = s.settings ∧
    (s.tickChannel c).refused = s.refused ∧ (s.tickChannel c).time = s.time ∧ (s.tickChannel c).wake = s.wake ∧
    (s.tickChannel c).ident = s.ident ∧ (s.tickChannel c).req = s.req ∧ (s.tickChannel c).engine = s.engine ∧
    (s.tickChannel c).bus = s.bus ∧ (s.tickChannel c).watches = s.watches ∧ (s.tickChannel c).coll = s.coll ∧
    (s.tickChannel c).inputs = s.inputs ∧ (s.tickChannel c).visit = s.visit ∧
    (s.tickChannel c).freeIdx = s.freeIdx := by
  simp [State.tickChannel]

@[simp] theorem endSpacing_frame (c : Fin 4) :
    (s.endSpacing c).pending = s.pending ∧ (s.endSpacing c).hostData = s.hostData ∧
    (s.endSpacing c).power = s.power ∧ (s.endSpacing c).settings = s.settings ∧
    (s.endSpacing c).refused = s.refused ∧ (s.endSpacing c).time = s.time ∧ (s.endSpacing c).ident = s.ident ∧
    (s.endSpacing c).req = s.req ∧ (s.endSpacing c).engine = s.engine ∧ (s.endSpacing c).bus = s.bus ∧
    (s.endSpacing c).watches = s.watches ∧ (s.endSpacing c).inputs = s.inputs ∧ (s.endSpacing c).visit = s.visit ∧
    (s.endSpacing c).freeIdx = s.freeIdx := by
  simp [State.endSpacing]

@[simp] theorem stallNotice_frame (i : Fin 16) :
    (s.stallNotice i).pending = s.pending ∧ (s.stallNotice i).hostData = s.hostData ∧
    (s.stallNotice i).power = s.power ∧ (s.stallNotice i).settings = s.settings ∧
    (s.stallNotice i).refused = s.refused ∧ (s.stallNotice i).time = s.time ∧ (s.stallNotice i).ident = s.ident ∧
    (s.stallNotice i).req = s.req ∧ (s.stallNotice i).engine = s.engine ∧ (s.stallNotice i).bus = s.bus ∧
    (s.stallNotice i).watches = s.watches ∧ (s.stallNotice i).inputs = s.inputs ∧
    (s.stallNotice i).visit = s.visit ∧ (s.stallNotice i).freeIdx = s.freeIdx := by
  simp [State.stallNotice, notify]

@[simp] theorem clearNotice_frame (i : Fin 16) :
    (s.clearNotice i).pending = s.pending ∧ (s.clearNotice i).hostData = s.hostData ∧
    (s.clearNotice i).power = s.power ∧ (s.clearNotice i).settings = s.settings ∧
    (s.clearNotice i).refused = s.refused ∧ (s.clearNotice i).time = s.time ∧ (s.clearNotice i).ident = s.ident ∧
    (s.clearNotice i).req = s.req ∧ (s.clearNotice i).engine = s.engine ∧ (s.clearNotice i).bus = s.bus ∧
    (s.clearNotice i).watches = s.watches ∧ (s.clearNotice i).inputs = s.inputs ∧
    (s.clearNotice i).visit = s.visit ∧ (s.clearNotice i).freeIdx = s.freeIdx := by
  simp [State.clearNotice, notify]

@[simp] theorem tickChannels_frame :
    (s.tickChannels).pending = s.pending ∧ (s.tickChannels).hostData = s.hostData ∧
    (s.tickChannels).power = s.power ∧ (s.tickChannels).settings = s.settings ∧
    (s.tickChannels).refused = s.refused ∧ (s.tickChannels).time = s.time ∧ (s.tickChannels).wake = s.wake ∧
    (s.tickChannels).ident = s.ident ∧ (s.tickChannels).req = s.req ∧ (s.tickChannels).engine = s.engine ∧
    (s.tickChannels).bus = s.bus ∧ (s.tickChannels).watches = s.watches ∧ (s.tickChannels).coll = s.coll ∧
    (s.tickChannels).inputs = s.inputs ∧ (s.tickChannels).visit = s.visit ∧
    (s.tickChannels).freeIdx = s.freeIdx := by
  simp [State.tickChannels]

end Sys2Proof.Machine.State
end

