-- ==== Sys2Proof/Laws/FrameWatches.lean ====
section
/-! SUPPORT. What the operations of the Watch Unit leave unchanged: one lemma per operation. -/

namespace Sys2Proof.Machine.State

variable (s : State)

@[simp] theorem showWatch_frame (n : Fin 64) :
    (s.showWatch n).pending = s.pending ∧ (s.showWatch n).hostData = s.hostData ∧ (s.showWatch n).power = s.power ∧
    (s.showWatch n).settings = s.settings ∧ (s.showWatch n).refused = s.refused ∧ (s.showWatch n).time = s.time ∧
    (s.showWatch n).wake = s.wake ∧ (s.showWatch n).ident = s.ident ∧ (s.showWatch n).req = s.req ∧
    (s.showWatch n).engine = s.engine ∧ (s.showWatch n).bus = s.bus ∧ (s.showWatch n).watches = s.watches ∧
    (s.showWatch n).coll = s.coll ∧ (s.showWatch n).inputs = s.inputs ∧ (s.showWatch n).visit = s.visit ∧
    (s.showWatch n).duty = s.duty ∧ (s.showWatch n).freeIdx = s.freeIdx := by
  simp [State.showWatch]

@[simp] theorem putWatch_frame (n : Fin 64) (w : Watch) :
    (s.putWatch n w).pending = s.pending ∧ (s.putWatch n w).hostData = s.hostData ∧
    (s.putWatch n w).power = s.power ∧ (s.putWatch n w).settings = s.settings ∧
    (s.putWatch n w).refused = s.refused ∧ (s.putWatch n w).time = s.time ∧ (s.putWatch n w).wake = s.wake ∧
    (s.putWatch n w).ident = s.ident ∧ (s.putWatch n w).req = s.req ∧ (s.putWatch n w).engine = s.engine ∧
    (s.putWatch n w).bus = s.bus ∧ (s.putWatch n w).coll = s.coll ∧ (s.putWatch n w).inputs = s.inputs ∧
    (s.putWatch n w).visit = s.visit ∧ (s.putWatch n w).duty = s.duty ∧ (s.putWatch n w).freeIdx = s.freeIdx := by
  simp [State.putWatch]

@[simp] theorem gradeChange_frame (n : Fin 64) (g : Grade) (d : WatchDef) (c : GradeCause) :
    (s.gradeChange n g d c).pending = s.pending ∧ (s.gradeChange n g d c).hostData = s.hostData ∧
    (s.gradeChange n g d c).power = s.power ∧ (s.gradeChange n g d c).settings = s.settings ∧
    (s.gradeChange n g d c).refused = s.refused ∧ (s.gradeChange n g d c).time = s.time ∧
    (s.gradeChange n g d c).ident = s.ident ∧ (s.gradeChange n g d c).bus = s.bus ∧
    (s.gradeChange n g d c).watches = s.watches ∧ (s.gradeChange n g d c).inputs = s.inputs ∧
    (s.gradeChange n g d c).visit = s.visit ∧ (s.gradeChange n g d c).freeIdx = s.freeIdx := by
  simp only [State.gradeChange]; (repeat' split) <;> simp

@[simp] theorem regrade_frame (n : Fin 64) (w : Watch) (d : WatchDef) (c : GradeCause) :
    (s.regrade n w d c).pending = s.pending ∧ (s.regrade n w d c).hostData = s.hostData ∧
    (s.regrade n w d c).power = s.power ∧ (s.regrade n w d c).settings = s.settings ∧
    (s.regrade n w d c).refused = s.refused ∧ (s.regrade n w d c).time = s.time ∧
    (s.regrade n w d c).ident = s.ident ∧ (s.regrade n w d c).bus = s.bus ∧ (s.regrade n w d c).inputs = s.inputs ∧
    (s.regrade n w d c).visit = s.visit ∧ (s.regrade n w d c).freeIdx = s.freeIdx := by
  simp only [State.regrade]; (repeat' split) <;> simp

@[simp] theorem definitionFault_frame (n : Fin 64) (d : WatchDef) :
    (s.definitionFault n d).pending = s.pending ∧ (s.definitionFault n d).hostData = s.hostData ∧
    (s.definitionFault n d).power = s.power ∧ (s.definitionFault n d).settings = s.settings ∧
    (s.definitionFault n d).refused = s.refused ∧ (s.definitionFault n d).time = s.time ∧
    (s.definitionFault n d).ident = s.ident ∧ (s.definitionFault n d).bus = s.bus ∧
    (s.definitionFault n d).inputs = s.inputs ∧ (s.definitionFault n d).visit = s.visit ∧
    (s.definitionFault n d).freeIdx = s.freeIdx := by
  unfold State.definitionFault; (repeat' split) <;> simp

@[simp] theorem evaluate_frame (n : Fin 64) (d : WatchDef) (e : Int) (r : Option Int) :
    (s.evaluate n d e r).pending = s.pending ∧ (s.evaluate n d e r).hostData = s.hostData ∧
    (s.evaluate n d e r).power = s.power ∧ (s.evaluate n d e r).settings = s.settings ∧
    (s.evaluate n d e r).refused = s.refused ∧ (s.evaluate n d e r).time = s.time ∧
    (s.evaluate n d e r).ident = s.ident ∧ (s.evaluate n d e r).bus = s.bus ∧
    (s.evaluate n d e r).inputs = s.inputs ∧ (s.evaluate n d e r).visit = s.visit ∧
    (s.evaluate n d e r).freeIdx = s.freeIdx := by
  simp [State.evaluate]

@[simp] theorem deliver_frame (n : Fin 64) (w : Bool) (v : Nat) :
    ((s.deliver n w v).1).pending = s.pending ∧ ((s.deliver n w v).1).hostData = s.hostData ∧
    ((s.deliver n w v).1).power = s.power ∧ ((s.deliver n w v).1).settings = s.settings ∧
    ((s.deliver n w v).1).refused = s.refused ∧ ((s.deliver n w v).1).time = s.time ∧
    ((s.deliver n w v).1).ident = s.ident ∧ ((s.deliver n w v).1).bus = s.bus ∧
    ((s.deliver n w v).1).inputs = s.inputs ∧ ((s.deliver n w v).1).visit = s.visit ∧
    ((s.deliver n w v).1).freeIdx = s.freeIdx := by
  simp only [State.deliver]; (repeat' split) <;> simp

@[simp] theorem shedNotice_frame (n : Fin 64) (c : ShedCause) :
    (s.shedNotice n c).pending = s.pending ∧ (s.shedNotice n c).hostData = s.hostData ∧
    (s.shedNotice n c).power = s.power ∧ (s.shedNotice n c).settings = s.settings ∧
    (s.shedNotice n c).refused = s.refused ∧ (s.shedNotice n c).time = s.time ∧ (s.shedNotice n c).ident = s.ident ∧
    (s.shedNotice n c).req = s.req ∧ (s.shedNotice n c).bus = s.bus ∧ (s.shedNotice n c).watches = s.watches ∧
    (s.shedNotice n c).inputs = s.inputs ∧ (s.shedNotice n c).visit = s.visit ∧
    (s.shedNotice n c).freeIdx = s.freeIdx := by
  unfold State.shedNotice; (repeat' split) <;> simp

@[simp] theorem armWatch_frame (n : Fin 64) :
    ((s.armWatch n).1).pending = s.pending ∧ ((s.armWatch n).1).hostData = s.hostData ∧
    ((s.armWatch n).1).power = s.power ∧ ((s.armWatch n).1).settings = s.settings ∧
    ((s.armWatch n).1).refused = s.refused ∧ ((s.armWatch n).1).time = s.time ∧ ((s.armWatch n).1).ident = s.ident ∧
    ((s.armWatch n).1).req = s.req ∧ ((s.armWatch n).1).bus = s.bus ∧ ((s.armWatch n).1).inputs = s.inputs ∧
    ((s.armWatch n).1).visit = s.visit ∧ ((s.armWatch n).1).freeIdx = s.freeIdx := by
  unfold State.armWatch; (repeat' split) <;> simp

@[simp] theorem disarmWatch_frame (n : Fin 64) :
    ((s.disarmWatch n).1).pending = s.pending ∧ ((s.disarmWatch n).1).hostData = s.hostData ∧
    ((s.disarmWatch n).1).power = s.power ∧ ((s.disarmWatch n).1).settings = s.settings ∧
    ((s.disarmWatch n).1).refused = s.refused ∧ ((s.disarmWatch n).1).time = s.time ∧
    ((s.disarmWatch n).1).ident = s.ident ∧ ((s.disarmWatch n).1).req = s.req ∧ ((s.disarmWatch n).1).bus = s.bus ∧
    ((s.disarmWatch n).1).inputs = s.inputs ∧ ((s.disarmWatch n).1).visit = s.visit ∧
    ((s.disarmWatch n).1).freeIdx = s.freeIdx := by
  simp [State.disarmWatch]

@[simp] theorem feedWatch_frame (n : Fin 64) (v : Int) :
    ((s.feedWatch n v).1).pending = s.pending ∧ ((s.feedWatch n v).1).hostData = s.hostData ∧
    ((s.feedWatch n v).1).power = s.power ∧ ((s.feedWatch n v).1).settings = s.settings ∧
    ((s.feedWatch n v).1).refused = s.refused ∧ ((s.feedWatch n v).1).time = s.time ∧
    ((s.feedWatch n v).1).ident = s.ident ∧ ((s.feedWatch n v).1).bus = s.bus ∧
    ((s.feedWatch n v).1).inputs = s.inputs ∧ ((s.feedWatch n v).1).visit = s.visit ∧
    ((s.feedWatch n v).1).freeIdx = s.freeIdx := by
  simp only [State.feedWatch]; (repeat' split) <;> simp

@[simp] theorem checkFresh_frame (n : Fin 64) :
    (s.checkFresh n).pending = s.pending ∧ (s.checkFresh n).hostData = s.hostData ∧
    (s.checkFresh n).power = s.power ∧ (s.checkFresh n).settings = s.settings ∧
    (s.checkFresh n).refused = s.refused ∧ (s.checkFresh n).time = s.time ∧ (s.checkFresh n).ident = s.ident ∧
    (s.checkFresh n).bus = s.bus ∧ (s.checkFresh n).inputs = s.inputs ∧ (s.checkFresh n).visit = s.visit ∧
    (s.checkFresh n).freeIdx = s.freeIdx := by
  simp only [State.checkFresh]; (repeat' split) <;> simp

end Sys2Proof.Machine.State
end

