-- ==== Sys2Proof/Laws/FrameStepEnds.lean ====
section
/-! SUPPORT. What the operations of the ends of steps leave unchanged: one lemma per operation. -/

namespace Sys2Proof.Machine.State

variable (s : State)

@[simp] theorem setPhase_frame (p : Phase) :
    (s.setPhase p).pending = s.pending ∧ (s.setPhase p).mem = s.mem ∧ (s.setPhase p).hostData = s.hostData ∧
    (s.setPhase p).power = s.power ∧ (s.setPhase p).settings = s.settings ∧ (s.setPhase p).refused = s.refused ∧
    (s.setPhase p).time = s.time ∧ (s.setPhase p).wake = s.wake ∧ (s.setPhase p).ident = s.ident ∧
    (s.setPhase p).req = s.req ∧ (s.setPhase p).bus = s.bus ∧ (s.setPhase p).watches = s.watches ∧
    (s.setPhase p).coll = s.coll ∧ (s.setPhase p).inputs = s.inputs ∧ (s.setPhase p).visit = s.visit ∧
    (s.setPhase p).duty = s.duty ∧ (s.setPhase p).freeIdx = s.freeIdx := by
  simp [State.setPhase]

@[simp] theorem deliverTo_frame (w : Option (Fin 64)) (o : StepOutcome) (b : Bool) (v : Nat) :
    ((s.deliverTo w o b v).1).pending = s.pending ∧ ((s.deliverTo w o b v).1).hostData = s.hostData ∧
    ((s.deliverTo w o b v).1).power = s.power ∧ ((s.deliverTo w o b v).1).settings = s.settings ∧
    ((s.deliverTo w o b v).1).refused = s.refused ∧ ((s.deliverTo w o b v).1).time = s.time ∧
    ((s.deliverTo w o b v).1).ident = s.ident ∧ ((s.deliverTo w o b v).1).bus = s.bus ∧
    ((s.deliverTo w o b v).1).inputs = s.inputs ∧ ((s.deliverTo w o b v).1).visit = s.visit ∧
    ((s.deliverTo w o b v).1).freeIdx = s.freeIdx := by
  unfold State.deliverTo; (repeat' split) <;> simp

@[simp] theorem readComplete_frame (st : ReadStep) (o : StepOutcome) (v : Nat) :
    (s.readComplete st o v).pending = s.pending ∧ (s.readComplete st o v).hostData = s.hostData ∧
    (s.readComplete st o v).power = s.power ∧ (s.readComplete st o v).settings = s.settings ∧
    (s.readComplete st o v).refused = s.refused ∧ (s.readComplete st o v).time = s.time ∧
    (s.readComplete st o v).ident = s.ident ∧ (s.readComplete st o v).bus = s.bus ∧
    (s.readComplete st o v).inputs = s.inputs ∧ (s.readComplete st o v).visit = s.visit ∧
    (s.readComplete st o v).freeIdx = s.freeIdx := by
  unfold State.readComplete; (repeat' split) <;> simp

@[simp] theorem readResult_frame (st : ReadStep) (n : Nat) (o : StepOutcome) (v : Nat) :
    (s.readResult st n o v).pending = s.pending ∧ (s.readResult st n o v).hostData = s.hostData ∧
    (s.readResult st n o v).power = s.power ∧ (s.readResult st n o v).settings = s.settings ∧
    (s.readResult st n o v).refused = s.refused ∧ (s.readResult st n o v).time = s.time ∧
    (s.readResult st n o v).ident = s.ident ∧ (s.readResult st n o v).bus = s.bus ∧
    (s.readResult st n o v).inputs = s.inputs ∧ (s.readResult st n o v).visit = s.visit ∧
    (s.readResult st n o v).freeIdx = s.freeIdx := by
  unfold State.readResult; (repeat' split) <;> simp

@[simp] theorem blockComplete_frame (st : BlockStep) (e : BlockEnding) (ws : List Nat) :
    (s.blockComplete st e ws).pending = s.pending ∧ (s.blockComplete st e ws).hostData = s.hostData ∧
    (s.blockComplete st e ws).power = s.power ∧ (s.blockComplete st e ws).settings = s.settings ∧
    (s.blockComplete st e ws).refused = s.refused ∧ (s.blockComplete st e ws).time = s.time ∧
    (s.blockComplete st e ws).ident = s.ident ∧ (s.blockComplete st e ws).bus = s.bus ∧
    (s.blockComplete st e ws).watches = s.watches ∧ (s.blockComplete st e ws).inputs = s.inputs ∧
    (s.blockComplete st e ws).visit = s.visit ∧ (s.blockComplete st e ws).duty = s.duty ∧
    (s.blockComplete st e ws).freeIdx = s.freeIdx := by
  simp [State.blockComplete]

@[simp] theorem statusComplete_frame (i : Fin 30) (o : StepOutcome) (v : Nat) :
    (s.statusComplete i o v).pending = s.pending ∧ (s.statusComplete i o v).hostData = s.hostData ∧
    (s.statusComplete i o v).power = s.power ∧ (s.statusComplete i o v).settings = s.settings ∧
    (s.statusComplete i o v).refused = s.refused ∧ (s.statusComplete i o v).time = s.time ∧
    (s.statusComplete i o v).ident = s.ident ∧ (s.statusComplete i o v).bus = s.bus ∧
    (s.statusComplete i o v).watches = s.watches ∧ (s.statusComplete i o v).inputs = s.inputs ∧
    (s.statusComplete i o v).visit = s.visit ∧ (s.statusComplete i o v).duty = s.duty ∧
    (s.statusComplete i o v).freeIdx = s.freeIdx := by
  simp [State.statusComplete]

@[simp] theorem plainResult_frame (o : OwnEnd) (a : Nat) (r : BusResult) :
    (s.plainResult o a r).pending = s.pending ∧ (s.plainResult o a r).hostData = s.hostData ∧
    (s.plainResult o a r).power = s.power ∧ (s.plainResult o a r).settings = s.settings ∧
    (s.plainResult o a r).refused = s.refused ∧ (s.plainResult o a r).time = s.time ∧
    (s.plainResult o a r).ident = s.ident ∧ (s.plainResult o a r).bus = s.bus ∧
    (s.plainResult o a r).watches = s.watches ∧ (s.plainResult o a r).inputs = s.inputs ∧
    (s.plainResult o a r).visit = s.visit ∧ (s.plainResult o a r).duty = s.duty ∧
    (s.plainResult o a r).freeIdx = s.freeIdx := by
  unfold State.plainResult; (repeat' split) <;> simp

@[simp] theorem stepResult_frame (p : BusStep) (r : BusResult) :
    (s.stepResult p r).pending = s.pending ∧ (s.stepResult p r).hostData = s.hostData ∧
    (s.stepResult p r).power = s.power ∧ (s.stepResult p r).settings = s.settings ∧
    (s.stepResult p r).refused = s.refused ∧ (s.stepResult p r).time = s.time ∧ (s.stepResult p r).ident = s.ident ∧
    (s.stepResult p r).bus = s.bus ∧ (s.stepResult p r).inputs = s.inputs ∧ (s.stepResult p r).visit = s.visit ∧
    (s.stepResult p r).freeIdx = s.freeIdx := by
  unfold State.stepResult; split <;> (try split) <;> simp

@[simp] theorem busResult_frame (r : BusResult) :
    (s.busResult r).pending = s.pending ∧ (s.busResult r).hostData = s.hostData ∧ (s.busResult r).power = s.power ∧
    (s.busResult r).settings = s.settings ∧ (s.busResult r).refused = s.refused ∧ (s.busResult r).time = s.time ∧
    (s.busResult r).ident = s.ident ∧ (s.busResult r).bus = s.bus ∧ (s.busResult r).inputs = s.inputs ∧
    (s.busResult r).visit = s.visit ∧ (s.busResult r).freeIdx = s.freeIdx := by
  unfold State.busResult; (repeat' split) <;> simp

end Sys2Proof.Machine.State
end

