-- ==== Sys2Proof/Laws/FrameBusUnit.lean ====
section
/-! SUPPORT. What the operations of the Instrument Bus Controller leave unchanged: one lemma per operation. -/

namespace Sys2Proof.Machine.State

variable (s : State)

@[simp] theorem countFrame_frame :
    (s.countFrame).pending = s.pending ∧ (s.countFrame).hostData = s.hostData ∧ (s.countFrame).power = s.power ∧
    (s.countFrame).settings = s.settings ∧ (s.countFrame).refused = s.refused ∧ (s.countFrame).time = s.time ∧
    (s.countFrame).wake = s.wake ∧ (s.countFrame).ident = s.ident ∧ (s.countFrame).req = s.req ∧
    (s.countFrame).engine = s.engine ∧ (s.countFrame).watches = s.watches ∧ (s.countFrame).coll = s.coll ∧
    (s.countFrame).inputs = s.inputs ∧ (s.countFrame).visit = s.visit ∧ (s.countFrame).duty = s.duty ∧
    (s.countFrame).freeIdx = s.freeIdx := by
  simp [State.countFrame]

@[simp] theorem countGood_frame :
    (s.countGood).pending = s.pending ∧ (s.countGood).hostData = s.hostData ∧ (s.countGood).power = s.power ∧
    (s.countGood).settings = s.settings ∧ (s.countGood).refused = s.refused ∧ (s.countGood).time = s.time ∧
    (s.countGood).wake = s.wake ∧ (s.countGood).ident = s.ident ∧ (s.countGood).req = s.req ∧
    (s.countGood).engine = s.engine ∧ (s.countGood).watches = s.watches ∧ (s.countGood).coll = s.coll ∧
    (s.countGood).inputs = s.inputs ∧ (s.countGood).visit = s.visit ∧ (s.countGood).duty = s.duty ∧
    (s.countGood).freeIdx = s.freeIdx := by
  simp [State.countGood]

@[simp] theorem countSilent_frame :
    (s.countSilent).pending = s.pending ∧ (s.countSilent).hostData = s.hostData ∧ (s.countSilent).power = s.power ∧
    (s.countSilent).settings = s.settings ∧ (s.countSilent).refused = s.refused ∧ (s.countSilent).time = s.time ∧
    (s.countSilent).wake = s.wake ∧ (s.countSilent).ident = s.ident ∧ (s.countSilent).req = s.req ∧
    (s.countSilent).engine = s.engine ∧ (s.countSilent).watches = s.watches ∧ (s.countSilent).coll = s.coll ∧
    (s.countSilent).inputs = s.inputs ∧ (s.countSilent).visit = s.visit ∧ (s.countSilent).duty = s.duty ∧
    (s.countSilent).freeIdx = s.freeIdx := by
  simp [State.countSilent]

@[simp] theorem countGarbled_frame :
    (s.countGarbled).pending = s.pending ∧ (s.countGarbled).hostData = s.hostData ∧
    (s.countGarbled).power = s.power ∧ (s.countGarbled).settings = s.settings ∧
    (s.countGarbled).refused = s.refused ∧ (s.countGarbled).time = s.time ∧ (s.countGarbled).wake = s.wake ∧
    (s.countGarbled).ident = s.ident ∧ (s.countGarbled).req = s.req ∧ (s.countGarbled).engine = s.engine ∧
    (s.countGarbled).watches = s.watches ∧ (s.countGarbled).coll = s.coll ∧ (s.countGarbled).inputs = s.inputs ∧
    (s.countGarbled).visit = s.visit ∧ (s.countGarbled).duty = s.duty ∧ (s.countGarbled).freeIdx = s.freeIdx := by
  simp [State.countGarbled]

@[simp] theorem countOdd_frame :
    (s.countOdd).pending = s.pending ∧ (s.countOdd).hostData = s.hostData ∧ (s.countOdd).power = s.power ∧
    (s.countOdd).settings = s.settings ∧ (s.countOdd).refused = s.refused ∧ (s.countOdd).time = s.time ∧
    (s.countOdd).wake = s.wake ∧ (s.countOdd).ident = s.ident ∧ (s.countOdd).req = s.req ∧
    (s.countOdd).engine = s.engine ∧ (s.countOdd).watches = s.watches ∧ (s.countOdd).coll = s.coll ∧
    (s.countOdd).inputs = s.inputs ∧ (s.countOdd).visit = s.visit ∧ (s.countOdd).duty = s.duty ∧
    (s.countOdd).freeIdx = s.freeIdx := by
  simp [State.countOdd]

@[simp] theorem countStray_frame :
    (s.countStray).pending = s.pending ∧ (s.countStray).hostData = s.hostData ∧ (s.countStray).power = s.power ∧
    (s.countStray).settings = s.settings ∧ (s.countStray).refused = s.refused ∧ (s.countStray).time = s.time ∧
    (s.countStray).wake = s.wake ∧ (s.countStray).ident = s.ident ∧ (s.countStray).req = s.req ∧
    (s.countStray).engine = s.engine ∧ (s.countStray).watches = s.watches ∧ (s.countStray).coll = s.coll ∧
    (s.countStray).inputs = s.inputs ∧ (s.countStray).visit = s.visit ∧ (s.countStray).duty = s.duty ∧
    (s.countStray).freeIdx = s.freeIdx := by
  simp [State.countStray]

@[simp] theorem countRollCall_frame :
    (s.countRollCall).pending = s.pending ∧ (s.countRollCall).hostData = s.hostData ∧
    (s.countRollCall).power = s.power ∧ (s.countRollCall).settings = s.settings ∧
    (s.countRollCall).refused = s.refused ∧ (s.countRollCall).time = s.time ∧ (s.countRollCall).wake = s.wake ∧
    (s.countRollCall).ident = s.ident ∧ (s.countRollCall).req = s.req ∧ (s.countRollCall).engine = s.engine ∧
    (s.countRollCall).watches = s.watches ∧ (s.countRollCall).coll = s.coll ∧ (s.countRollCall).inputs = s.inputs ∧
    (s.countRollCall).visit = s.visit ∧ (s.countRollCall).duty = s.duty ∧
    (s.countRollCall).freeIdx = s.freeIdx := by
  simp [State.countRollCall]

@[simp] theorem reportStation_frame (i : Fin 30) (o : StationState) (c : Nat) :
    (s.reportStation i o c).pending = s.pending ∧ (s.reportStation i o c).hostData = s.hostData ∧
    (s.reportStation i o c).power = s.power ∧ (s.reportStation i o c).settings = s.settings ∧
    (s.reportStation i o c).refused = s.refused ∧ (s.reportStation i o c).time = s.time ∧
    (s.reportStation i o c).ident = s.ident ∧ (s.reportStation i o c).req = s.req ∧
    (s.reportStation i o c).engine = s.engine ∧ (s.reportStation i o c).bus = s.bus ∧
    (s.reportStation i o c).watches = s.watches ∧ (s.reportStation i o c).inputs = s.inputs ∧
    (s.reportStation i o c).visit = s.visit ∧ (s.reportStation i o c).duty = s.duty ∧
    (s.reportStation i o c).freeIdx = s.freeIdx := by
  simp [State.reportStation]

@[simp] theorem heard_frame (i : Fin 30) (h : Exchange) :
    (s.heard i h).pending = s.pending ∧ (s.heard i h).hostData = s.hostData ∧ (s.heard i h).power = s.power ∧
    (s.heard i h).settings = s.settings ∧ (s.heard i h).refused = s.refused ∧ (s.heard i h).time = s.time ∧
    (s.heard i h).ident = s.ident ∧ (s.heard i h).req = s.req ∧ (s.heard i h).engine = s.engine ∧
    (s.heard i h).watches = s.watches ∧ (s.heard i h).inputs = s.inputs ∧ (s.heard i h).visit = s.visit ∧
    (s.heard i h).duty = s.duty := by
  simp only [State.heard]; (repeat' split) <;> simp

@[simp] theorem silence_frame (i : Fin 30) (h : Exchange) :
    (s.silence i h).pending = s.pending ∧ (s.silence i h).hostData = s.hostData ∧ (s.silence i h).power = s.power ∧
    (s.silence i h).settings = s.settings ∧ (s.silence i h).refused = s.refused ∧ (s.silence i h).time = s.time ∧
    (s.silence i h).ident = s.ident ∧ (s.silence i h).req = s.req ∧ (s.silence i h).engine = s.engine ∧
    (s.silence i h).watches = s.watches ∧ (s.silence i h).inputs = s.inputs ∧ (s.silence i h).visit = s.visit ∧
    (s.silence i h).duty = s.duty ∧ (s.silence i h).freeIdx = s.freeIdx := by
  simp only [State.silence]; (repeat' split) <;> simp

@[simp] theorem garble_frame (i : Fin 30) :
    (s.garble i).pending = s.pending ∧ (s.garble i).hostData = s.hostData ∧ (s.garble i).power = s.power ∧
    (s.garble i).settings = s.settings ∧ (s.garble i).refused = s.refused ∧ (s.garble i).time = s.time ∧
    (s.garble i).wake = s.wake ∧ (s.garble i).ident = s.ident ∧ (s.garble i).req = s.req ∧
    (s.garble i).engine = s.engine ∧ (s.garble i).watches = s.watches ∧ (s.garble i).coll = s.coll ∧
    (s.garble i).inputs = s.inputs ∧ (s.garble i).visit = s.visit ∧ (s.garble i).duty = s.duty ∧
    (s.garble i).freeIdx = s.freeIdx := by
  simp [State.garble]

@[simp] theorem attend_frame (i : Fin 30) :
    (s.attend i).pending = s.pending ∧ (s.attend i).hostData = s.hostData ∧ (s.attend i).power = s.power ∧
    (s.attend i).settings = s.settings ∧ (s.attend i).refused = s.refused ∧ (s.attend i).time = s.time ∧
    (s.attend i).ident = s.ident ∧ (s.attend i).watches = s.watches ∧ (s.attend i).inputs = s.inputs ∧
    (s.attend i).visit = s.visit ∧ (s.attend i).duty = s.duty ∧ (s.attend i).freeIdx = s.freeIdx := by
  unfold State.attend; (repeat' split) <;> simp

@[simp] theorem statusByte_frame (i : Fin 30) (b : Nat) :
    (s.statusByte i b).pending = s.pending ∧ (s.statusByte i b).hostData = s.hostData ∧
    (s.statusByte i b).power = s.power ∧ (s.statusByte i b).settings = s.settings ∧
    (s.statusByte i b).refused = s.refused ∧ (s.statusByte i b).time = s.time ∧ (s.statusByte i b).ident = s.ident ∧
    (s.statusByte i b).watches = s.watches ∧ (s.statusByte i b).inputs = s.inputs ∧
    (s.statusByte i b).visit = s.visit ∧ (s.statusByte i b).duty = s.duty ∧
    (s.statusByte i b).freeIdx = s.freeIdx := by
  unfold State.statusByte; (repeat' split) <;> simp

@[simp] theorem reexamine_frame (i : Fin 30) :
    (s.reexamine i).pending = s.pending ∧ (s.reexamine i).hostData = s.hostData ∧ (s.reexamine i).power = s.power ∧
    (s.reexamine i).settings = s.settings ∧ (s.reexamine i).refused = s.refused ∧ (s.reexamine i).time = s.time ∧
    (s.reexamine i).ident = s.ident ∧ (s.reexamine i).req = s.req ∧ (s.reexamine i).engine = s.engine ∧
    (s.reexamine i).watches = s.watches ∧ (s.reexamine i).inputs = s.inputs ∧ (s.reexamine i).visit = s.visit ∧
    (s.reexamine i).duty = s.duty ∧ (s.reexamine i).freeIdx = s.freeIdx := by
  simp only [State.reexamine]; (repeat' split) <;> simp

@[simp] theorem forget_frame (i : Fin 30) :
    (s.forget i).pending = s.pending ∧ (s.forget i).hostData = s.hostData ∧ (s.forget i).power = s.power ∧
    (s.forget i).settings = s.settings ∧ (s.forget i).refused = s.refused ∧ (s.forget i).time = s.time ∧
    (s.forget i).wake = s.wake ∧ (s.forget i).ident = s.ident ∧ (s.forget i).req = s.req ∧
    (s.forget i).engine = s.engine ∧ (s.forget i).watches = s.watches ∧ (s.forget i).coll = s.coll ∧
    (s.forget i).inputs = s.inputs ∧ (s.forget i).visit = s.visit ∧ (s.forget i).duty = s.duty ∧
    (s.forget i).freeIdx = s.freeIdx := by
  simp [State.forget]

@[simp] theorem setWaiting_frame (w : Option Work) :
    (s.setWaiting w).pending = s.pending ∧ (s.setWaiting w).mem = s.mem ∧ (s.setWaiting w).hostData = s.hostData ∧
    (s.setWaiting w).power = s.power ∧ (s.setWaiting w).settings = s.settings ∧
    (s.setWaiting w).refused = s.refused ∧ (s.setWaiting w).time = s.time ∧ (s.setWaiting w).wake = s.wake ∧
    (s.setWaiting w).ident = s.ident ∧ (s.setWaiting w).req = s.req ∧ (s.setWaiting w).engine = s.engine ∧
    (s.setWaiting w).watches = s.watches ∧ (s.setWaiting w).coll = s.coll ∧ (s.setWaiting w).inputs = s.inputs ∧
    (s.setWaiting w).visit = s.visit ∧ (s.setWaiting w).duty = s.duty ∧ (s.setWaiting w).freeIdx = s.freeIdx := by
  simp [State.setWaiting]

@[simp] theorem startDrain_frame :
    (s.startDrain).pending = s.pending ∧ (s.startDrain).hostData = s.hostData ∧ (s.startDrain).power = s.power ∧
    (s.startDrain).settings = s.settings ∧ (s.startDrain).refused = s.refused ∧ (s.startDrain).time = s.time ∧
    (s.startDrain).wake = s.wake ∧ (s.startDrain).ident = s.ident ∧ (s.startDrain).req = s.req ∧
    (s.startDrain).engine = s.engine ∧ (s.startDrain).watches = s.watches ∧ (s.startDrain).coll = s.coll ∧
    (s.startDrain).inputs = s.inputs ∧ (s.startDrain).visit = s.visit ∧ (s.startDrain).duty = s.duty ∧
    (s.startDrain).freeIdx = s.freeIdx := by
  simp [State.startDrain]

@[simp] theorem takeWork_frame (w : Work) :
    (s.takeWork w).pending = s.pending ∧ (s.takeWork w).hostData = s.hostData ∧ (s.takeWork w).power = s.power ∧
    (s.takeWork w).settings = s.settings ∧ (s.takeWork w).refused = s.refused ∧ (s.takeWork w).time = s.time ∧
    (s.takeWork w).ident = s.ident ∧ (s.takeWork w).inputs = s.inputs ∧ (s.takeWork w).visit = s.visit ∧
    (s.takeWork w).freeIdx = s.freeIdx := by
  unfold State.takeWork; (repeat' split) <;> simp

@[simp] theorem takeWaiting_frame :
    (s.takeWaiting).pending = s.pending ∧ (s.takeWaiting).hostData = s.hostData ∧ (s.takeWaiting).power = s.power ∧
    (s.takeWaiting).settings = s.settings ∧ (s.takeWaiting).refused = s.refused ∧ (s.takeWaiting).time = s.time ∧
    (s.takeWaiting).ident = s.ident ∧ (s.takeWaiting).inputs = s.inputs ∧ (s.takeWaiting).visit = s.visit ∧
    (s.takeWaiting).freeIdx = s.freeIdx := by
  unfold State.takeWaiting; (repeat' split) <;> simp

@[simp] theorem enterIdle_frame :
    (s.enterIdle).pending = s.pending ∧ (s.enterIdle).hostData = s.hostData ∧ (s.enterIdle).power = s.power ∧
    (s.enterIdle).settings = s.settings ∧ (s.enterIdle).refused = s.refused ∧ (s.enterIdle).time = s.time ∧
    (s.enterIdle).ident = s.ident ∧ (s.enterIdle).inputs = s.inputs ∧ (s.enterIdle).visit = s.visit ∧
    (s.enterIdle).freeIdx = s.freeIdx := by
  simp [State.enterIdle]

@[simp] theorem handWork_frame (w : Work) :
    (s.handWork w).pending = s.pending ∧ (s.handWork w).hostData = s.hostData ∧ (s.handWork w).power = s.power ∧
    (s.handWork w).settings = s.settings ∧ (s.handWork w).refused = s.refused ∧ (s.handWork w).time = s.time ∧
    (s.handWork w).ident = s.ident ∧ (s.handWork w).inputs = s.inputs ∧ (s.handWork w).visit = s.visit ∧
    (s.handWork w).freeIdx = s.freeIdx := by
  simp [State.handWork]

@[simp] theorem makePending_frame (b : VisitBroadcast) :
    (s.makePending b).pending = s.pending ∧ (s.makePending b).hostData = s.hostData ∧
    (s.makePending b).power = s.power ∧ (s.makePending b).settings = s.settings ∧
    (s.makePending b).refused = s.refused ∧ (s.makePending b).time = s.time ∧ (s.makePending b).ident = s.ident ∧
    (s.makePending b).inputs = s.inputs ∧ (s.makePending b).visit = s.visit ∧
    (s.makePending b).freeIdx = s.freeIdx := by
  simp [State.makePending]

@[simp] theorem cancelPending_frame :
    (s.cancelPending).pending = s.pending ∧ (s.cancelPending).mem = s.mem ∧
    (s.cancelPending).hostData = s.hostData ∧ (s.cancelPending).power = s.power ∧
    (s.cancelPending).settings = s.settings ∧ (s.cancelPending).refused = s.refused ∧
    (s.cancelPending).time = s.time ∧ (s.cancelPending).wake = s.wake ∧ (s.cancelPending).ident = s.ident ∧
    (s.cancelPending).req = s.req ∧ (s.cancelPending).engine = s.engine ∧ (s.cancelPending).watches = s.watches ∧
    (s.cancelPending).coll = s.coll ∧ (s.cancelPending).inputs = s.inputs ∧ (s.cancelPending).visit = s.visit ∧
    (s.cancelPending).duty = s.duty ∧ (s.cancelPending).freeIdx = s.freeIdx := by
  simp [State.cancelPending]

@[simp] theorem strayBegins_frame :
    (s.strayBegins).pending = s.pending ∧ (s.strayBegins).hostData = s.hostData ∧ (s.strayBegins).power = s.power ∧
    (s.strayBegins).settings = s.settings ∧ (s.strayBegins).refused = s.refused ∧ (s.strayBegins).time = s.time ∧
    (s.strayBegins).wake = s.wake ∧ (s.strayBegins).ident = s.ident ∧ (s.strayBegins).req = s.req ∧
    (s.strayBegins).engine = s.engine ∧ (s.strayBegins).watches = s.watches ∧ (s.strayBegins).coll = s.coll ∧
    (s.strayBegins).inputs = s.inputs ∧ (s.strayBegins).visit = s.visit ∧ (s.strayBegins).duty = s.duty ∧
    (s.strayBegins).freeIdx = s.freeIdx := by
  unfold State.strayBegins; (repeat' split) <;> simp

@[simp] theorem strayEnds_frame :
    (s.strayEnds).pending = s.pending ∧ (s.strayEnds).hostData = s.hostData ∧ (s.strayEnds).power = s.power ∧
    (s.strayEnds).settings = s.settings ∧ (s.strayEnds).refused = s.refused ∧ (s.strayEnds).time = s.time ∧
    (s.strayEnds).wake = s.wake ∧ (s.strayEnds).ident = s.ident ∧ (s.strayEnds).req = s.req ∧
    (s.strayEnds).engine = s.engine ∧ (s.strayEnds).watches = s.watches ∧ (s.strayEnds).coll = s.coll ∧
    (s.strayEnds).inputs = s.inputs ∧ (s.strayEnds).visit = s.visit ∧ (s.strayEnds).duty = s.duty ∧
    (s.strayEnds).freeIdx = s.freeIdx := by
  unfold State.strayEnds; (repeat' split) <;> simp

@[simp] theorem judged_frame (a : Awaited) (bits : List Bool) :
    ((s.judged a bits).1).pending = s.pending ∧ ((s.judged a bits).1).hostData = s.hostData ∧
    ((s.judged a bits).1).power = s.power ∧ ((s.judged a bits).1).settings = s.settings ∧
    ((s.judged a bits).1).refused = s.refused ∧ ((s.judged a bits).1).time = s.time ∧
    ((s.judged a bits).1).ident = s.ident ∧ ((s.judged a bits).1).watches = s.watches ∧
    ((s.judged a bits).1).inputs = s.inputs ∧ ((s.judged a bits).1).visit = s.visit ∧
    ((s.judged a bits).1).duty = s.duty := by
  unfold State.judged; (repeat' split) <;> simp

@[simp] theorem transactionReply_frame (t : Transaction) (bits : List Bool) :
    (s.transactionReply t bits).pending = s.pending ∧ (s.transactionReply t bits).hostData = s.hostData ∧
    (s.transactionReply t bits).power = s.power ∧ (s.transactionReply t bits).settings = s.settings ∧
    (s.transactionReply t bits).refused = s.refused ∧ (s.transactionReply t bits).time = s.time ∧
    (s.transactionReply t bits).ident = s.ident ∧ (s.transactionReply t bits).inputs = s.inputs ∧
    (s.transactionReply t bits).visit = s.visit := by
  simp [State.transactionReply]

@[simp] theorem endBlock_frame (e : BlockEnding) (ws : List Nat) :
    (s.endBlock e ws).pending = s.pending ∧ (s.endBlock e ws).hostData = s.hostData ∧
    (s.endBlock e ws).power = s.power ∧ (s.endBlock e ws).settings = s.settings ∧
    (s.endBlock e ws).refused = s.refused ∧ (s.endBlock e ws).time = s.time ∧ (s.endBlock e ws).ident = s.ident ∧
    (s.endBlock e ws).inputs = s.inputs ∧ (s.endBlock e ws).visit = s.visit ∧
    (s.endBlock e ws).freeIdx = s.freeIdx := by
  unfold State.endBlock; (repeat' split) <;> simp

@[simp] theorem blockReply_frame (b : BlockRead) (n : Nat) (ws : List Nat) (bits : List Bool) :
    (s.blockReply b n ws bits).pending = s.pending ∧ (s.blockReply b n ws bits).hostData = s.hostData ∧
    (s.blockReply b n ws bits).power = s.power ∧ (s.blockReply b n ws bits).settings = s.settings ∧
    (s.blockReply b n ws bits).refused = s.refused ∧ (s.blockReply b n ws bits).time = s.time ∧
    (s.blockReply b n ws bits).ident = s.ident ∧ (s.blockReply b n ws bits).inputs = s.inputs ∧
    (s.blockReply b n ws bits).visit = s.visit := by
  simp only [State.blockReply]; (repeat' split) <;> simp

end Sys2Proof.Machine.State
end

