-- ==== Sys2Proof/Laws/FrameInputs.lean ====
section
/-! SUPPORT. What the operations of the visit machine and the Contact Input Unit leave unchanged: one lemma per operation. -/

namespace Sys2Proof.Machine.State

variable (s : State)

@[simp] theorem offerVisit_frame (e : VisitEvent) :
    (s.offerVisit e).pending = s.pending ∧ (s.offerVisit e).hostData = s.hostData ∧
    (s.offerVisit e).power = s.power ∧ (s.offerVisit e).settings = s.settings ∧
    (s.offerVisit e).refused = s.refused ∧ (s.offerVisit e).time = s.time ∧ (s.offerVisit e).ident = s.ident ∧
    (s.offerVisit e).req = s.req ∧ (s.offerVisit e).engine = s.engine ∧ (s.offerVisit e).bus = s.bus ∧
    (s.offerVisit e).watches = s.watches ∧ (s.offerVisit e).inputs = s.inputs ∧ (s.offerVisit e).visit = s.visit ∧
    (s.offerVisit e).duty = s.duty ∧ (s.offerVisit e).freeIdx = s.freeIdx := by
  simp [State.offerVisit]

@[simp] theorem visitBegin_frame (i : Fin 16) (v : Stamp) :
    (s.visitBegin i v).pending = s.pending ∧ (s.visitBegin i v).hostData = s.hostData ∧
    (s.visitBegin i v).power = s.power ∧ (s.visitBegin i v).settings = s.settings ∧
    (s.visitBegin i v).refused = s.refused ∧ (s.visitBegin i v).time = s.time ∧ (s.visitBegin i v).ident = s.ident ∧
    (s.visitBegin i v).inputs = s.inputs ∧ (s.visitBegin i v).freeIdx = s.freeIdx := by
  simp [State.visitBegin]

@[simp] theorem visitEnding_frame :
    (s.visitEnding).pending = s.pending ∧ (s.visitEnding).hostData = s.hostData ∧ (s.visitEnding).power = s.power ∧
    (s.visitEnding).settings = s.settings ∧ (s.visitEnding).refused = s.refused ∧ (s.visitEnding).time = s.time ∧
    (s.visitEnding).ident = s.ident ∧ (s.visitEnding).inputs = s.inputs ∧ (s.visitEnding).freeIdx = s.freeIdx := by
  simp [State.visitEnding]

@[simp] theorem visitAbort_frame :
    (s.visitAbort).pending = s.pending ∧ (s.visitAbort).hostData = s.hostData ∧ (s.visitAbort).power = s.power ∧
    (s.visitAbort).settings = s.settings ∧ (s.visitAbort).refused = s.refused ∧ (s.visitAbort).time = s.time ∧
    (s.visitAbort).ident = s.ident ∧ (s.visitAbort).req = s.req ∧ (s.visitAbort).engine = s.engine ∧
    (s.visitAbort).watches = s.watches ∧ (s.visitAbort).inputs = s.inputs ∧ (s.visitAbort).duty = s.duty ∧
    (s.visitAbort).freeIdx = s.freeIdx := by
  simp [State.visitAbort]

@[simp] theorem visitActive_frame (i : Fin 16) (v : Stamp) :
    (s.visitActive i v).pending = s.pending ∧ (s.visitActive i v).hostData = s.hostData ∧
    (s.visitActive i v).power = s.power ∧ (s.visitActive i v).settings = s.settings ∧
    (s.visitActive i v).refused = s.refused ∧ (s.visitActive i v).time = s.time ∧
    (s.visitActive i v).ident = s.ident ∧ (s.visitActive i v).inputs = s.inputs ∧
    (s.visitActive i v).freeIdx = s.freeIdx := by
  unfold State.visitActive; (repeat' split) <;> simp

@[simp] theorem visitInactive_frame :
    (s.visitInactive).pending = s.pending ∧ (s.visitInactive).hostData = s.hostData ∧
    (s.visitInactive).power = s.power ∧ (s.visitInactive).settings = s.settings ∧
    (s.visitInactive).refused = s.refused ∧ (s.visitInactive).time = s.time ∧ (s.visitInactive).ident = s.ident ∧
    (s.visitInactive).inputs = s.inputs ∧ (s.visitInactive).freeIdx = s.freeIdx := by
  unfold State.visitInactive; (repeat' split) <;> simp

@[simp] theorem visitForcedEnd_frame :
    (s.visitForcedEnd).pending = s.pending ∧ (s.visitForcedEnd).hostData = s.hostData ∧
    (s.visitForcedEnd).power = s.power ∧ (s.visitForcedEnd).settings = s.settings ∧
    (s.visitForcedEnd).refused = s.refused ∧ (s.visitForcedEnd).time = s.time ∧ (s.visitForcedEnd).ident = s.ident ∧
    (s.visitForcedEnd).inputs = s.inputs ∧ (s.visitForcedEnd).freeIdx = s.freeIdx := by
  unfold State.visitForcedEnd; (repeat' split) <;> simp

@[simp] theorem visitReport_frame (b : VisitBroadcast) :
    (s.visitReport b).pending = s.pending ∧ (s.visitReport b).hostData = s.hostData ∧
    (s.visitReport b).power = s.power ∧ (s.visitReport b).settings = s.settings ∧
    (s.visitReport b).refused = s.refused ∧ (s.visitReport b).time = s.time ∧ (s.visitReport b).ident = s.ident ∧
    (s.visitReport b).inputs = s.inputs ∧ (s.visitReport b).freeIdx = s.freeIdx := by
  unfold State.visitReport; (repeat' split) <;> simp

@[simp] theorem writeStatus_frame (i : Fin 16) (h : Nat) :
    (s.writeStatus i h).pending = s.pending ∧ (s.writeStatus i h).hostData = s.hostData ∧
    (s.writeStatus i h).power = s.power ∧ (s.writeStatus i h).settings = s.settings ∧
    (s.writeStatus i h).refused = s.refused ∧ (s.writeStatus i h).time = s.time ∧
    (s.writeStatus i h).wake = s.wake ∧ (s.writeStatus i h).ident = s.ident ∧ (s.writeStatus i h).req = s.req ∧
    (s.writeStatus i h).engine = s.engine ∧ (s.writeStatus i h).bus = s.bus ∧
    (s.writeStatus i h).watches = s.watches ∧ (s.writeStatus i h).coll = s.coll ∧
    (s.writeStatus i h).inputs = s.inputs ∧ (s.writeStatus i h).visit = s.visit ∧
    (s.writeStatus i h).duty = s.duty ∧ (s.writeStatus i h).freeIdx = s.freeIdx := by
  simp [State.writeStatus]

@[simp] theorem refreshStatus_frame (i : Fin 16) :
    (s.refreshStatus i).pending = s.pending ∧ (s.refreshStatus i).hostData = s.hostData ∧
    (s.refreshStatus i).power = s.power ∧ (s.refreshStatus i).settings = s.settings ∧
    (s.refreshStatus i).refused = s.refused ∧ (s.refreshStatus i).time = s.time ∧
    (s.refreshStatus i).wake = s.wake ∧ (s.refreshStatus i).ident = s.ident ∧ (s.refreshStatus i).req = s.req ∧
    (s.refreshStatus i).engine = s.engine ∧ (s.refreshStatus i).bus = s.bus ∧
    (s.refreshStatus i).watches = s.watches ∧ (s.refreshStatus i).coll = s.coll ∧
    (s.refreshStatus i).inputs = s.inputs ∧ (s.refreshStatus i).visit = s.visit ∧
    (s.refreshStatus i).duty = s.duty ∧ (s.refreshStatus i).freeIdx = s.freeIdx := by
  simp [State.refreshStatus]

@[simp] theorem putInput_frame (i : Fin 16) (x : Input) :
    (s.putInput i x).pending = s.pending ∧ (s.putInput i x).hostData = s.hostData ∧
    (s.putInput i x).power = s.power ∧ (s.putInput i x).settings = s.settings ∧
    (s.putInput i x).refused = s.refused ∧ (s.putInput i x).time = s.time ∧ (s.putInput i x).wake = s.wake ∧
    (s.putInput i x).ident = s.ident ∧ (s.putInput i x).req = s.req ∧ (s.putInput i x).engine = s.engine ∧
    (s.putInput i x).bus = s.bus ∧ (s.putInput i x).watches = s.watches ∧ (s.putInput i x).coll = s.coll ∧
    (s.putInput i x).visit = s.visit ∧ (s.putInput i x).duty = s.duty ∧ (s.putInput i x).freeIdx = s.freeIdx := by
  simp only [State.putInput]; (repeat' split) <;> simp

@[simp] theorem putPeriod_frame (i : Fin 16) (x : Input) :
    (s.putPeriod i x).pending = s.pending ∧ (s.putPeriod i x).hostData = s.hostData ∧
    (s.putPeriod i x).power = s.power ∧ (s.putPeriod i x).settings = s.settings ∧
    (s.putPeriod i x).refused = s.refused ∧ (s.putPeriod i x).time = s.time ∧ (s.putPeriod i x).wake = s.wake ∧
    (s.putPeriod i x).ident = s.ident ∧ (s.putPeriod i x).req = s.req ∧ (s.putPeriod i x).engine = s.engine ∧
    (s.putPeriod i x).bus = s.bus ∧ (s.putPeriod i x).watches = s.watches ∧ (s.putPeriod i x).coll = s.coll ∧
    (s.putPeriod i x).visit = s.visit ∧ (s.putPeriod i x).duty = s.duty ∧
    (s.putPeriod i x).freeIdx = s.freeIdx := by
  simp [State.putPeriod]

@[simp] theorem countEdge_frame (i : Fin 16) (a : Bool) :
    (s.countEdge i a).pending = s.pending ∧ (s.countEdge i a).hostData = s.hostData ∧
    (s.countEdge i a).power = s.power ∧ (s.countEdge i a).settings = s.settings ∧
    (s.countEdge i a).refused = s.refused ∧ (s.countEdge i a).time = s.time ∧ (s.countEdge i a).wake = s.wake ∧
    (s.countEdge i a).ident = s.ident ∧ (s.countEdge i a).req = s.req ∧ (s.countEdge i a).engine = s.engine ∧
    (s.countEdge i a).bus = s.bus ∧ (s.countEdge i a).watches = s.watches ∧ (s.countEdge i a).coll = s.coll ∧
    (s.countEdge i a).visit = s.visit ∧ (s.countEdge i a).duty = s.duty ∧
    (s.countEdge i a).freeIdx = s.freeIdx := by
  unfold State.countEdge; (repeat' split) <;> simp

@[simp] theorem contactEdge_frame (i : Fin 16) (a : Bool) :
    (s.contactEdge i a).pending = s.pending ∧ (s.contactEdge i a).hostData = s.hostData ∧
    (s.contactEdge i a).power = s.power ∧ (s.contactEdge i a).settings = s.settings ∧
    (s.contactEdge i a).refused = s.refused ∧ (s.contactEdge i a).time = s.time ∧
    (s.contactEdge i a).ident = s.ident ∧ (s.contactEdge i a).freeIdx = s.freeIdx := by
  simp only [State.contactEdge]; (repeat' split) <;> simp

@[simp] theorem endWindow_frame (i : Fin 16) :
    (s.endWindow i).pending = s.pending ∧ (s.endWindow i).hostData = s.hostData ∧ (s.endWindow i).power = s.power ∧
    (s.endWindow i).settings = s.settings ∧ (s.endWindow i).refused = s.refused ∧ (s.endWindow i).time = s.time ∧
    (s.endWindow i).ident = s.ident ∧ (s.endWindow i).freeIdx = s.freeIdx := by
  simp [State.endWindow]

@[simp] theorem endFirstWindow_frame (i : Fin 16) :
    (s.endFirstWindow i).pending = s.pending ∧ (s.endFirstWindow i).hostData = s.hostData ∧
    (s.endFirstWindow i).power = s.power ∧ (s.endFirstWindow i).settings = s.settings ∧
    (s.endFirstWindow i).refused = s.refused ∧ (s.endFirstWindow i).time = s.time ∧
    (s.endFirstWindow i).wake = s.wake ∧ (s.endFirstWindow i).ident = s.ident ∧ (s.endFirstWindow i).req = s.req ∧
    (s.endFirstWindow i).engine = s.engine ∧ (s.endFirstWindow i).bus = s.bus ∧
    (s.endFirstWindow i).watches = s.watches ∧ (s.endFirstWindow i).coll = s.coll ∧
    (s.endFirstWindow i).visit = s.visit ∧ (s.endFirstWindow i).duty = s.duty ∧
    (s.endFirstWindow i).freeIdx = s.freeIdx := by
  simp [State.endFirstWindow]

@[simp] theorem beginFirstWindow_frame (i : Fin 16) :
    (s.beginFirstWindow i).pending = s.pending ∧ (s.beginFirstWindow i).hostData = s.hostData ∧
    (s.beginFirstWindow i).power = s.power ∧ (s.beginFirstWindow i).settings = s.settings ∧
    (s.beginFirstWindow i).refused = s.refused ∧ (s.beginFirstWindow i).time = s.time ∧
    (s.beginFirstWindow i).wake = s.wake ∧ (s.beginFirstWindow i).ident = s.ident ∧
    (s.beginFirstWindow i).req = s.req ∧ (s.beginFirstWindow i).engine = s.engine ∧
    (s.beginFirstWindow i).bus = s.bus ∧ (s.beginFirstWindow i).watches = s.watches ∧
    (s.beginFirstWindow i).coll = s.coll ∧ (s.beginFirstWindow i).visit = s.visit ∧
    (s.beginFirstWindow i).duty = s.duty ∧ (s.beginFirstWindow i).freeIdx = s.freeIdx := by
  simp only [State.beginFirstWindow]; (repeat' split) <;> simp

@[simp] theorem settleEvent_frame (i : Fin 16) :
    (s.settleEvent i).pending = s.pending ∧ (s.settleEvent i).hostData = s.hostData ∧
    (s.settleEvent i).power = s.power ∧ (s.settleEvent i).settings = s.settings ∧
    (s.settleEvent i).refused = s.refused ∧ (s.settleEvent i).time = s.time ∧ (s.settleEvent i).ident = s.ident ∧
    (s.settleEvent i).inputs = s.inputs ∧ (s.settleEvent i).freeIdx = s.freeIdx := by
  unfold State.settleEvent; (repeat' split) <;> simp

@[simp] theorem settleInput_frame (i : Fin 16) (b : Bool) :
    (s.settleInput i b).pending = s.pending ∧ (s.settleInput i b).hostData = s.hostData ∧
    (s.settleInput i b).power = s.power ∧ (s.settleInput i b).settings = s.settings ∧
    (s.settleInput i b).refused = s.refused ∧ (s.settleInput i b).time = s.time ∧
    (s.settleInput i b).ident = s.ident ∧ (s.settleInput i b).req = s.req ∧ (s.settleInput i b).engine = s.engine ∧
    (s.settleInput i b).bus = s.bus ∧ (s.settleInput i b).watches = s.watches ∧
    (s.settleInput i b).visit = s.visit ∧ (s.settleInput i b).freeIdx = s.freeIdx := by
  simp only [State.settleInput]; (repeat' split) <;> simp

@[simp] theorem disableInput_frame (i : Fin 16) (b : Bool) :
    (s.disableInput i b).pending = s.pending ∧ (s.disableInput i b).hostData = s.hostData ∧
    (s.disableInput i b).power = s.power ∧ (s.disableInput i b).settings = s.settings ∧
    (s.disableInput i b).refused = s.refused ∧ (s.disableInput i b).time = s.time ∧
    (s.disableInput i b).ident = s.ident ∧ (s.disableInput i b).req = s.req ∧
    (s.disableInput i b).engine = s.engine ∧ (s.disableInput i b).bus = s.bus ∧
    (s.disableInput i b).watches = s.watches ∧ (s.disableInput i b).visit = s.visit ∧
    (s.disableInput i b).freeIdx = s.freeIdx := by
  simp only [State.disableInput]; (repeat' split) <;> simp

@[simp] theorem tachEdge_frame (i : Fin 16) :
    (s.tachEdge i).pending = s.pending ∧ (s.tachEdge i).hostData = s.hostData ∧ (s.tachEdge i).power = s.power ∧
    (s.tachEdge i).settings = s.settings ∧ (s.tachEdge i).refused = s.refused ∧ (s.tachEdge i).time = s.time ∧
    (s.tachEdge i).ident = s.ident ∧ (s.tachEdge i).req = s.req ∧ (s.tachEdge i).engine = s.engine ∧
    (s.tachEdge i).bus = s.bus ∧ (s.tachEdge i).watches = s.watches ∧ (s.tachEdge i).visit = s.visit ∧
    (s.tachEdge i).freeIdx = s.freeIdx := by
  simp only [State.tachEdge]; (repeat' split) <;> simp

@[simp] theorem stallInput_frame (i : Fin 16) :
    (s.stallInput i).pending = s.pending ∧ (s.stallInput i).hostData = s.hostData ∧
    (s.stallInput i).power = s.power ∧ (s.stallInput i).settings = s.settings ∧
    (s.stallInput i).refused = s.refused ∧ (s.stallInput i).time = s.time ∧ (s.stallInput i).ident = s.ident ∧
    (s.stallInput i).req = s.req ∧ (s.stallInput i).engine = s.engine ∧ (s.stallInput i).bus = s.bus ∧
    (s.stallInput i).watches = s.watches ∧ (s.stallInput i).visit = s.visit ∧
    (s.stallInput i).freeIdx = s.freeIdx := by
  simp [State.stallInput]

@[simp] theorem compareStall_frame (i : Fin 16) :
    (s.compareStall i).pending = s.pending ∧ (s.compareStall i).hostData = s.hostData ∧
    (s.compareStall i).power = s.power ∧ (s.compareStall i).settings = s.settings ∧
    (s.compareStall i).refused = s.refused ∧ (s.compareStall i).time = s.time ∧ (s.compareStall i).ident = s.ident ∧
    (s.compareStall i).req = s.req ∧ (s.compareStall i).engine = s.engine ∧ (s.compareStall i).bus = s.bus ∧
    (s.compareStall i).watches = s.watches ∧ (s.compareStall i).visit = s.visit ∧
    (s.compareStall i).freeIdx = s.freeIdx := by
  simp only [State.compareStall]; (repeat' split) <;> simp

@[simp] theorem setRaw_frame (i : Fin 16) (h : Bool) :
    (s.setRaw i h).pending = s.pending ∧ (s.setRaw i h).mem = s.mem ∧ (s.setRaw i h).hostData = s.hostData ∧
    (s.setRaw i h).power = s.power ∧ (s.setRaw i h).settings = s.settings ∧ (s.setRaw i h).refused = s.refused ∧
    (s.setRaw i h).time = s.time ∧ (s.setRaw i h).wake = s.wake ∧ (s.setRaw i h).ident = s.ident ∧
    (s.setRaw i h).req = s.req ∧ (s.setRaw i h).engine = s.engine ∧ (s.setRaw i h).bus = s.bus ∧
    (s.setRaw i h).watches = s.watches ∧ (s.setRaw i h).coll = s.coll ∧ (s.setRaw i h).visit = s.visit ∧
    (s.setRaw i h).duty = s.duty ∧ (s.setRaw i h).freeIdx = s.freeIdx := by
  simp [State.setRaw]

@[simp] theorem contactRaw_frame (i : Fin 16) :
    (s.contactRaw i).pending = s.pending ∧ (s.contactRaw i).hostData = s.hostData ∧
    (s.contactRaw i).power = s.power ∧ (s.contactRaw i).settings = s.settings ∧
    (s.contactRaw i).refused = s.refused ∧ (s.contactRaw i).time = s.time ∧ (s.contactRaw i).ident = s.ident ∧
    (s.contactRaw i).freeIdx = s.freeIdx := by
  simp only [State.contactRaw]; (repeat' split) <;> simp

@[simp] theorem tachRaw_frame (i : Fin 16) :
    (s.tachRaw i).pending = s.pending ∧ (s.tachRaw i).hostData = s.hostData ∧ (s.tachRaw i).power = s.power ∧
    (s.tachRaw i).settings = s.settings ∧ (s.tachRaw i).refused = s.refused ∧ (s.tachRaw i).time = s.time ∧
    (s.tachRaw i).ident = s.ident ∧ (s.tachRaw i).req = s.req ∧ (s.tachRaw i).engine = s.engine ∧
    (s.tachRaw i).bus = s.bus ∧ (s.tachRaw i).watches = s.watches ∧ (s.tachRaw i).visit = s.visit ∧
    (s.tachRaw i).freeIdx = s.freeIdx := by
  unfold State.tachRaw; (repeat' split) <;> simp

end Sys2Proof.Machine.State
end

