-- ==== Sys2Proof/Laws/FrameCommands.lean ====
section
/-! SUPPORT. What the operations of the bus commands, the steps, the requests, the apply and the timers leave unchanged: one lemma per operation. -/

namespace Sys2Proof.Machine.State

variable (s : State)

@[simp] theorem takeSlotReading_frame (i : Fin 30) (r : SlotReading) :
    (s.takeSlotReading i r).pending = s.pending ∧ (s.takeSlotReading i r).hostData = s.hostData ∧
    (s.takeSlotReading i r).power = s.power ∧ (s.takeSlotReading i r).settings = s.settings ∧
    (s.takeSlotReading i r).refused = s.refused ∧ (s.takeSlotReading i r).time = s.time ∧
    (s.takeSlotReading i r).ident = s.ident ∧ (s.takeSlotReading i r).watches = s.watches ∧
    (s.takeSlotReading i r).inputs = s.inputs ∧ (s.takeSlotReading i r).visit = s.visit ∧
    (s.takeSlotReading i r).duty = s.duty := by
  unfold State.takeSlotReading; (repeat' split) <;> simp

@[simp] theorem passSlot_frame (i : Fin 30) (p a : Word) (r : SlotReading) :
    (s.passSlot i p a r).pending = s.pending ∧ (s.passSlot i p a r).hostData = s.hostData ∧
    (s.passSlot i p a r).power = s.power ∧ (s.passSlot i p a r).settings = s.settings ∧
    (s.passSlot i p a r).refused = s.refused ∧ (s.passSlot i p a r).time = s.time ∧
    (s.passSlot i p a r).ident = s.ident ∧ (s.passSlot i p a r).inputs = s.inputs ∧
    (s.passSlot i p a r).visit = s.visit := by
  unfold State.passSlot; (repeat' split) <;> simp

@[simp] theorem visitSent_frame (b : VisitBroadcast) :
    (s.visitSent b).pending = s.pending ∧ (s.visitSent b).hostData = s.hostData ∧ (s.visitSent b).power = s.power ∧
    (s.visitSent b).settings = s.settings ∧ (s.visitSent b).refused = s.refused ∧ (s.visitSent b).time = s.time ∧
    (s.visitSent b).ident = s.ident ∧ (s.visitSent b).inputs = s.inputs ∧ (s.visitSent b).freeIdx = s.freeIdx := by
  simp [State.visitSent]

@[simp] theorem replyBegins_frame :
    (s.replyBegins).pending = s.pending ∧ (s.replyBegins).hostData = s.hostData ∧ (s.replyBegins).power = s.power ∧
    (s.replyBegins).settings = s.settings ∧ (s.replyBegins).refused = s.refused ∧ (s.replyBegins).time = s.time ∧
    (s.replyBegins).wake = s.wake ∧ (s.replyBegins).ident = s.ident ∧ (s.replyBegins).req = s.req ∧
    (s.replyBegins).engine = s.engine ∧ (s.replyBegins).watches = s.watches ∧ (s.replyBegins).coll = s.coll ∧
    (s.replyBegins).inputs = s.inputs ∧ (s.replyBegins).visit = s.visit ∧ (s.replyBegins).duty = s.duty ∧
    (s.replyBegins).freeIdx = s.freeIdx := by
  unfold State.replyBegins; (repeat' split) <;> simp

@[simp] theorem badStep_frame (c : Ctx) :
    (s.badStep c).pending = s.pending ∧ (s.badStep c).hostData = s.hostData ∧ (s.badStep c).power = s.power ∧
    (s.badStep c).settings = s.settings ∧ (s.badStep c).refused = s.refused ∧ (s.badStep c).time = s.time ∧
    (s.badStep c).ident = s.ident ∧ (s.badStep c).bus = s.bus ∧ (s.badStep c).watches = s.watches ∧
    (s.badStep c).inputs = s.inputs ∧ (s.badStep c).visit = s.visit ∧ (s.badStep c).duty = s.duty ∧
    (s.badStep c).freeIdx = s.freeIdx := by
  simp [State.badStep]

@[simp] theorem beginStep_frame (c : Ctx) :
    (s.beginStep c).pending = s.pending ∧ (s.beginStep c).hostData = s.hostData ∧ (s.beginStep c).power = s.power ∧
    (s.beginStep c).settings = s.settings ∧ (s.beginStep c).refused = s.refused ∧ (s.beginStep c).time = s.time ∧
    (s.beginStep c).wake = s.wake ∧ (s.beginStep c).ident = s.ident ∧ (s.beginStep c).req = s.req ∧
    (s.beginStep c).bus = s.bus ∧ (s.beginStep c).watches = s.watches ∧ (s.beginStep c).coll = s.coll ∧
    (s.beginStep c).inputs = s.inputs ∧ (s.beginStep c).visit = s.visit ∧ (s.beginStep c).duty = s.duty ∧
    (s.beginStep c).freeIdx = s.freeIdx := by
  simp [State.beginStep]

@[simp] theorem handStep_frame (st : BusStep) (w : Work) :
    (s.handStep st w).pending = s.pending ∧ (s.handStep st w).hostData = s.hostData ∧
    (s.handStep st w).power = s.power ∧ (s.handStep st w).settings = s.settings ∧
    (s.handStep st w).refused = s.refused ∧ (s.handStep st w).time = s.time ∧ (s.handStep st w).ident = s.ident ∧
    (s.handStep st w).inputs = s.inputs ∧ (s.handStep st w).visit = s.visit ∧
    (s.handStep st w).freeIdx = s.freeIdx := by
  simp [State.handStep]

@[simp] theorem localValue_frame (l : LocalSource) :
    ((s.localValue l).2).pending = s.pending ∧ ((s.localValue l).2).hostData = s.hostData ∧
    ((s.localValue l).2).power = s.power ∧ ((s.localValue l).2).settings = s.settings ∧
    ((s.localValue l).2).refused = s.refused ∧ ((s.localValue l).2).time = s.time ∧
    ((s.localValue l).2).wake = s.wake ∧ ((s.localValue l).2).ident = s.ident ∧ ((s.localValue l).2).req = s.req ∧
    ((s.localValue l).2).engine = s.engine ∧ ((s.localValue l).2).bus = s.bus ∧
    ((s.localValue l).2).watches = s.watches ∧ ((s.localValue l).2).coll = s.coll ∧
    ((s.localValue l).2).visit = s.visit ∧ ((s.localValue l).2).duty = s.duty ∧
    ((s.localValue l).2).freeIdx = s.freeIdx := by
  unfold State.localValue; (repeat' split) <;> simp

@[simp] theorem sampleLocal_frame (st : LocalStep) (a : Nat) :
    (s.sampleLocal st a).pending = s.pending ∧ (s.sampleLocal st a).hostData = s.hostData ∧
    (s.sampleLocal st a).power = s.power ∧ (s.sampleLocal st a).settings = s.settings ∧
    (s.sampleLocal st a).refused = s.refused ∧ (s.sampleLocal st a).time = s.time ∧
    (s.sampleLocal st a).ident = s.ident ∧ (s.sampleLocal st a).bus = s.bus ∧ (s.sampleLocal st a).visit = s.visit ∧
    (s.sampleLocal st a).freeIdx = s.freeIdx := by
  simp only [State.sampleLocal]; (repeat' split) <;> simp

@[simp] theorem raiseStep_frame (n : Nat) (c : Ctx) :
    (s.raiseStep n c).pending = s.pending ∧ (s.raiseStep n c).hostData = s.hostData ∧
    (s.raiseStep n c).power = s.power ∧ (s.raiseStep n c).settings = s.settings ∧
    (s.raiseStep n c).refused = s.refused ∧ (s.raiseStep n c).time = s.time ∧ (s.raiseStep n c).ident = s.ident ∧
    (s.raiseStep n c).req = s.req ∧ (s.raiseStep n c).engine = s.engine ∧ (s.raiseStep n c).bus = s.bus ∧
    (s.raiseStep n c).watches = s.watches ∧ (s.raiseStep n c).inputs = s.inputs ∧
    (s.raiseStep n c).visit = s.visit ∧ (s.raiseStep n c).duty = s.duty ∧
    (s.raiseStep n c).freeIdx = s.freeIdx := by
  simp [State.raiseStep]

@[simp] theorem loopStep_frame (m : Nat × Nat) (c : Ctx) :
    (s.loopStep m c).pending = s.pending ∧ (s.loopStep m c).hostData = s.hostData ∧
    (s.loopStep m c).power = s.power ∧ (s.loopStep m c).settings = s.settings ∧
    (s.loopStep m c).refused = s.refused ∧ (s.loopStep m c).time = s.time ∧ (s.loopStep m c).ident = s.ident ∧
    (s.loopStep m c).bus = s.bus ∧ (s.loopStep m c).watches = s.watches ∧ (s.loopStep m c).inputs = s.inputs ∧
    (s.loopStep m c).visit = s.visit ∧ (s.loopStep m c).duty = s.duty ∧ (s.loopStep m c).freeIdx = s.freeIdx := by
  unfold State.loopStep; (repeat' split) <;> simp

@[simp] theorem cutRun_frame (r : Taken) (c : Ctx) :
    (s.cutRun r c).pending = s.pending ∧ (s.cutRun r c).hostData = s.hostData ∧ (s.cutRun r c).power = s.power ∧
    (s.cutRun r c).settings = s.settings ∧ (s.cutRun r c).refused = s.refused ∧ (s.cutRun r c).time = s.time ∧
    (s.cutRun r c).ident = s.ident ∧ (s.cutRun r c).bus = s.bus ∧ (s.cutRun r c).inputs = s.inputs ∧
    (s.cutRun r c).visit = s.visit ∧ (s.cutRun r c).freeIdx = s.freeIdx := by
  unfold State.cutRun; (repeat' split) <;> simp

@[simp] theorem cutList_frame (r : Taken) :
    ((s.cutList r).1).pending = s.pending ∧ ((s.cutList r).1).hostData = s.hostData ∧
    ((s.cutList r).1).power = s.power ∧ ((s.cutList r).1).settings = s.settings ∧
    ((s.cutList r).1).refused = s.refused ∧ ((s.cutList r).1).time = s.time ∧ ((s.cutList r).1).ident = s.ident ∧
    ((s.cutList r).1).bus = s.bus ∧ ((s.cutList r).1).inputs = s.inputs ∧ ((s.cutList r).1).visit = s.visit ∧
    ((s.cutList r).1).freeIdx = s.freeIdx := by
  simp only [State.cutList]; (repeat' split) <;> simp

@[simp] theorem holdEngine_frame (r : Taken) :
    ((s.holdEngine r).1).pending = s.pending ∧ ((s.holdEngine r).1).hostData = s.hostData ∧
    ((s.holdEngine r).1).power = s.power ∧ ((s.holdEngine r).1).settings = s.settings ∧
    ((s.holdEngine r).1).refused = s.refused ∧ ((s.holdEngine r).1).time = s.time ∧
    ((s.holdEngine r).1).wake = s.wake ∧ ((s.holdEngine r).1).ident = s.ident ∧ ((s.holdEngine r).1).bus = s.bus ∧
    ((s.holdEngine r).1).watches = s.watches ∧ ((s.holdEngine r).1).coll = s.coll ∧
    ((s.holdEngine r).1).inputs = s.inputs ∧ ((s.holdEngine r).1).visit = s.visit ∧
    ((s.holdEngine r).1).duty = s.duty ∧ ((s.holdEngine r).1).freeIdx = s.freeIdx := by
  unfold State.holdEngine; (repeat' split) <;> simp

@[simp] theorem resumeEngine_frame :
    (s.resumeEngine.1).pending = s.pending ∧ (s.resumeEngine.1).hostData = s.hostData ∧
    (s.resumeEngine.1).power = s.power ∧ (s.resumeEngine.1).settings = s.settings ∧
    (s.resumeEngine.1).refused = s.refused ∧ (s.resumeEngine.1).time = s.time ∧ (s.resumeEngine.1).ident = s.ident ∧
    (s.resumeEngine.1).bus = s.bus ∧ (s.resumeEngine.1).watches = s.watches ∧ (s.resumeEngine.1).inputs = s.inputs ∧
    (s.resumeEngine.1).visit = s.visit ∧ (s.resumeEngine.1).duty = s.duty ∧
    (s.resumeEngine.1).freeIdx = s.freeIdx := by
  unfold State.resumeEngine; (repeat' split) <;> simp

@[simp] theorem closeCollection_frame :
    (s.closeCollection.1).pending = s.pending ∧ (s.closeCollection.1).hostData = s.hostData ∧
    (s.closeCollection.1).power = s.power ∧ (s.closeCollection.1).settings = s.settings ∧
    (s.closeCollection.1).refused = s.refused ∧ (s.closeCollection.1).time = s.time ∧
    (s.closeCollection.1).ident = s.ident ∧ (s.closeCollection.1).req = s.req ∧
    (s.closeCollection.1).engine = s.engine ∧ (s.closeCollection.1).bus = s.bus ∧
    (s.closeCollection.1).watches = s.watches ∧ (s.closeCollection.1).inputs = s.inputs ∧
    (s.closeCollection.1).visit = s.visit ∧ (s.closeCollection.1).duty = s.duty ∧
    (s.closeCollection.1).freeIdx = s.freeIdx := by
  unfold State.closeCollection; (repeat' split) <;> simp

@[simp] theorem restartRequest_frame :
    (s.restartRequest.1).pending = s.pending ∧ (s.restartRequest.1).hostData = s.hostData ∧
    (s.restartRequest.1).power = s.power ∧ (s.restartRequest.1).settings = s.settings ∧
    (s.restartRequest.1).refused = s.refused ∧ (s.restartRequest.1).time = s.time ∧
    (s.restartRequest.1).wake = s.wake ∧ (s.restartRequest.1).ident = s.ident ∧ (s.restartRequest.1).req = s.req ∧
    (s.restartRequest.1).engine = s.engine ∧ (s.restartRequest.1).bus = s.bus ∧
    (s.restartRequest.1).watches = s.watches ∧ (s.restartRequest.1).inputs = s.inputs ∧
    (s.restartRequest.1).visit = s.visit ∧ (s.restartRequest.1).duty = s.duty ∧
    (s.restartRequest.1).freeIdx = s.freeIdx := by
  unfold State.restartRequest; (repeat' split) <;> simp

@[simp] theorem setClock_frame (v : Word) :
    ((s.setClock v).1).pending = s.pending ∧ ((s.setClock v).1).hostData = s.hostData ∧
    ((s.setClock v).1).power = s.power ∧ ((s.setClock v).1).settings = s.settings ∧
    ((s.setClock v).1).refused = s.refused ∧ ((s.setClock v).1).ident = s.ident ∧ ((s.setClock v).1).req = s.req ∧
    ((s.setClock v).1).engine = s.engine ∧ ((s.setClock v).1).bus = s.bus ∧ ((s.setClock v).1).watches = s.watches ∧
    ((s.setClock v).1).inputs = s.inputs ∧ ((s.setClock v).1).visit = s.visit ∧ ((s.setClock v).1).duty = s.duty ∧
    ((s.setClock v).1).freeIdx = s.freeIdx := by
  simp [State.setClock]

@[simp] theorem setDutyMode_frame (r : Taken) :
    ((s.setDutyMode r).1).pending = s.pending ∧ ((s.setDutyMode r).1).hostData = s.hostData ∧
    ((s.setDutyMode r).1).power = s.power ∧ ((s.setDutyMode r).1).settings = s.settings ∧
    ((s.setDutyMode r).1).refused = s.refused ∧ ((s.setDutyMode r).1).time = s.time ∧
    ((s.setDutyMode r).1).wake = s.wake ∧ ((s.setDutyMode r).1).ident = s.ident ∧
    ((s.setDutyMode r).1).req = s.req ∧ ((s.setDutyMode r).1).engine = s.engine ∧
    ((s.setDutyMode r).1).bus = s.bus ∧ ((s.setDutyMode r).1).watches = s.watches ∧
    ((s.setDutyMode r).1).coll = s.coll ∧ ((s.setDutyMode r).1).inputs = s.inputs ∧
    ((s.setDutyMode r).1).visit = s.visit ∧ ((s.setDutyMode r).1).freeIdx = s.freeIdx := by
  simp [State.setDutyMode]

@[simp] theorem forgetStations_frame (l : List (Fin 30)) :
    ((s.forgetStations l).1).pending = s.pending ∧ ((s.forgetStations l).1).hostData = s.hostData ∧
    ((s.forgetStations l).1).power = s.power ∧ ((s.forgetStations l).1).settings = s.settings ∧
    ((s.forgetStations l).1).refused = s.refused ∧ ((s.forgetStations l).1).time = s.time ∧
    ((s.forgetStations l).1).wake = s.wake ∧ ((s.forgetStations l).1).ident = s.ident ∧
    ((s.forgetStations l).1).req = s.req ∧ ((s.forgetStations l).1).engine = s.engine ∧
    ((s.forgetStations l).1).watches = s.watches ∧ ((s.forgetStations l).1).coll = s.coll ∧
    ((s.forgetStations l).1).inputs = s.inputs ∧ ((s.forgetStations l).1).visit = s.visit ∧
    ((s.forgetStations l).1).duty = s.duty ∧ ((s.forgetStations l).1).freeIdx = s.freeIdx := by
  simp [State.forgetStations]

@[simp] theorem programIdent_frame (r : Taken) :
    ((s.programIdent r).1).pending = s.pending ∧ ((s.programIdent r).1).mem = s.mem ∧
    ((s.programIdent r).1).hostData = s.hostData ∧ ((s.programIdent r).1).power = s.power ∧
    ((s.programIdent r).1).settings = s.settings ∧ ((s.programIdent r).1).refused = s.refused ∧
    ((s.programIdent r).1).time = s.time ∧ ((s.programIdent r).1).wake = s.wake ∧
    ((s.programIdent r).1).engine = s.engine ∧ ((s.programIdent r).1).bus = s.bus ∧
    ((s.programIdent r).1).watches = s.watches ∧ ((s.programIdent r).1).coll = s.coll ∧
    ((s.programIdent r).1).inputs = s.inputs ∧ ((s.programIdent r).1).visit = s.visit ∧
    ((s.programIdent r).1).duty = s.duty ∧ ((s.programIdent r).1).freeIdx = s.freeIdx := by
  unfold State.programIdent; (repeat' split) <;> simp

@[simp] theorem endProgramming_frame (p : Programming) (r : BitVec 16) (h : BitVec 12) :
    (s.endProgramming p r h).pending = s.pending ∧ (s.endProgramming p r h).hostData = s.hostData ∧
    (s.endProgramming p r h).power = s.power ∧ (s.endProgramming p r h).settings = s.settings ∧
    (s.endProgramming p r h).refused = s.refused ∧ (s.endProgramming p r h).time = s.time ∧
    (s.endProgramming p r h).engine = s.engine ∧ (s.endProgramming p r h).bus = s.bus ∧
    (s.endProgramming p r h).watches = s.watches ∧ (s.endProgramming p r h).coll = s.coll ∧
    (s.endProgramming p r h).inputs = s.inputs ∧ (s.endProgramming p r h).visit = s.visit ∧
    (s.endProgramming p r h).duty = s.duty ∧ (s.endProgramming p r h).freeIdx = s.freeIdx := by
  unfold State.endProgramming; (repeat' split) <;> simp

@[simp] theorem applyCollection_frame (o : Settings) :
    (s.applyCollection o).pending = s.pending ∧ (s.applyCollection o).hostData = s.hostData ∧
    (s.applyCollection o).power = s.power ∧ (s.applyCollection o).settings = s.settings ∧
    (s.applyCollection o).refused = s.refused ∧ (s.applyCollection o).time = s.time ∧
    (s.applyCollection o).ident = s.ident ∧ (s.applyCollection o).req = s.req ∧
    (s.applyCollection o).engine = s.engine ∧ (s.applyCollection o).bus = s.bus ∧
    (s.applyCollection o).watches = s.watches ∧ (s.applyCollection o).inputs = s.inputs ∧
    (s.applyCollection o).visit = s.visit ∧ (s.applyCollection o).duty = s.duty ∧
    (s.applyCollection o).freeIdx = s.freeIdx := by
  unfold State.applyCollection; (repeat' split) <;> simp

@[simp] theorem applyBus_frame (o : Settings) :
    (s.applyBus o).pending = s.pending ∧ (s.applyBus o).hostData = s.hostData ∧ (s.applyBus o).power = s.power ∧
    (s.applyBus o).settings = s.settings ∧ (s.applyBus o).refused = s.refused ∧ (s.applyBus o).time = s.time ∧
    (s.applyBus o).ident = s.ident ∧ (s.applyBus o).req = s.req ∧ (s.applyBus o).engine = s.engine ∧
    (s.applyBus o).watches = s.watches ∧ (s.applyBus o).inputs = s.inputs ∧ (s.applyBus o).visit = s.visit ∧
    (s.applyBus o).duty = s.duty ∧ (s.applyBus o).freeIdx = s.freeIdx := by
  simp [State.applyBus]

@[simp] theorem applyEnable_frame (o : Settings) (i : Fin 16) :
    (applyEnable o s i).pending = s.pending ∧ (applyEnable o s i).hostData = s.hostData ∧
    (applyEnable o s i).power = s.power ∧ (applyEnable o s i).settings = s.settings ∧
    (applyEnable o s i).refused = s.refused ∧ (applyEnable o s i).time = s.time ∧
    (applyEnable o s i).ident = s.ident ∧ (applyEnable o s i).req = s.req ∧ (applyEnable o s i).engine = s.engine ∧
    (applyEnable o s i).bus = s.bus ∧ (applyEnable o s i).watches = s.watches ∧
    (applyEnable o s i).visit = s.visit ∧ (applyEnable o s i).freeIdx = s.freeIdx := by
  simp [State.applyEnable]

@[simp] theorem applyStallTime_frame (o : Settings) (i : Fin 16) :
    (applyStallTime o s i).pending = s.pending ∧ (applyStallTime o s i).hostData = s.hostData ∧
    (applyStallTime o s i).power = s.power ∧ (applyStallTime o s i).settings = s.settings ∧
    (applyStallTime o s i).refused = s.refused ∧ (applyStallTime o s i).time = s.time ∧
    (applyStallTime o s i).ident = s.ident ∧ (applyStallTime o s i).req = s.req ∧
    (applyStallTime o s i).engine = s.engine ∧ (applyStallTime o s i).bus = s.bus ∧
    (applyStallTime o s i).watches = s.watches ∧ (applyStallTime o s i).visit = s.visit ∧
    (applyStallTime o s i).freeIdx = s.freeIdx := by
  simp [State.applyStallTime]

@[simp] theorem applySettleEvent_frame (o : Settings) :
    (s.applySettleEvent o).pending = s.pending ∧ (s.applySettleEvent o).hostData = s.hostData ∧
    (s.applySettleEvent o).power = s.power ∧ (s.applySettleEvent o).settings = s.settings ∧
    (s.applySettleEvent o).refused = s.refused ∧ (s.applySettleEvent o).time = s.time ∧
    (s.applySettleEvent o).ident = s.ident ∧ (s.applySettleEvent o).inputs = s.inputs ∧
    (s.applySettleEvent o).freeIdx = s.freeIdx := by
  unfold State.applySettleEvent; (repeat' split) <;> simp

@[simp] theorem applyInputs_frame (o : Settings) :
    (s.applyInputs o).pending = s.pending ∧ (s.applyInputs o).hostData = s.hostData ∧
    (s.applyInputs o).power = s.power ∧ (s.applyInputs o).settings = s.settings ∧
    (s.applyInputs o).refused = s.refused ∧ (s.applyInputs o).time = s.time ∧ (s.applyInputs o).ident = s.ident ∧
    (s.applyInputs o).freeIdx = s.freeIdx := by
  simp [State.applyInputs]

@[simp] theorem applyChannels_frame (o : Settings) :
    (s.applyChannels o).pending = s.pending ∧ (s.applyChannels o).hostData = s.hostData ∧
    (s.applyChannels o).power = s.power ∧ (s.applyChannels o).settings = s.settings ∧
    (s.applyChannels o).refused = s.refused ∧ (s.applyChannels o).time = s.time ∧
    (s.applyChannels o).ident = s.ident ∧ (s.applyChannels o).req = s.req ∧ (s.applyChannels o).engine = s.engine ∧
    (s.applyChannels o).bus = s.bus ∧ (s.applyChannels o).watches = s.watches ∧
    (s.applyChannels o).inputs = s.inputs ∧ (s.applyChannels o).visit = s.visit ∧
    (s.applyChannels o).freeIdx = s.freeIdx := by
  simp [State.applyChannels]

@[simp] theorem applyTimers_frame (o : Settings) :
    (s.applyTimers o).pending = s.pending ∧ (s.applyTimers o).mem = s.mem ∧
    (s.applyTimers o).hostData = s.hostData ∧ (s.applyTimers o).power = s.power ∧
    (s.applyTimers o).settings = s.settings ∧ (s.applyTimers o).refused = s.refused ∧
    (s.applyTimers o).wake = s.wake ∧ (s.applyTimers o).ident = s.ident ∧ (s.applyTimers o).req = s.req ∧
    (s.applyTimers o).engine = s.engine ∧ (s.applyTimers o).bus = s.bus ∧ (s.applyTimers o).watches = s.watches ∧
    (s.applyTimers o).coll = s.coll ∧ (s.applyTimers o).inputs = s.inputs ∧ (s.applyTimers o).visit = s.visit ∧
    (s.applyTimers o).duty = s.duty ∧ (s.applyTimers o).freeIdx = s.freeIdx := by
  simp [State.applyTimers]

@[simp] theorem acceptSettings_frame (g : Settings) :
    (s.acceptSettings g).pending = s.pending ∧ (s.acceptSettings g).hostData = s.hostData ∧
    (s.acceptSettings g).power = s.power ∧ (s.acceptSettings g).refused = s.refused ∧
    (s.acceptSettings g).ident = s.ident ∧ (s.acceptSettings g).freeIdx = s.freeIdx := by
  simp [State.acceptSettings]

@[simp] theorem applySettings_frame :
    (s.applySettings.1).pending = s.pending ∧ (s.applySettings.1).hostData = s.hostData ∧
    (s.applySettings.1).power = s.power ∧ (s.applySettings.1).refused = s.refused ∧
    (s.applySettings.1).ident = s.ident ∧ (s.applySettings.1).freeIdx = s.freeIdx := by
  simp only [State.applySettings]; (repeat' split) <;> simp

@[simp] theorem nextMilli_frame :
    (s.nextMilli).pending = s.pending ∧ (s.nextMilli).mem = s.mem ∧ (s.nextMilli).hostData = s.hostData ∧
    (s.nextMilli).power = s.power ∧ (s.nextMilli).settings = s.settings ∧ (s.nextMilli).refused = s.refused ∧
    (s.nextMilli).wake = s.wake ∧ (s.nextMilli).ident = s.ident ∧ (s.nextMilli).req = s.req ∧
    (s.nextMilli).engine = s.engine ∧ (s.nextMilli).bus = s.bus ∧ (s.nextMilli).watches = s.watches ∧
    (s.nextMilli).coll = s.coll ∧ (s.nextMilli).inputs = s.inputs ∧ (s.nextMilli).visit = s.visit ∧
    (s.nextMilli).duty = s.duty ∧ (s.nextMilli).freeIdx = s.freeIdx := by
  simp [State.nextMilli]

@[simp] theorem wrapTime_frame :
    (s.wrapTime).pending = s.pending ∧ (s.wrapTime).hostData = s.hostData ∧ (s.wrapTime).power = s.power ∧
    (s.wrapTime).settings = s.settings ∧ (s.wrapTime).refused = s.refused ∧ (s.wrapTime).ident = s.ident ∧
    (s.wrapTime).req = s.req ∧ (s.wrapTime).engine = s.engine ∧ (s.wrapTime).bus = s.bus ∧
    (s.wrapTime).watches = s.watches ∧ (s.wrapTime).inputs = s.inputs ∧ (s.wrapTime).visit = s.visit ∧
    (s.wrapTime).duty = s.duty ∧ (s.wrapTime).freeIdx = s.freeIdx := by
  simp [State.wrapTime]

@[simp] theorem advanceTime_frame :
    (s.advanceTime).pending = s.pending ∧ (s.advanceTime).hostData = s.hostData ∧ (s.advanceTime).power = s.power ∧
    (s.advanceTime).settings = s.settings ∧ (s.advanceTime).refused = s.refused ∧ (s.advanceTime).ident = s.ident ∧
    (s.advanceTime).req = s.req ∧ (s.advanceTime).engine = s.engine ∧ (s.advanceTime).bus = s.bus ∧
    (s.advanceTime).watches = s.watches ∧ (s.advanceTime).inputs = s.inputs ∧ (s.advanceTime).visit = s.visit ∧
    (s.advanceTime).duty = s.duty ∧ (s.advanceTime).freeIdx = s.freeIdx := by
  unfold State.advanceTime; (repeat' split) <;> simp

@[simp] theorem beginSeries_frame (n : Fin 4) :
    (s.beginSeries n).pending = s.pending ∧ (s.beginSeries n).mem = s.mem ∧
    (s.beginSeries n).hostData = s.hostData ∧ (s.beginSeries n).power = s.power ∧
    (s.beginSeries n).settings = s.settings ∧ (s.beginSeries n).refused = s.refused ∧
    (s.beginSeries n).wake = s.wake ∧ (s.beginSeries n).ident = s.ident ∧ (s.beginSeries n).req = s.req ∧
    (s.beginSeries n).engine = s.engine ∧ (s.beginSeries n).bus = s.bus ∧ (s.beginSeries n).watches = s.watches ∧
    (s.beginSeries n).coll = s.coll ∧ (s.beginSeries n).inputs = s.inputs ∧ (s.beginSeries n).visit = s.visit ∧
    (s.beginSeries n).duty = s.duty ∧ (s.beginSeries n).freeIdx = s.freeIdx := by
  unfold State.beginSeries State.whenDue
  split <;> (try split) <;> simp

@[simp] theorem offerSeries_frame (n : Fin 4) (k : Nat) :
    (s.offerSeries n k).pending = s.pending ∧ (s.offerSeries n k).hostData = s.hostData ∧
    (s.offerSeries n k).power = s.power ∧ (s.offerSeries n k).settings = s.settings ∧
    (s.offerSeries n k).refused = s.refused ∧ (s.offerSeries n k).ident = s.ident ∧
    (s.offerSeries n k).bus = s.bus ∧ (s.offerSeries n k).watches = s.watches ∧
    (s.offerSeries n k).inputs = s.inputs ∧ (s.offerSeries n k).visit = s.visit ∧
    (s.offerSeries n k).duty = s.duty ∧ (s.offerSeries n k).freeIdx = s.freeIdx := by
  simp [State.offerSeries]

end Sys2Proof.Machine.State
end

