-- ==== Sys2Proof/Laws/FrameResets.lean ====
section
/-! SUPPORT. What the operations of the resets and the register window leave unchanged: one lemma per operation. -/

namespace Sys2Proof.Machine.State

variable (s : State)

@[simp] theorem abandonWork_frame (c : ResetCause) :
    (s.abandonWork c).pending = s.pending ∧ (s.abandonWork c).mem = s.mem ∧
    (s.abandonWork c).hostData = s.hostData ∧ (s.abandonWork c).power = s.power ∧
    (s.abandonWork c).settings = s.settings ∧ (s.abandonWork c).refused = s.refused ∧
    (s.abandonWork c).time = s.time ∧ (s.abandonWork c).watches = s.watches ∧ (s.abandonWork c).coll = s.coll ∧
    (s.abandonWork c).inputs = s.inputs ∧ (s.abandonWork c).freeIdx = s.freeIdx := by
  simp [State.abandonWork]

@[simp] theorem beginReset_frame (p : ResetPhase) (c : ResetCause) :
    (s.beginReset p c).pending = s.pending ∧ (s.beginReset p c).mem = s.mem ∧
    (s.beginReset p c).hostData = s.hostData ∧ (s.beginReset p c).settings = s.settings ∧
    (s.beginReset p c).refused = s.refused ∧ (s.beginReset p c).time = s.time ∧
    (s.beginReset p c).watches = s.watches ∧ (s.beginReset p c).coll = s.coll ∧
    (s.beginReset p c).inputs = s.inputs ∧ (s.beginReset p c).freeIdx = s.freeIdx := by
  simp [State.beginReset]

@[simp] theorem clearMemory_frame :
    (s.clearMemory).pending = s.pending ∧ (s.clearMemory).hostData = s.hostData ∧ (s.clearMemory).power = s.power ∧
    (s.clearMemory).time = s.time ∧ (s.clearMemory).wake = s.wake ∧ (s.clearMemory).ident = s.ident ∧
    (s.clearMemory).req = s.req ∧ (s.clearMemory).engine = s.engine ∧ (s.clearMemory).bus = s.bus ∧
    (s.clearMemory).watches = s.watches ∧ (s.clearMemory).coll = s.coll ∧ (s.clearMemory).inputs = s.inputs ∧
    (s.clearMemory).visit = s.visit ∧ (s.clearMemory).duty = s.duty ∧ (s.clearMemory).freeIdx = s.freeIdx := by
  simp [State.clearMemory]

@[simp] theorem resetSettings_frame :
    (s.resetSettings).pending = s.pending ∧ (s.resetSettings).mem = s.mem ∧
    (s.resetSettings).hostData = s.hostData ∧ (s.resetSettings).power = s.power ∧ (s.resetSettings).time = s.time ∧
    (s.resetSettings).wake = s.wake ∧ (s.resetSettings).ident = s.ident ∧ (s.resetSettings).req = s.req ∧
    (s.resetSettings).engine = s.engine ∧ (s.resetSettings).bus = s.bus ∧ (s.resetSettings).watches = s.watches ∧
    (s.resetSettings).coll = s.coll ∧ (s.resetSettings).inputs = s.inputs ∧ (s.resetSettings).visit = s.visit ∧
    (s.resetSettings).duty = s.duty ∧ (s.resetSettings).freeIdx = s.freeIdx := by
  unfold State.resetSettings; (repeat' split) <;> simp

@[simp] theorem resetTime_frame :
    (s.resetTime).pending = s.pending ∧ (s.resetTime).mem = s.mem ∧ (s.resetTime).hostData = s.hostData ∧
    (s.resetTime).power = s.power ∧ (s.resetTime).settings = s.settings ∧ (s.resetTime).refused = s.refused ∧
    (s.resetTime).wake = s.wake ∧ (s.resetTime).ident = s.ident ∧ (s.resetTime).req = s.req ∧
    (s.resetTime).engine = s.engine ∧ (s.resetTime).bus = s.bus ∧ (s.resetTime).watches = s.watches ∧
    (s.resetTime).coll = s.coll ∧ (s.resetTime).inputs = s.inputs ∧ (s.resetTime).visit = s.visit ∧
    (s.resetTime).duty = s.duty ∧ (s.resetTime).freeIdx = s.freeIdx := by
  simp [State.resetTime]

@[simp] theorem resetEntry_frame (c : ResetCause) (i : Fin 16) :
    (resetEntry c s i).pending = s.pending ∧ (resetEntry c s i).hostData = s.hostData ∧
    (resetEntry c s i).power = s.power ∧ (resetEntry c s i).settings = s.settings ∧
    (resetEntry c s i).refused = s.refused ∧ (resetEntry c s i).time = s.time ∧ (resetEntry c s i).wake = s.wake ∧
    (resetEntry c s i).ident = s.ident ∧ (resetEntry c s i).req = s.req ∧ (resetEntry c s i).engine = s.engine ∧
    (resetEntry c s i).bus = s.bus ∧ (resetEntry c s i).watches = s.watches ∧ (resetEntry c s i).coll = s.coll ∧
    (resetEntry c s i).visit = s.visit ∧ (resetEntry c s i).duty = s.duty ∧
    (resetEntry c s i).freeIdx = s.freeIdx := by
  unfold State.resetEntry; (repeat' split) <;> simp

@[simp] theorem resetBlocks_frame :
    (s.resetBlocks).pending = s.pending ∧ (s.resetBlocks).hostData = s.hostData ∧ (s.resetBlocks).power = s.power ∧
    (s.resetBlocks).settings = s.settings ∧ (s.resetBlocks).refused = s.refused ∧ (s.resetBlocks).time = s.time ∧
    (s.resetBlocks).wake = s.wake ∧ (s.resetBlocks).ident = s.ident ∧ (s.resetBlocks).req = s.req ∧
    (s.resetBlocks).engine = s.engine ∧ (s.resetBlocks).visit = s.visit ∧ (s.resetBlocks).duty = s.duty ∧
    (s.resetBlocks).freeIdx = s.freeIdx := by
  simp [State.resetBlocks]

@[simp] theorem showChannel_frame (c : Fin 4) :
    (s.showChannel c).pending = s.pending ∧ (s.showChannel c).hostData = s.hostData ∧
    (s.showChannel c).power = s.power ∧ (s.showChannel c).settings = s.settings ∧
    (s.showChannel c).refused = s.refused ∧ (s.showChannel c).time = s.time ∧ (s.showChannel c).wake = s.wake ∧
    (s.showChannel c).ident = s.ident ∧ (s.showChannel c).req = s.req ∧ (s.showChannel c).engine = s.engine ∧
    (s.showChannel c).bus = s.bus ∧ (s.showChannel c).watches = s.watches ∧ (s.showChannel c).coll = s.coll ∧
    (s.showChannel c).inputs = s.inputs ∧ (s.showChannel c).visit = s.visit ∧ (s.showChannel c).duty = s.duty ∧
    (s.showChannel c).freeIdx = s.freeIdx := by
  simp [State.showChannel]

@[simp] theorem showAll_frame :
    (s.showAll).pending = s.pending ∧ (s.showAll).hostData = s.hostData ∧ (s.showAll).power = s.power ∧
    (s.showAll).settings = s.settings ∧ (s.showAll).refused = s.refused ∧ (s.showAll).time = s.time ∧
    (s.showAll).wake = s.wake ∧ (s.showAll).ident = s.ident ∧ (s.showAll).req = s.req ∧
    (s.showAll).engine = s.engine ∧ (s.showAll).bus = s.bus ∧ (s.showAll).watches = s.watches ∧
    (s.showAll).coll = s.coll ∧ (s.showAll).inputs = s.inputs ∧ (s.showAll).visit = s.visit ∧
    (s.showAll).duty = s.duty ∧ (s.showAll).freeIdx = s.freeIdx := by
  simp [State.showAll]

@[simp] theorem setReady_frame :
    (s.setReady).pending = s.pending ∧ (s.setReady).mem = s.mem ∧ (s.setReady).hostData = s.hostData ∧
    (s.setReady).settings = s.settings ∧ (s.setReady).refused = s.refused ∧ (s.setReady).time = s.time ∧
    (s.setReady).ident = s.ident ∧ (s.setReady).req = s.req ∧ (s.setReady).engine = s.engine ∧
    (s.setReady).bus = s.bus ∧ (s.setReady).watches = s.watches ∧ (s.setReady).coll = s.coll ∧
    (s.setReady).inputs = s.inputs ∧ (s.setReady).visit = s.visit ∧ (s.setReady).duty = s.duty ∧
    (s.setReady).freeIdx = s.freeIdx := by
  simp [State.setReady]

@[simp] theorem recoverSegment_frame (i : Nat) :
    (s.recoverSegment i).pending = s.pending ∧ (s.recoverSegment i).hostData = s.hostData ∧
    (s.recoverSegment i).power = s.power ∧ (s.recoverSegment i).settings = s.settings ∧
    (s.recoverSegment i).refused = s.refused ∧ (s.recoverSegment i).time = s.time ∧
    (s.recoverSegment i).ident = s.ident ∧ (s.recoverSegment i).req = s.req ∧
    (s.recoverSegment i).engine = s.engine ∧ (s.recoverSegment i).bus = s.bus ∧
    (s.recoverSegment i).watches = s.watches ∧ (s.recoverSegment i).inputs = s.inputs ∧
    (s.recoverSegment i).visit = s.visit ∧ (s.recoverSegment i).duty = s.duty ∧
    (s.recoverSegment i).freeIdx = s.freeIdx := by
  simp only [State.recoverSegment]; split <;> simp -implicitDefEqProofs

@[simp] theorem recover_frame :
    (s.recover).pending = s.pending ∧ (s.recover).hostData = s.hostData ∧ (s.recover).power = s.power ∧
    (s.recover).settings = s.settings ∧ (s.recover).refused = s.refused ∧ (s.recover).time = s.time ∧
    (s.recover).ident = s.ident ∧ (s.recover).req = s.req ∧ (s.recover).engine = s.engine ∧
    (s.recover).bus = s.bus ∧ (s.recover).watches = s.watches ∧ (s.recover).inputs = s.inputs ∧
    (s.recover).visit = s.visit ∧ (s.recover).duty = s.duty ∧ (s.recover).freeIdx = s.freeIdx := by
  simp [State.recover]

@[simp] theorem settleAll_frame :
    (s.settleAll).pending = s.pending ∧ (s.settleAll).hostData = s.hostData ∧ (s.settleAll).power = s.power ∧
    (s.settleAll).settings = s.settings ∧ (s.settleAll).refused = s.refused ∧ (s.settleAll).time = s.time ∧
    (s.settleAll).ident = s.ident ∧ (s.settleAll).freeIdx = s.freeIdx := by
  simp [State.settleAll]

@[simp] theorem finishReset_frame :
    (s.finishReset).pending = s.pending ∧ (s.finishReset).hostData = s.hostData ∧ (s.finishReset).ident = s.ident ∧
    (s.finishReset).freeIdx = s.freeIdx := by
  simp [State.finishReset]

@[simp] theorem setResetPhase_frame (p : ResetPhase) :
    (s.setResetPhase p).pending = s.pending ∧ (s.setResetPhase p).mem = s.mem ∧
    (s.setResetPhase p).hostData = s.hostData ∧ (s.setResetPhase p).settings = s.settings ∧
    (s.setResetPhase p).refused = s.refused ∧ (s.setResetPhase p).time = s.time ∧
    (s.setResetPhase p).wake = s.wake ∧ (s.setResetPhase p).ident = s.ident ∧ (s.setResetPhase p).req = s.req ∧
    (s.setResetPhase p).engine = s.engine ∧ (s.setResetPhase p).bus = s.bus ∧
    (s.setResetPhase p).watches = s.watches ∧ (s.setResetPhase p).coll = s.coll ∧
    (s.setResetPhase p).inputs = s.inputs ∧ (s.setResetPhase p).visit = s.visit ∧
    (s.setResetPhase p).duty = s.duty ∧ (s.setResetPhase p).freeIdx = s.freeIdx := by
  simp [State.setResetPhase]

@[simp] theorem setResetPhase_power (p : ResetPhase) : (s.setResetPhase p).power = { s.power with phase := p } := rfl

@[simp] theorem setPin_power (b : Bool) : (s.setPin b).power = { s.power with pin := b } := rfl

/-- The reset work waits for a second cause that stands next in the queue, and otherwise ends the reset (log 19). -/
theorem resetWork_cases :
    (s.secondCauseNext = true ∧ s.resetWork = s.setResetPhase .working) ∨
      (s.secondCauseNext = false ∧ s.resetWork = (s.setResetPhase .working).finishReset) := by
  have h : (s.setResetPhase .working).secondCauseNext = s.secondCauseNext := rfl
  cases hs : s.secondCauseNext <;> simp [State.resetWork, h, hs]

@[simp] theorem resetWork_frame :
    (s.resetWork).pending = s.pending ∧ (s.resetWork).hostData = s.hostData ∧ (s.resetWork).ident = s.ident ∧
    (s.resetWork).freeIdx = s.freeIdx := by
  simp only [State.resetWork]; split <;> simp

@[simp] theorem beginHard_frame :
    (s.beginHard).pending = s.pending ∧ (s.beginHard).hostData = s.hostData ∧
    (s.beginHard).freeIdx = s.freeIdx := by
  simp only [State.beginHard]; (repeat' split) <;> simp

@[simp] theorem beginSoft_frame :
    (s.beginSoft).pending = s.pending ∧ (s.beginSoft).hostData = s.hostData ∧ (s.beginSoft).freeIdx = s.freeIdx := by
  simp [State.beginSoft]

@[simp] theorem holdWork_frame :
    (s.holdWork).pending = s.pending ∧ (s.holdWork).mem = s.mem ∧ (s.holdWork).hostData = s.hostData ∧
    (s.holdWork).settings = s.settings ∧ (s.holdWork).refused = s.refused ∧ (s.holdWork).time = s.time ∧
    (s.holdWork).watches = s.watches ∧ (s.holdWork).coll = s.coll ∧ (s.holdWork).inputs = s.inputs ∧
    (s.holdWork).freeIdx = s.freeIdx := by
  unfold State.holdWork; split <;> simp

@[simp] theorem setPin_frame (b : Bool) :
    (s.setPin b).pending = s.pending ∧ (s.setPin b).mem = s.mem ∧ (s.setPin b).hostData = s.hostData ∧
    (s.setPin b).settings = s.settings ∧ (s.setPin b).refused = s.refused ∧ (s.setPin b).time = s.time ∧
    (s.setPin b).wake = s.wake ∧ (s.setPin b).ident = s.ident ∧ (s.setPin b).req = s.req ∧
    (s.setPin b).engine = s.engine ∧ (s.setPin b).bus = s.bus ∧ (s.setPin b).watches = s.watches ∧
    (s.setPin b).coll = s.coll ∧ (s.setPin b).inputs = s.inputs ∧ (s.setPin b).visit = s.visit ∧
    (s.setPin b).duty = s.duty ∧ (s.setPin b).freeIdx = s.freeIdx := by
  simp [State.setPin]

@[simp] theorem defer_frame (d : DeferredReset) :
    (s.defer d).pending = s.pending ∧ (s.defer d).mem = s.mem ∧ (s.defer d).hostData = s.hostData ∧
    (s.defer d).settings = s.settings ∧ (s.defer d).refused = s.refused ∧ (s.defer d).time = s.time ∧
    (s.defer d).wake = s.wake ∧ (s.defer d).ident = s.ident ∧ (s.defer d).req = s.req ∧
    (s.defer d).engine = s.engine ∧ (s.defer d).bus = s.bus ∧ (s.defer d).watches = s.watches ∧
    (s.defer d).coll = s.coll ∧ (s.defer d).inputs = s.inputs ∧ (s.defer d).visit = s.visit ∧
    (s.defer d).duty = s.duty ∧ (s.defer d).freeIdx = s.freeIdx := by
  simp [State.defer]

@[simp] theorem serve_frame (a : BitVec 15) (h : HostAccess) :
    (s.serve a h).pending = s.pending ∧ (s.serve a h).power = s.power ∧ (s.serve a h).settings = s.settings ∧
    (s.serve a h).refused = s.refused ∧ (s.serve a h).time = s.time ∧ (s.serve a h).wake = s.wake ∧
    (s.serve a h).ident = s.ident ∧ (s.serve a h).req = s.req ∧ (s.serve a h).engine = s.engine ∧
    (s.serve a h).bus = s.bus ∧ (s.serve a h).watches = s.watches ∧ (s.serve a h).coll = s.coll ∧
    (s.serve a h).inputs = s.inputs ∧ (s.serve a h).visit = s.visit ∧ (s.serve a h).duty = s.duty ∧
    (s.serve a h).freeIdx = s.freeIdx := by
  unfold State.serve; (repeat' split) <;> simp

@[simp] theorem shut_frame (h : HostAccess) :
    (s.shut h).pending = s.pending ∧ (s.shut h).mem = s.mem ∧ (s.shut h).power = s.power ∧
    (s.shut h).settings = s.settings ∧ (s.shut h).refused = s.refused ∧ (s.shut h).time = s.time ∧
    (s.shut h).wake = s.wake ∧ (s.shut h).ident = s.ident ∧ (s.shut h).req = s.req ∧ (s.shut h).engine = s.engine ∧
    (s.shut h).bus = s.bus ∧ (s.shut h).watches = s.watches ∧ (s.shut h).coll = s.coll ∧
    (s.shut h).inputs = s.inputs ∧ (s.shut h).visit = s.visit ∧ (s.shut h).duty = s.duty ∧
    (s.shut h).freeIdx = s.freeIdx := by
  unfold State.shut; (repeat' split) <;> simp

end Sys2Proof.Machine.State
end

