-- ==== Sys2Proof/Laws/Memory.lean ====
section
/-! SUPPORT. Exchange memory: a read after a write, and the canonical form that every memory operation keeps. -/

namespace Sys2Proof.Machine

/-! ## Bytes -/

theorem byteAt_append (m n : Memory) (a : Nat) :
    byteAt (m ++ n) a = if ∃ c ∈ m, c.1 = a then byteAt m a else byteAt n a := by
  induction m with
  | nil => simp
  | cons c m ih =>
    obtain ⟨k, b⟩ := c
    by_cases h : k = a
    · simp [byteAt, h]
    · simp only [List.cons_append, byteAt, h, if_false, ih, List.mem_cons, exists_eq_or_imp, false_or]

theorem byteAt_filter (p : Nat → Bool) (m : Memory) (a : Nat) :
    byteAt (m.filter fun c => p c.1) a = if p a then byteAt m a else unlisted := by
  induction m with
  | nil => simp [byteAt]
  | cons c m ih =>
    obtain ⟨k, b⟩ := c
    by_cases h : k = a
    · subst h; by_cases hp : p k <;> simp [byteAt, hp]
      simpa [hp] using ih
    · by_cases hp : p k <;> simp [byteAt, hp, h, ih]

theorem byteAt_unlisted (m : Memory) (a : Nat) (h : ∀ c ∈ m, c.1 ≠ a) : byteAt m a = unlisted := by
  induction m with
  | nil => rfl
  | cons c m ih =>
    obtain ⟨k, b⟩ := c
    have hk : k ≠ a := h (k, b) (by simp)
    simp only [byteAt, hk, if_false]
    exact ih fun c hc => h c (by simp [hc])

/-- Dropping the entries that are unlisted bytes changes no read, where no address is listed twice. -/
theorem byteAt_drop (m : Memory) (a : Nat) (h : m.Pairwise fun c d => c.1 < d.1) :
    byteAt (m.filter fun c => c.2 ≠ unlisted) a = byteAt m a := by
  induction m with
  | nil => rfl
  | cons c m ih =>
    obtain ⟨k, b⟩ := c
    have hm := List.pairwise_cons.mp h
    have ih := ih hm.2
    by_cases hb : b = unlisted
    · subst hb
      rw [List.filter_cons_of_neg (by simp), ih]
      by_cases hk : k = a
      · subst hk
        rw [byteAt_unlisted m k fun c hc he => absurd (hm.1 c hc) (by simp [he])]
        simp [byteAt]
      · simp [byteAt, hk]
    · rw [List.filter_cons_of_pos (by simpa using hb)]
      simp only [byteAt, ih]

/-- The byte of a written word at one of its four byte addresses. -/
theorem byteAt_wordCells (a : Nat) (v : Word) (i : Nat) (hi : i < 4) : byteAt (wordCells a v) (4 * a + i) = byteOf v i := by
  unfold wordCells
  rw [byteAt_drop _ _ (by simp)]
  interval_cases i <;> simp [byteAt]

theorem wordCells_keys (a : Nat) (v : Word) : ∀ c ∈ wordCells a v, 4 * a ≤ c.1 ∧ c.1 < 4 * a + 4 := by
  intro c hc
  have := (List.mem_filter.mp hc).1
  simp at this
  rcases this with h | h | h | h <;> subst h <;> simp

theorem byteAt_wordCells_other (a : Nat) (v : Word) (k : Nat) (h : k < 4 * a ∨ 4 * a + 4 ≤ k) :
    byteAt (wordCells a v) k = unlisted :=
  byteAt_unlisted _ _ fun c hc he => by have := wordCells_keys a v c hc; omega

/-- A byte of memory after a write: inside the word it is the value's, and elsewhere it is as before. -/
theorem byteAt_writeWord (m : Memory) (a : Nat) (v : Word) (k : Nat) (ha : a < Config.memoryWords) :
    byteAt (writeWord m a v) k = if 4 * a ≤ k ∧ k < 4 * a + 4 then byteOf v (k - 4 * a) else byteAt m k := by
  unfold writeWord
  rw [if_pos ha, List.append_assoc, byteAt_append, byteAt_append]
  have hf := byteAt_filter (fun n => decide (n < 4 * a)) m k
  have hg := byteAt_filter (fun n => decide (4 * a + 4 ≤ n)) m k
  by_cases hk : 4 * a ≤ k ∧ k < 4 * a + 4
  · rw [if_pos hk]
    have hn : ¬ ∃ c ∈ m.filter (fun c => decide (c.1 < 4 * a)), c.1 = k := by
      rintro ⟨c, hc, he⟩
      have := (List.mem_filter.mp hc).2
      simp at this; omega
    rw [if_neg hn]
    obtain ⟨i, rfl⟩ : ∃ i, k = 4 * a + i := ⟨k - 4 * a, by omega⟩
    have hi : i < 4 := by omega
    have hb := byteAt_wordCells a v i hi
    split
    · rw [hb]; congr 1; omega
    · rename_i hnot
      have : byteAt (wordCells a v) (4 * a + i) = unlisted :=
        byteAt_unlisted _ _ fun c hc he => hnot ⟨c, hc, he⟩
      rw [hg]
      have h4 : ¬ (4 * a + 4 ≤ 4 * a + i) := by omega
      simp only [h4, decide_false, Bool.false_eq_true, if_false]
      rw [show 4 * a + i - 4 * a = i by omega, ← hb, this]
  · rw [if_neg hk]
    by_cases hl : k < 4 * a
    · split
      · rw [hf]; simp [hl]
      · rename_i hnot
        have hm : byteAt (m.filter fun c => decide (c.1 < 4 * a)) k = unlisted :=
          byteAt_unlisted _ _ fun c hc he => hnot ⟨c, hc, he⟩
        rw [hf] at hm
        simp only [hl, decide_true, if_true] at hm
        have hc : ¬ ∃ c ∈ wordCells a v, c.1 = k := by
          rintro ⟨c, hc, he⟩; have := wordCells_keys a v c hc; omega
        rw [if_neg hc, hg, hm]
        split <;> rfl
    · have hn : ¬ ∃ c ∈ m.filter (fun c => decide (c.1 < 4 * a)), c.1 = k := by
        rintro ⟨c, hc, he⟩
        have := (List.mem_filter.mp hc).2
        simp at this; omega
      have hc : ¬ ∃ c ∈ wordCells a v, c.1 = k := by
        rintro ⟨c, hc, he⟩; have := wordCells_keys a v c hc; omega
      rw [if_neg hn, if_neg hc, hg]
      have : 4 * a + 4 ≤ k := by omega
      simp [this]

/-! ## Words -/

theorem word_of_bytes (v : Word) :
    BitVec.ofNat 32 ((byteOf v 0).toNat + 256 * (byteOf v 1).toNat + 65536 * (byteOf v 2).toNat
      + 16777216 * (byteOf v 3).toNat) = v := by
  apply BitVec.eq_of_toNat_eq
  have hv := v.isLt
  simp only [byteOf, BitVec.toNat_ofNat]
  omega

/-- Two memories with the same bytes read alike. -/
theorem readWord_congr {m n : Memory} {a : Nat} (h : ∀ i < 4, byteAt m (4 * a + i) = byteAt n (4 * a + i)) :
    readWord m a = readWord n a := by
  unfold readWord
  have h0 := h 0 (by omega); have h1 := h 1 (by omega); have h2 := h 2 (by omega); have h3 := h 3 (by omega)
  simp only [Nat.add_zero] at h0
  rw [h0, h1, h2, h3]

/-- A read after a write to the same word gives the value written. -/
theorem readWord_writeWord_same (m : Memory) (a : Nat) (v : Word) (ha : a < Config.memoryWords) :
    readWord (writeWord m a v) a = v := by
  have hb : ∀ i < 4, byteAt (writeWord m a v) (4 * a + i) = byteOf v i := by
    intro i hi
    rw [byteAt_writeWord m a v _ ha, if_pos ⟨by omega, by omega⟩]
    congr 1; omega
  unfold readWord
  have h0 := hb 0 (by omega)
  simp only [Nat.add_zero] at h0
  rw [h0, hb 1 (by omega), hb 2 (by omega), hb 3 (by omega)]
  exact word_of_bytes v

/-- A write leaves every other word alone. -/
theorem readWord_writeWord_other (m : Memory) (a b : Nat) (v : Word) (h : b ≠ a) :
    readWord (writeWord m a v) b = readWord m b := by
  by_cases ha : a < Config.memoryWords
  · apply readWord_congr
    intro i hi
    rw [byteAt_writeWord m a v _ ha, if_neg (by omega)]
  · unfold writeWord; rw [if_neg ha]

/-- A read after a write. -/
theorem readWord_writeWord (m : Memory) (a b : Nat) (v : Word) (ha : a < Config.memoryWords) :
    readWord (writeWord m a v) b = if b = a then v else readWord m b := by
  split
  · next h => subst h; exact readWord_writeWord_same m b v ha
  · next h => exact readWord_writeWord_other m a b v h

/-- The writes of several words leave every word outside them alone. -/
theorem readWord_writeWords_other (m : Memory) (a b : Nat) (vs : List Word) (h : b < a ∨ a + vs.length ≤ b) :
    readWord (writeWords m a vs) b = readWord m b := by
  induction vs generalizing m a with
  | nil => rfl
  | cons v vs ih =>
    simp only [List.length_cons] at h
    rw [writeWords, ih _ _ (by omega), readWord_writeWord_other _ _ _ _ (by omega)]

/-- A read of one of several words written gives its value. -/
theorem readWord_writeWords_same (m : Memory) (a i : Nat) (vs : List Word) (hi : i < vs.length)
    (ha : a + vs.length ≤ Config.memoryWords) : readWord (writeWords m a vs) (a + i) = vs[i] := by
  induction vs generalizing m a i with
  | nil => simp at hi
  | cons v vs ih =>
    simp only [List.length_cons] at hi ha
    cases i with
    | zero =>
      rw [writeWords, readWord_writeWords_other _ _ _ _ (by omega)]
      simpa using readWord_writeWord_same m a v (by omega)
    | succ i =>
      rw [writeWords, show a + (i + 1) = a + 1 + i by omega, ih _ _ _ (by omega) (by omega)]
      simp

/-! ## The canonical form -/

theorem wordCells_wf (a : Nat) (v : Word) (ha : a < Config.memoryWords) : Memory.wf (wordCells a v) := by
  constructor
  · apply List.Pairwise.filter
    simp
  · intro c hc
    have hk := wordCells_keys a v c hc
    have := (List.mem_filter.mp hc).2
    exact ⟨by simpa using this, by omega⟩

/-- A write keeps the canonical form. -/
theorem writeWord_wf {m : Memory} (a : Nat) (v : Word) (h : Memory.wf m) : Memory.wf (writeWord m a v) := by
  unfold writeWord
  split
  · next ha =>
    have hw := wordCells_wf a v ha
    have hk := wordCells_keys a v
    refine ⟨?_, ?_⟩
    · rw [List.pairwise_append, List.pairwise_append]
      refine ⟨⟨h.1.filter _, hw.1, ?_⟩, h.1.filter _, ?_⟩
      · intro c hc d hd
        have := (List.mem_filter.mp hc).2
        have := hk d hd
        simp at *; omega
      · intro c hc d hd
        have hd' := (List.mem_filter.mp hd).2
        rcases List.mem_append.mp hc with hc | hc
        · have := (List.mem_filter.mp hc).2
          simp at *; omega
        · have := hk c hc
          simp at *; omega
    · intro c hc
      rcases List.mem_append.mp hc with hc | hc
      · rcases List.mem_append.mp hc with hc | hc
        · exact h.2 c (List.mem_filter.mp hc).1
        · exact hw.2 c hc
      · exact h.2 c (List.mem_filter.mp hc).1
  · exact h

/-- The writes of several words keep the canonical form. -/
theorem writeWords_wf {m : Memory} (a : Nat) (vs : List Word) (h : Memory.wf m) : Memory.wf (writeWords m a vs) := by
  induction vs generalizing m a with
  | nil => exact h
  | cons v vs ih => exact ih _ (writeWord_wf a v h)

/-- The empty memory is in canonical form. -/
theorem empty_wf : Memory.wf [] := ⟨List.Pairwise.nil, fun _ h => by cases h⟩

/-- Exchange memory after reset is in canonical form. -/
theorem reset_mem_wf : Memory.wf State.reset.mem := by decide +kernel

end Sys2Proof.Machine
end

