-- ==== Sys2Proof/Laws/Ops.lean ====
section
/-! SUPPORT. What the named operations do to exchange memory: which words each writes, what they read as afterwards, and
that each keeps the canonical form. -/

namespace Sys2Proof.Machine.State

variable (s : State)

@[simp] theorem poke_mem (a : Nat) (v : Word) : (s.poke a v).mem = writeWord s.mem a v := rfl
@[simp] theorem pokes_mem (a : Nat) (vs : List Word) : (s.pokes a vs).mem = writeWords s.mem a vs := rfl

/-! ## Expiries -/

/-- An interval whose end the base has come to has expired. -/
theorem whenDue_of_le {m : Moment} (f : State → State) (h : m ≤ s.now) : s.whenDue m f = f s := if_pos h

/-- An interval whose end the base has not come to runs on. -/
theorem whenDue_of_lt {m : Moment} (f : State → State) (h : s.now < m) : s.whenDue m f = s := if_neg (Nat.not_le.mpr h)

/-! ## Reads after writes -/

/-- A word written reads as its value. -/
theorem peek_poke_same (a : Nat) (v : Word) (ha : a < Config.memoryWords) : (s.poke a v).peek a = v :=
  readWord_writeWord_same s.mem a v ha

/-- Every other word reads as before. -/
theorem peek_poke_other (a b : Nat) (v : Word) (h : b ≠ a) : (s.poke a v).peek b = s.peek b :=
  readWord_writeWord_other s.mem a b v h

/-- A read after a write. -/
theorem peek_poke (a b : Nat) (v : Word) (ha : a < Config.memoryWords) :
    (s.poke a v).peek b = if b = a then v else s.peek b := readWord_writeWord s.mem a b v ha

/-- Words outside those written read as before. -/
theorem peek_pokes_other (a b : Nat) (vs : List Word) (h : b < a ∨ a + vs.length ≤ b) :
    (s.pokes a vs).peek b = s.peek b := readWord_writeWords_other s.mem a b vs h

/-- Each of the words written reads as its value. -/
theorem peek_pokes_same (a i : Nat) (vs : List Word) (hi : i < vs.length) (ha : a + vs.length ≤ Config.memoryWords) :
    (s.pokes a vs).peek (a + i) = vs[i] := readWord_writeWords_same s.mem a i vs hi ha

/-- A conditional rewrite of a mirror word leaves every other word alone. -/
theorem peek_pokeIf_other (a b : Nat) (o n : Word) (h : b ≠ a) : (s.pokeIf a o n).peek b = s.peek b := by
  unfold pokeIf; split
  · rfl
  · exact s.peek_poke_other a b n h

/-- A mirror word after its conditional rewrite. -/
theorem peek_pokeIf_same (a : Nat) (o n : Word) (ha : a < Config.memoryWords) :
    (s.pokeIf a o n).peek a = if o = n then s.peek a else n := by
  unfold pokeIf; split
  · rfl
  · exact s.peek_poke_same a n ha

/-- The conditional rewrites of several mirror words leave every word outside them alone. -/
theorem peek_pokeChanged_other (a b : Nat) (os ns : List Word) (h : b < a ∨ a + os.length ≤ b) :
    (s.pokeChanged a os ns).peek b = s.peek b := by
  induction os generalizing s a ns with
  | nil => cases ns <;> rfl
  | cons o os ih =>
    cases ns with
    | nil => rfl
    | cons n ns =>
      simp only [List.length_cons] at h
      rw [pokeChanged, ih _ _ _ (by omega), s.peek_pokeIf_other _ _ _ _ (by omega)]

/-- Each of several mirror words after its conditional rewrite. -/
theorem peek_pokeChanged_same (a i : Nat) (os ns : List Word) (ho : i < os.length) (hn : i < ns.length)
    (ha : a + os.length ≤ Config.memoryWords) :
    (s.pokeChanged a os ns).peek (a + i) = if os[i] = ns[i] then s.peek (a + i) else ns[i] := by
  induction os generalizing s a i ns with
  | nil => simp at ho
  | cons o os ih =>
    cases ns with
    | nil => simp at hn
    | cons n ns =>
      simp only [List.length_cons] at ho hn ha
      cases i with
      | zero =>
        rw [pokeChanged, peek_pokeChanged_other _ _ _ _ _ (by omega)]
        simpa using s.peek_pokeIf_same a o n (by omega)
      | succ i =>
        rw [pokeChanged, show a + (i + 1) = a + 1 + i by omega, ih _ _ _ _ (by omega) (by omega) (by omega),
          s.peek_pokeIf_other _ _ _ _ (by omega)]
        simp

/-! ## Frames of words -/

/-- No word changes where nothing is written. -/
theorem KeepsWords.refl (p : Nat → Prop) : s.KeepsWords s p := fun _ _ => rfl

/-- Frames compose. -/
theorem KeepsWords.trans {s t u : State} {p q : Nat → Prop} (h : s.KeepsWords t p) (k : t.KeepsWords u q) :
    s.KeepsWords u fun a => p a ∨ q a := fun a ha =>
  (k a fun hq => ha (.inr hq)).trans (h a fun hp => ha (.inl hp))

/-- A frame weakens to a larger set of words. -/
theorem KeepsWords.mono {s t : State} {p q : Nat → Prop} (h : s.KeepsWords t p) (hpq : ∀ a, p a → q a) :
    s.KeepsWords t q := fun a ha => h a fun hp => ha (hpq a hp)

/-- A state with the same memory keeps every word. -/
theorem KeepsWords.of_mem {s t : State} {p : Nat → Prop} (h : t.mem = s.mem) : s.KeepsWords t p := fun a _ => by
  simp [peek, h]

/-- The write of one word. -/
theorem poke_keepsWords (a : Nat) (v : Word) : s.KeepsWords (s.poke a v) (· = a) := fun b hb =>
  s.peek_poke_other a b v hb

/-- The writes of several words. -/
theorem pokes_keepsWords (a : Nat) (vs : List Word) :
    s.KeepsWords (s.pokes a vs) fun b => a ≤ b ∧ b < a + vs.length := fun b hb =>
  s.peek_pokes_other a b vs (by omega)

/-- The conditional rewrite of one word. -/
theorem pokeIf_keepsWords (a : Nat) (o n : Word) : s.KeepsWords (s.pokeIf a o n) (· = a) := fun b hb =>
  s.peek_pokeIf_other a b o n hb

/-- The conditional rewrites of several words. -/
theorem pokeChanged_keepsWords (a : Nat) (os ns : List Word) :
    s.KeepsWords (s.pokeChanged a os ns) fun b => a ≤ b ∧ b < a + os.length := fun b hb =>
  s.peek_pokeChanged_other a b os ns (by omega)

/-- The rewrite of the word at 0040H. -/
theorem show40_keepsWords : s.KeepsWords s.show40 (· = 0x40) := s.poke_keepsWords _ _

/-- The rewrite of the word at 0040H where it changed. -/
theorem reshow40_keepsWords (u : State) : s.KeepsWords (s.reshow40 u) (· = 0x40) := by
  unfold reshow40; split
  · exact .refl s _
  · exact s.show40_keepsWords

/-- The snapshot of the run queue writes its seventeen words. -/
theorem showQueue_keepsWords : s.KeepsWords s.showQueue QueueWord := by
  unfold showQueue
  refine ((s.pokes_keepsWords _ _).trans (poke_keepsWords _ _ _)).mono ?_
  rintro a (⟨h1, h2⟩ | h)
  · simp only [queueWords, List.length_map, List.length_range] at h2
    exact ⟨by omega, by omega⟩
  · exact ⟨by omega, by omega⟩

/-- A station's mirror is two words. -/
theorem showStation_keepsWords (i : Fin 30) : s.KeepsWords (s.showStation i) (StationWord i) := by
  unfold showStation
  exact ((s.poke_keepsWords _ _).trans (poke_keepsWords _ _ _)).mono fun a h => h.elim .inr .inl

/-- The filling record count and words used stand in one word. -/
theorem showFilling_keepsWords : s.KeepsWords s.showFilling (· = 0x9B) := s.poke_keepsWords _ _

/-- The rest of the Collection Unit's mirror is eight words. -/
theorem showColl_keepsWords (old : Coll) :
    s.KeepsWords (s.showColl old) fun a => 0x9A ≤ a ∧ a ≤ 0xA2 ∧ a ≠ 0x9B := by
  unfold showColl
  refine ((((s.pokeChanged_keepsWords _ _ _).trans (pokeChanged_keepsWords _ _ _ _)).trans
    (pokeChanged_keepsWords _ _ _ _)).trans (pokeIf_keepsWords _ _ _ _)).mono ?_
  simp only [collWords, List.take, List.drop, List.length_cons, List.length_nil]
  omega

/-- The whole mirror of the Collection Unit is the same nine words. -/
theorem writeColl_keepsWords : s.KeepsWords s.writeColl fun a => 0x9A ≤ a ∧ a ≤ 0xA2 := by
  unfold writeColl
  refine (((s.pokes_keepsWords _ _).trans (pokes_keepsWords _ _ _)).trans (poke_keepsWords _ _ _)).mono ?_
  simp only [collWords, List.take, List.length_cons, List.length_nil]
  omega

/-- A segment header is five words. -/
theorem emptyHeader_keepsWords (i : Nat) : s.KeepsWords (s.emptyHeader i) fun a => s.segAddr i ≤ a ∧ a < s.segAddr i + 5 := by
  unfold emptyHeader
  refine ((s.pokes_keepsWords _ _).trans (poke_keepsWords _ _ _)).mono ?_
  simp only [List.length_replicate]
  omega

/-- A channel's mirror is two words. -/
theorem setChannel_keepsWords (c : Fin 4) (ch : Channel) : s.KeepsWords (s.setChannel c ch) (ChannelWord c) := by
  intro a ha
  unfold setChannel
  rw [peek_pokeIf_other _ _ _ _ _ fun h => ha (.inr h), peek_pokeIf_other _ _ _ _ _ fun h => ha (.inl h)]
  rfl

/-! ## The canonical form -/

variable {s}

theorem poke_wf (h : Memory.wf s.mem) (a : Nat) (v : Word) : Memory.wf (s.poke a v).mem := writeWord_wf a v h
theorem pokes_wf (h : Memory.wf s.mem) (a : Nat) (vs : List Word) : Memory.wf (s.pokes a vs).mem := writeWords_wf a vs h

theorem pokeIf_wf (h : Memory.wf s.mem) (a : Nat) (o n : Word) : Memory.wf (s.pokeIf a o n).mem := by
  unfold pokeIf; split
  · exact h
  · exact poke_wf h a n

theorem pokeChanged_wf (h : Memory.wf s.mem) (a : Nat) (os ns : List Word) : Memory.wf (s.pokeChanged a os ns).mem := by
  induction os generalizing s a ns with
  | nil => cases ns <;> exact h
  | cons o os ih =>
    cases ns with
    | nil => exact h
    | cons n ns => exact ih (pokeIf_wf h a o n) _ _

theorem reshow40_wf (h : Memory.wf s.mem) (u : State) : Memory.wf (s.reshow40 u).mem := by
  unfold reshow40; split
  · exact h
  · exact poke_wf h _ _

theorem showQueue_wf (h : Memory.wf s.mem) : Memory.wf s.showQueue.mem := poke_wf (pokes_wf h _ _) _ _
theorem showColl_wf (h : Memory.wf s.mem) (old : Coll) : Memory.wf (s.showColl old).mem :=
  pokeIf_wf (pokeChanged_wf (pokeChanged_wf (pokeChanged_wf h _ _ _) _ _ _) _ _ _) _ _ _
theorem showFilling_wf (h : Memory.wf s.mem) : Memory.wf s.showFilling.mem := poke_wf h _ _
theorem writeColl_wf (h : Memory.wf s.mem) : Memory.wf s.writeColl.mem := poke_wf (pokes_wf (pokes_wf h _ _) _ _) _ _
theorem emptyHeader_wf (h : Memory.wf s.mem) (i : Nat) : Memory.wf (s.emptyHeader i).mem := poke_wf (pokes_wf h _ _) _ _
theorem showStation_wf (h : Memory.wf s.mem) (i : Fin 30) : Memory.wf (s.showStation i).mem := poke_wf (poke_wf h _ _) _ _

theorem setChannel_wf (h : Memory.wf s.mem) (c : Fin 4) (ch : Channel) : Memory.wf (s.setChannel c ch).mem := by
  unfold setChannel
  exact pokeIf_wf (pokeIf_wf (by exact h) _ _ _) _ _ _

end Sys2Proof.Machine.State
end

