-- ==== Sys2Proof/WellFormed.lean ====
section
/-! DEFINITION. Which commands are well formed: what the operand types do not already say. -/

namespace Sys2Proof

/-- A write has no function when it goes to IDENT, or touches only bits of CONTROL or WAKE that have none (R188).
A write to SWEEP always has one. -/
def ignoredWrite (offset : Fin 4) (value : Word) : Bool :=
  match offset with
  | 0 => true
  | 1 => value.toNat % 2 == 0
  | 2 => false
  | 3 => value.toNat % 2048 == 0

/-- A command is well formed when a register write named ignored is one (R188), a reply frame that ends has at least
one bit (R54), and a tachometer edge comes from an input 12–15 (R123). Every other range is in the operand's type. -/
def WellFormed : Instr → Bool
  | .registerWriteIgnored offset value => ignoredWrite offset value
  | .replyEnd bits => !bits.isEmpty
  | .tachActiveEdge input _ => decide (12 ≤ input.val)
  | .powerOn | .brownOut | .supplyRestored | .memoryClearDone | .hardResetAssert | .hardResetRelease | .softReset
  | .deferredResetBegin | .sweep _ | .wakeClear _ | .sweepTimerExpiry | .sweepSlot | .settingsApply | .listRun
  | .listCut | .engineHold | .engineResume | .watchArm | .watchDisarm | .watchFeed | .collectionClose
  | .collectionRestart | .timeSet | .dutySet | .stationForget | .identProgram | .identProgramEnd _ _ | .read
  | .retrySpacingExpiry | .blockRead | .write | .control | .statusPoll | .rollCall | .sampleAll | .clear
  | .sampleLocal | .stamp | .mark | .loop | .wait | .waitExpiry | .raise | .close | .chain | .endStep
  | .commandFrameSent | .broadcastSent | .rollCallFrameSent | .rollCallSlot _ | .replyBegin | .replyTimeout
  | .strayFrame | .drainEnd | .settlingEnd | .watchTick | .freshnessExpiry _ | .closeAgeExpiry
  | .rawLevelChange _ _ | .debounceWindowExpiry _ | .firstWindowExpiry _ | .stallIntervalExpiry _ | .endDelayExpiry
  | .rampTick | .burstStart _ | .burstExpiry _ | .spacingExpiry _ | .timestampAdvance | .timeWrap
  | .surveyTimerExpiry _ | .hostWordAccess _ _ => true

end Sys2Proof
end

