-- ==== Sys2Proof/Tests/Slice0.lean ====
section
/-! SUPPORT. Small tests. The expected values are the manual's own: its worked sequences, tables and formats. -/

namespace Sys2Proof.Tests

/- One theorem at a time: many kernel evaluations at once need more memory than the check allows. -/
set_option Elab.async false

open Machine

/-! ## States for tests -/

/-- The state with words of exchange memory written. -/
def withWords (s : State) (ws : List (Nat × Word)) : State := ws.foldl (fun s p => s.poke p.1 p.2) s

/-- The state that a command answers. -/
def after (s : State) (c : Instr) : State :=
  match exec c s with
  | .next t => t
  | .fault _ | .refused _ => s

/-- After a reset, with the bus controller in IDLE and exchange memory all 0: a test writes the words it needs. -/
def atRest : State := { State.reset with mem := [], bus := { State.reset.bus with ctl := .idle } }

/-- The state with the built-in settings block in exchange memory, but for some words, and a TAKEN slot 2. -/
def withBlock (s : State) (ws : List (Nat × Word)) : State :=
  { s with
    mem :=
      (((ws.foldl (fun l p => l.set p.1 p.2) builtInBlock).zipIdx.map fun p => wordCells p.2 p.1).flatten
        ++ wordCells 0x110 2) }

/-- The state at a moment of the elapsed-time base. -/
def atMoment (s : State) (m : Moment) : State := { s with time := { s.time with base := m } }

/-- A command that answers a state answers this one. -/
theorem next_after {c : Instr} {s t : State} (h : exec c s = .next t) : exec c s = .next (after s c) := by simp [after, h]

/-- A run of list 6 at 0600H. -/
def ctx : Ctx where
  list := 6
  source := .timer 1
  endRecord := false
  addr := 0x600
  executed := 0
  mark := none
  cut := false
  start := 0
  lastDone := none
  phase := .between

/-- A list runs, over words of exchange memory. -/
def running (c : Ctx) (ws : List (Nat × Word)) : State :=
  withWords { atRest with engine := { State.reset.engine with mode := .running, ctx := some c } } ws

/-- The controller in a state, a list's step at `c` being carried out. -/
def onBus (c : Ctx) (ctl : BusCtl) : State :=
  { running c [] with bus := { State.reset.bus with ctl } }

/-- The engine in a mode with a queue. -/
def engineIn (s : State) (mode : EngineMode) (queue : List QEntry) : State :=
  { s with engine := { s.engine with mode, queue } }

/-- A taken request of slot 2. -/
def asked (kind : ReqKind) (p1 p2 p3 : Word) : Taken := { slot := 2, kind, wake := true, p1, p2, p3, p4 := 0 }

/-- The Request Table carries a request out, at slot 2 of a sweep. -/
def carrying (s : State) (r : Taken) : State :=
  withWords { s with req := { s.req with sweep := some 2, current := some r } } [(0x110, 2)]

/-- SETTINGS_APPLY is carried out over the built-in settings block, but for some words. -/
def applying (s : State) (ws : List (Nat × Word)) : State :=
  withBlock { s with req := { s.req with sweep := some 2, current := some (asked .settingsApply 0 0 0) } } ws

/-- The state with an input's settings and state. -/
def withInput (s : State) (i : Fin 16) (g : InputSettings) (x : Input) : State :=
  { s with settings := { s.settings with inputs := s.settings.inputs.set i g }, inputs := s.inputs.set i x }

/-- The state with a fan channel's settings and state. -/
def withFan (s : State) (c : Fin 4) (g : ChannelSettings) (ch : Channel) : State :=
  { s with settings := { s.settings with channels := s.settings.channels.set c g }, duty := s.withChannel c ch }

/-- The state with a watch. -/
def withWatch (s : State) (n : Fin 64) (w : Watch) : State := { s with watches := s.watches.set n w }

/-- The state with a station's record. -/
def withStation (s : State) (i : Fin 30) (x : Station) : State :=
  { s with bus := { s.bus with stations := s.withStation i x } }

/-- The state with a visit state. -/
def inVisit (s : State) (v : VisitState) : State := { s with visit := { s.visit with state := v } }

/-! ## Well-formedness: each check refuses an ill-formed command -/

theorem test_wellFormed_softReset_is_not_ignored : WellFormed (.registerWriteIgnored 1 1) = false := by decide
theorem test_wellFormed_sweep_is_not_ignored : WellFormed (.registerWriteIgnored 2 0) = false := by decide
theorem test_wellFormed_wakeClear_is_not_ignored : WellFormed (.registerWriteIgnored 3 0x400) = false := by decide
theorem test_wellFormed_ignored_writes :
    (WellFormed (.registerWriteIgnored 0 1) && WellFormed (.registerWriteIgnored 1 2) &&
      WellFormed (.registerWriteIgnored 3 0x800)) = true := by decide
theorem test_wellFormed_reply_has_bits : WellFormed (.replyEnd []) = false := by decide
theorem test_wellFormed_tach_inputs : (WellFormed (.tachActiveEdge 11 1), WellFormed (.tachActiveEdge 12 1)) = (false, true) := by
  decide

/-! ## No command is spelled in bits -/

theorem test_no_word_spells_a_command : decodeTableWord 32 1 = none := by decide

/-! ## Reset (R191, R195, R122, R101, R159) -/

theorem test_reset_watch_word : State.reset.peek 0x205 = 0x4070 := by decide +kernel
theorem test_reset_output_mirror : State.reset.peek 0xA4 = 255 := by decide +kernel
theorem test_reset_restart_record : (State.reset.peek 0x2005, State.reset.peek 0x2007) = (0x312, 0) := by decide +kernel
theorem test_survival_mask_default : (State.reset).settings.survivalMask = 0x7C4 := by decide
theorem test_builtIn_block_passes_its_tests : firstBadField (withBlock atRest []).mem = none := by decide +kernel
theorem test_step_71_of_a_block : firstBadField (withBlock atRest [(0x17, 0xFF000000)]).mem = some 71 := by
  decide +kernel

/-! ## Frames (R53, R55, 11.9) -/

/-- The check of the ASCII text "123456789" under generator 1021H, preset FFFFH: 29B1H, the code's published value. -/
theorem test_check_of_digits :
    checkOf (((List.range 9).map fun k => bitsOf 8 (0x31 + k)).flatten) = 0x29B1 := by decide +kernel
theorem test_read_frame :
    (Work.transaction (.read 6 2 false)).frameBits.take 14 =
      [false, false, true, true, true, false, false, false, false, false, false, true, false, false] := by decide
theorem test_blockRead_frame_sends_count_less_one :
    ((Work.block { station := 2, sub := 1, wide := true, count := 200, terminator := none }).frameBits.drop 14).take 8 =
      bitsOf 8 199 := by decide
theorem test_remoteTake_frame :
    (Sending.ownTake).frameBits.take 9 = [true, true, true, true, true, true, true, false, false] := by decide
theorem test_frame_is_closed_by_its_check : (Work.rollCall).frameBits.length = 25 := by decide

/-! ## Watch 12 of 4.11 -/

/-- The five words of the definition; F is 132, since the 900 s of 4.11 is past the field (log 27). -/
def watch12Words : List (Nat × Word) :=
  [(0x26C, 0x0064099B), (0x26D, 0x0000FE0C), (0x26E, 0x157C1194), (0x26F, 0x20A30096), (0x270, 0x00061584)]

/-- The watch before its samples. -/
def watch12 (g : Grade) (s : Int) (cand : Option Grade) (count : Nat) : Watch :=
  { State.resetWatch with armed := true, grade := g, smooth := s, cand, pcount := count, restart := false }

/-- Grade, smoothed value, candidate and count after a raw sample. -/
def sample12 (w : Watch) (raw : Int) : Grade × Int × Option Grade × Nat :=
  let d := readDef (withWords atRest watch12Words).mem 12
  let v := evaluated d w (scaleValue d raw) (some raw) 0 0
  (v.grade, v.smooth, v.cand, v.pcount)

theorem test_watch12_sample1 : sample12 (watch12 .normal 4466 none 0) 1838 = (.normal, 4478, none, 0) := by decide +kernel
theorem test_watch12_sample2 : sample12 (watch12 .normal 4478 none 0) 1880 = (.normal, 4512, some .warnHigh, 1) := by
  decide +kernel
theorem test_watch12_sample4 : sample12 (watch12 .normal 4556 (some .warnHigh) 2) 1925 = (.warnHigh, 4598, none, 0) := by
  decide +kernel
theorem test_watch12_sample8 : sample12 (watch12 .warnHigh 4430 none 0) 1700 = (.warnHigh, 4368, none, 0) := by decide +kernel
theorem test_watch12_sample9 : sample12 (watch12 .warnHigh 4368 none 0) 1690 = (.warnHigh, 4316, some .normal, 1) := by
  decide +kernel
theorem test_watch12_sample11 : sample12 (watch12 .warnHigh 4277 (some .normal) 2) 1700 = (.normal, 4253, none, 0) := by
  decide +kernel

/-! ## The timed shelf survey of 2.8 -/

/-- The steps of list 6, from 0600H. -/
def list6 : List (Nat × Word) :=
  [(0x600, 0x24820701), (0x601, 12), (0x602, 0x05530701), (0x603, 255), (0x604, 0x041ED009), (0x605, 0x0006000A), (0x606, 17)]

theorem test_read_fields_of_0600 :
    readFields 0x24820701 12 =
      some { station := 6, sub := 2, wide := false, ready := .retry, budget := 2, failure := .abort, record := true,
             watch := some 12 } := by decide
theorem test_read_fields_of_0602 :
    readFields 0x05530701 255 =
      some { station := 6, sub := 3, wide := true, ready := .pass, budget := 0, failure := .continue, record := true,
             watch := none } := by decide
theorem test_sampleLocal_fields_of_0604 :
    localFields 0x041ED009 = some { source := .tach 13, record := true, watch := some 30 } := by decide
theorem test_read_sends_its_frame :
    ((after (running ctx list6) .read).bus.ctl, (after (running ctx list6) .read).peek 0x45) =
      (.sending (.work (.transaction (.read 6 2 false)) 3), 0x06008106) := by decide +kernel
theorem test_stamp_record :
    let t := after (running { ctx with addr := 0x605 } list6) .stamp
    (t.peek 0x2008, t.peek 0x200A, t.peek 0x200B) = (0x0407, 0x00060006, 0x605) := by decide +kernel
theorem test_end_ends_the_run :
    let t := after (running { ctx with addr := 0x606, executed := 4 } list6) .endStep
    (t.engine.mode, t.peek 0x19A, t.peek 0xBC) = (.idle, 1, 0x01000000) := by decide +kernel

/-! ## Each command once: one step, one or two fields of what it leaves -/

/-- An input as 6.7 sets it: active low, 20 ms, both edges recorded, ACTIVATE wakes, FIRST_HOLD. -/
def visitKey : InputSettings where
  enabled := true
  activeLow := true
  debounce := 20
  recordEdges := ⟨true, true⟩
  wakeEdges := ⟨true, false⟩
  triggerList := none
  triggerEdge := ⟨true, false⟩
  firstHold := true
  tach := false
  stallTime := 100

/-- An input that has settled, with a raw level and a window. -/
def settledInput (raw level : Bool) (window : Window) : Input := { State.resetInput with raw, level, settled := true, window }

/-- The hut of 6.7 while the controller is STREAMING. -/
def keyHut (x : Input) : State :=
  let s := withInput (onBus ctx (.streaming { station := 2, sub := 0, wide := false, count := 200, terminator := none } 3 [] none)) 9
    visitKey x
  { s with settings := { s.settings with visitInput := some 9, visitList := some 15 } }

theorem test_an_open_mirrors_a_record_count_that_comes_back :
    let s := withWords { atRest with coll := { atRest.coll with st := .between, next := 0 } } [(0x9B, 7)]
    let t := after { s with time := { s.time with timestamp := 0xFFFFFFFF } } .timeWrap
    (s.coll.recs, s.coll.used, t.coll.recs, t.coll.used, t.peek 0x9B) = (1, 3, 1, 3, 0xC001) := by decide +kernel
theorem test_debounceWindowExpiry_begins_a_visit :
    let t := after (keyHut (settledInput false false (.debounce 0))) (.debounceWindowExpiry 9)
    (t.visit.state, t.bus.visitPending, (t.inputs[9]).count, t.peek 0x2008, t.peek 0x200C) =
      (.starting, some .localRelease, 1, 0x40B, 0x40D) := by decide +kernel
theorem test_an_edge_in_leaving_cancels_the_end_delay :
    let s := inVisit (keyHut (settledInput false false (.debounce 0))) .leaving
    let t := after { s with visit := { s.visit with endDue := some 9 } } (.debounceWindowExpiry 9)
    (t.visit.state, t.visit.endDue, t.bus.visitPending) = (.on, none, none) := by decide +kernel
theorem test_release_aborts_a_visit :
    let t := after (inVisit (keyHut (settledInput true true (.debounce 0))) .starting) (.debounceWindowExpiry 9)
    (t.visit.state, t.bus.visitPending, t.peek 0x200E) = (.off, none, 2) := by decide +kernel
theorem test_rawLevelChange_starts_the_window :
    ((after (keyHut (settledInput true false .none)) (.rawLevelChange 9 false)).inputs[9]).window = .debounce 2000 := by
  decide +kernel

/-- Channel 1 of 7.9. -/
def fan1 : ChannelSettings where
  source := some 12
  start := 3500
  slope := 12
  minimum := 60
  step := 20
  fallback := 255
  ramp := true
  tach := some 13

/-- The channel's state, with its output and burst state. -/
def fanAt (output : Nat) (burst : BurstState) (used : Nat) : Channel :=
  { State.resetChannel with output, target := 160, burst, used, stalled := true }

/-- The hut of 7.9: ECONOMY, and watch 12 NORMAL at 4,512. -/
def fanHut (ch : Channel) : State :=
  let s := withWatch (withFan atRest 1 fan1 ch) 12 (watch12 .normal 4512 none 0)
  { s with duty := { s.duty with shed := .economy } }

theorem test_rampTick_in_a_burst :
    let t := after (atMoment (fanHut (fanAt 255 (.burst 999999) 1)) 10000) .rampTick
    ((t.duty.channels[1]).target, (t.duty.channels[1]).output) = (160, 255) := by decide +kernel
theorem test_rampTick_takes_the_rest :
    ((after (atMoment (fanHut (fanAt 175 (.spacing 999999) 1)) 10000) .rampTick).duty.channels[1]).output = 160 := by decide +kernel
theorem test_burstExpiry_spaces_10_s :
    ((after (atMoment (fanHut (fanAt 255 (.burst 200000) 1)) 200000) (.burstExpiry 1)).duty.channels[1]).burst = .spacing 1200000 := by
  decide +kernel
theorem test_spacingExpiry_fails_the_fan :
    let t := after (atMoment (fanHut (fanAt 160 (.spacing 5) 3)) 5) (.spacingExpiry 1)
    ((t.duty.channels[1]).burst, t.peek 0x200A) = (.failed, 1 + 13 * 4 + 1 * 64 + 3 * 256) := by
  decide +kernel
theorem test_burstStart_begins_an_episode :
    let t := after (fanHut { fanAt 20 .none 0 with handed := true }) (.burstStart 1)
    ((t.duty.channels[1]).output, (t.duty.channels[1]).used, t.wake.pending) = (255, 1, 0x480) := by decide +kernel
theorem test_dutySet_clamps_at_255 :
    (after (carrying atRest (asked .dutySet 1 1 300)) .dutySet).peek 0x117 = 255 := by decide +kernel
theorem test_stallInterval_begins_an_episode :
    let s := withInput (fanHut { fanAt 160 .none 0 with stalled := false }) 13 { visitKey with tach := true }
      { settledInput true false .none with stallFrom := some 0 }
    let t := after (atMoment s 100000) (.stallIntervalExpiry 13)
    ((t.duty.channels[1]).output, (t.inputs[13]).period) = (255, 65535) := by decide +kernel
theorem test_tachActiveEdge_measures_10_us :
    let s := withInput atRest 13 { visitKey with tach := true } { settledInput true false .none with lastEdge := some 0, stallFrom := some 0 }
    ((after s (.tachActiveEdge 13 412)).inputs[13]).period = 412 := by decide +kernel

/-! The posting round of 9.5. -/

theorem test_engineHold_in_running_is_held :
    let t := after (carrying (running ctx []) (asked .engineHold 0 0 0)) .engineHold
    (t.engine.mode, t.req.inflight, t.peek 0x110) = (.holding, [{ slot := 2, kind := .hold, wake := true }], 2) := by
  decide +kernel
theorem test_settingsApply_of_a_geometry_is_busy_in_holding :
    let t := after (applying (engineIn (running ctx []) .holding []) [(0x9, 0x00102000), (0xA, 0x02580600)]) .settingsApply
    (t.peek 0x110, t.peek 0x116, t.wake.pending) = (4, 1, 0x401) := by decide +kernel
theorem test_settingsApply_of_a_geometry_restarts_in_held :
    let t := after (applying (engineIn atRest .held []) [(0x9, 0x00022000), (0xA, 0x02580600)]) .settingsApply
    (t.peek 0x110, t.peek 0x117, t.settings.count, t.coll.st, t.coll.nextSeq) = (3, 1, 2, .between, 0) := by decide +kernel
theorem test_listRun_is_queued_while_a_list_runs :
    let t := after (carrying (withWords (running ctx []) [(0x1D0, 1), (0x1D1, 0x700)]) (asked .listRun 20 0 0)) .listRun
    (t.peek 0x110, t.peek 0x117, t.engine.queue) = (3, 1, [{ list := 20, urgent := false, source := .requested }]) := by
  decide +kernel
theorem test_engineResume_starts_the_head :
    let s := engineIn (withWords atRest [(0x1D0, 1), (0x1D1, 0x700)]) .held [{ list := 20, urgent := false, source := .requested }]
    let t := after (carrying s (asked .engineResume 0 0 0)) .engineResume
    (t.engine.mode, t.engine.ctx.map Ctx.addr, t.peek 0x110) = (.running, some 0x700, 3) := by decide +kernel
theorem test_sweepSlot_refuses_code_0 :
    let t := after (withWords { atRest with req := { atRest.req with sweep := some 9 } } [(0x148, 1)]) .sweepSlot
    (t.peek 0x148, t.peek 0x14E, t.req.sweep) = (4, 2, some 10) := by decide +kernel
theorem test_sweepSlot_interrupts_after_a_reset :
    let t := after (withWords { atRest with req := { atRest.req with sweep := some 15 } } [(0x178, 2), (0x179, 0x104)]) .sweepSlot
    (t.peek 0x178, t.peek 0x17E, t.req.sweepCount, t.wake.pending) = (4, 9, 1, 0x401) := by decide +kernel
theorem test_sweep_while_one_runs_is_pending :
    (after { atRest with req := { atRest.req with sweep := some 7 } } (.sweep 0)).req.sweepPending = true := by decide +kernel
theorem test_listCut_of_a_queued_list :
    let s := engineIn (running ctx []) .running [{ list := 20, urgent := false, source := .requested }]
    let t := after (carrying s (asked .listCut 20 0 0)) .listCut
    (t.engine.queue, t.peek 0x110, t.peek 0x117) = ([], 3, 0) := by decide +kernel
theorem test_watchArm_of_zeros_fails_check_3 :
    let t := after (carrying atRest (asked .watchArm 12 0 0)) .watchArm
    (t.peek 0x116, t.peek 0x117) = (5, 3) := by decide +kernel
theorem test_watchFeed_after_a_lapse_rates_at_once :
    let s := withWatch (withWords atRest watch12Words) 12 { watch12 .unrated 4368 none 0 with restart := true }
    let t := after (carrying s (asked .watchFeed 12 4182 0)) .watchFeed
    ((t.watches[12]).grade, (t.watches[12]).smooth, t.peek 0x117) = (.normal, 4182, 1) := by decide +kernel
theorem test_freshnessExpiry_keeps_the_values :
    let w := { watch12 .warnHigh 4368 none 0 with eng := 4182, mark := some 0 }
    let t := after (atMoment (withWatch (withWords atRest watch12Words) 12 w) 13200000) (.freshnessExpiry 12)
    (t.wake.pending, t.peek 0x2008, t.peek 0x200B) = (0x400, 0x40A + 2 ^ 17 * 3 + 2 ^ 23, 4368 + 65536 * 4182) := by decide +kernel
theorem test_timeSet_answers_the_old_value :
    let s := { atRest with time := { atRest.time with timestamp := 12704 } }
    let t := after (carrying s (asked .timeSet 86400000 0 0)) .timeSet
    (t.time.timestamp, t.peek 0x117, t.peek 0x200A, t.peek 0x200B) = (86400000, 12704, 12704, 86400000) := by decide +kernel
theorem test_timestampAdvance_wraps :
    let s := { atRest with time := { atRest.time with timestamp := 0xFFFFFFFF } }
    let t := after s .timestampAdvance
    (t.time.timestamp, t.time.wrapCount, t.peek 0x2008, t.peek 0x200A) = (0, 1, 0x310, 1) := by decide +kernel
theorem test_identProgramEnd_programs_the_store :
    let s := { atRest with ident := { atRest.ident with programming := some { route := 0xAB, hut := 0xCD, due := 4000 } } }
    let t := after (atMoment s 4000) (.identProgramEnd 0xAB 0xCD)
    (t.ident.marker, t.peek 0xAB) = (true, 0x10CD00AB) := by decide +kernel
theorem test_collectionClose_closes_asked :
    let t := after (carrying atRest (asked .collectionClose 0 0 0)) .collectionClose
    (t.coll.st, t.peek 0x2000, t.peek 0x2001) = (.between, 2, 1 + 2 ^ 14 * 3 + 2 ^ 29 * 3) := by decide +kernel
theorem test_stationForget_counts_the_lost :
    let s := withStation atRest 21 { State.resetStation with state := .lost, silences := 4 }
    let t := after (carrying s (asked .stationForget 0 0 0)) .stationForget
    ((t.bus.stations[21]).state, t.peek 0x117, t.wake.pending) = (.unknown, 1, 0x401) := by decide +kernel

/-! The lost filter sensor of 3.15: station 22. -/

theorem test_rollCallSlot_silence_loses_the_station :
    let s := withStation (onBus { ctx with phase := .bus .rollCall } (.slots 21 0 0)) 21
      { State.resetStation with state := .present, silences := 2 }
    let t := after s (.rollCallSlot .nothing)
    ((t.bus.stations[21]).state, (t.bus.stations[21]).silences, t.wake.pending, t.peek 0x2008) = (.lost, 3, 0x420, 0x305) := by
  decide +kernel
theorem test_rollCallSlot_presence_brings_it_back :
    let s := withStation (onBus { ctx with phase := .bus .rollCall } (.slots 21 0 0)) 21
      { State.resetStation with state := .lost, silences := 4 }
    let t := after s (.rollCallSlot (.bits true true false false))
    ((t.bus.stations[21]).state, (t.bus.stations[21]).attention, t.bus.ctl) =
      (.present, true, .slots 22 0x400000 0x400000) := by decide +kernel
theorem test_read_of_a_lost_station_sends_nothing :
    let s := withStation (running ctx [(0x600, 0x05001601), (0x601, 255)]) 21 { State.resetStation with state := .lost }
    let t := after s .read
    (t.bus.ctl, t.peek 0x2008, t.engine.ctx.map Ctx.addr) = (.idle, 1 + 256 * 5 + 2 ^ 17 * 6, some 0x602) := by decide +kernel
theorem test_replyTimeout_counts_a_silence :
    let st : ReadStep :=
      { station := 21, sub := 0, wide := false, ready := .stop, budget := 0, failure := .continue, record := false, watch := none }
    let s := onBus { ctx with phase := .bus (.read st 0) } (.awaiting (.read 21 0 false) (some 300))
    let t := after (atMoment s 300) .replyTimeout
    ((t.bus.stations[21]).silences, t.bus.ctl, t.engine.ctx.map Ctx.addr) = (1, .idle, some 0x602) := by decide +kernel
theorem test_replyEnd_gives_the_value :
    let st : ReadStep :=
      { station := 6, sub := 2, wide := false, ready := .retry, budget := 2, failure := .abort, record := true, watch := none }
    let s := onBus { ctx with phase := .bus (.read st 0) } (.awaiting (.read 6 2 false) none)
    let bits := closed (bitsOf 5 7 ++ [true, true, false, false] ++ bitsOf 2 1 ++ bitsOf 16 1838)
    let t := after s (.replyEnd bits)
    ((t.bus.stations[6]).state, t.peek 0x200B, t.peek 0x200A) = (.present, 1838, 7 + 32 * 2) := by decide +kernel
theorem test_write_in_a_visit_is_held :
    let t := after (inVisit (running ctx [(0x600, 0x01020703), (0x601, 7)]) .on) .write
    (t.bus.ctl, t.engine.ctx.map Ctx.addr) = (.idle, some 0x602) := by decide +kernel
theorem test_loop_returns_to_its_mark :
    (after (running { ctx with mark := some (0x5F0, 2) } [(0x600, 12)]) .loop).engine.ctx.map (fun c => (c.addr, c.mark)) =
      some (0x5F0, some (0x5F0, 1)) := by decide +kernel
theorem test_mark_keeps_one_pass_fewer :
    (after (running ctx [(0x600, 0x0003000B)]) .mark).engine.ctx.map Ctx.mark = some (some (0x601, 2)) := by decide +kernel
theorem test_raise_code_and_cause :
    let t := after (running ctx [(0x600, 0x0042000E)]) .raise
    (t.peek 0x42, t.wake.pending) = (0x420000, 0x410) := by decide +kernel
theorem test_chain_queues_its_list :
    ((after (running ctx [(0x600, 0x00140010), (0x1D0, 3)]) .chain).engine.queue) =
      [{ list := 20, urgent := true, source := .chain }] := by decide +kernel
theorem test_wait_10_ms :
    (after (running ctx [(0x600, 0x000A000D)]) .wait).engine.ctx.map Ctx.phase = some (.waiting 1000) := by decide +kernel
theorem test_broadcastSent_turns_on_a_visit :
    (after (inVisit (onBus { ctx with phase := .waiting 5 } (.sending (.visit .localRelease))) .starting) .broadcastSent).visit.state = .on := by
  decide +kernel
theorem test_settlingEnd_sends_remote_take :
    (after (atMoment State.reset 1500) .settlingEnd).bus.lineBits.take 9 = [true, true, true, true, true, true, true, false, false] := by
  decide +kernel
theorem test_wakeClear_releases_the_line :
    let t := after State.reset (.wakeClear 0x400)
    (t.wake.pending, t.wake.line) = (0, false) := by decide +kernel
theorem test_surveyTimerExpiry_restarts_from_the_expiry :
    let s := { running ctx [(0x19C, 0x41)] with
      time := { atRest.time with surveyDue := #v[none, none, some 600, none] }
      settings := { atRest.settings with timers := #v[0, 0, 6000, 0] } }
    let t := after (atMoment s 600) (.surveyTimerExpiry { timer := 2, offers := 32 })
    (t.time.surveyDue[2], t.engine.queue) = (some 6000600, [{ list := 7, urgent := false, source := .timer 2 }]) := by
  decide +kernel
theorem test_surveyTimerExpiry_pauses_between_two_triggers :
    let s := { running ctx [(0x19C, 0x41), (0x1CC, 0x41)] with time := { atRest.time with series := #v[[], [], [7, 19], []] } }
    let t := after s (.surveyTimerExpiry { timer := 2, offers := 1 })
    (t.time.series[2], t.engine.queue) = ([19], [{ list := 7, urgent := false, source := .timer 2 }]) := by decide +kernel
theorem test_a_recovered_header_has_its_unassigned_bits_0 :
    (State.recoverSegment (withWords atRest [(0x2000, 0xF0ABFFFD)]) 0).peek 0x2000 = 0x00AB0002 := by decide +kernel
theorem test_host_write_then_read_gives_the_word :
    (after (after atRest (.hostWordAccess 0x7FFF (.write 0xDEADBEEF))) (.hostWordAccess 0x7FFF .read)).hostData = 0xDEADBEEF := by
  decide +kernel

/-! ## Witnesses: states and operands that meet the hypotheses of each statement together, clause by clause -/

/-- In a reset, with commands waiting. -/
def inReset (phase : ResetPhase) (cause : ResetCause) (pin : Bool) (pending : List Instr := []) : State :=
  { (atRest.beginReset phase cause).setPin pin with pending }

/-- Segment 0 fills, with `n` words left for records. -/
def leaving (s : State) (n : Nat) : State := { s with coll := { s.coll with used := 3067 - n } }

/-- Segment 0 has room for a record that takes the last words left. -/
theorem room_of_leaving (s : State) (n : Nat) (h : s.settings = builtInSettings) (hs : s.coll.st = .filling 0 0) (hn : n ≤ 3000) :
    (leaving s n).RoomFor 0 n := by
  refine ⟨?_, ?_, ⟨0, hs⟩, ?_⟩
  · unfold State.GeometryOk; simp only [leaving, h]; decide
  · simp only [leaving, h]; decide
  · simp only [leaving, h, builtInSettings]; omega

/-- Segment 0 has room for records that take the last words left. -/
theorem roomForAll_of_leaving (s : State) (n : Nat) (rs : List Record) (h : s.settings = builtInSettings)
    (hs : s.coll.st = .filling 0 0) (hn : n ≤ 3000) (hr : ((leaving s n).recordWords rs).length = n) :
    (leaving s n).RoomForAll 0 rs := by
  intro _
  rw [hr]
  exact room_of_leaving s n h hs hn

/-- A list runs, two lists wait, and a command does. -/
def busy : State :=
  { engineIn (running ctx list6) .running
      [{ list := 3, urgent := true, source := .chain }, { list := 6, urgent := false, source := .requested }] with
    pending := [.stamp] }

theorem witness_StepRunsFrontCommand : busy.pending = [.stamp] ∧ State.reset.pending = [] := ⟨rfl, rfl⟩
theorem witness_steps_from_lawful_states :
    Memory.wf busy.mem ∧ busy.GeometryOk ∧ busy.LineLaw ∧ busy.CountLaw ∧ busy.QueueLaw ∧ busy.EngineLaw ∧
      ∃ t, step busy = .next t := by
  refine ⟨by decide +kernel, by unfold State.GeometryOk; decide +kernel, by unfold State.LineLaw; decide +kernel,
    by unfold State.CountLaw; decide +kernel, ⟨by decide +kernel, ?_⟩, ⟨by decide +kernel, by decide +kernel⟩, ⟨_, rfl⟩⟩
  simp [busy, engineIn, UrgentFirst]
theorem witness_StepKeepsDutyRanges : (fanHut (fanAt 255 (.burst 9) 3)).DutyLaw ∧ ∃ t, step (fanHut (fanAt 255 (.burst 9) 3)) = .next t := by
  refine ⟨⟨⟨by decide +kernel, by decide +kernel, by decide +kernel⟩, by decide +kernel⟩, ⟨_, rfl⟩⟩
theorem witness_PartKeepsHostWords :
    0x2000 ≤ busy.settings.base ∧ (∀ a v, Instr.stamp ≠ .hostWordAccess a (.write v)) ∧ Instr.stamp ≠ .memoryClearDone ∧
      (∃ t, exec .stamp busy = .next t) ∧ HostWord 0x3F ∧ HostWord 0x1FFF :=
  ⟨by decide +kernel, nofun, nofun, ⟨_, rfl⟩, .inl (by decide), .inr (.inr (.inr (.inr (by decide))))⟩
theorem witness_VisitHoldsWriteFrames :
    let s := running ctx [(0x600, 0x01020703), (0x601, 7)]
    ∃ t, exec .write s = .next t ∧ t.bus.ctl = .sending (.work (.transaction (.write 6 2 false 7)) 3) ∧ s.bus.ctl ≠ t.bus.ctl :=
  ⟨_, next_after rfl, by decide +kernel, by decide +kernel⟩
theorem test_a_soft_reset_met_by_the_reset_input_becomes_a_hard_one :
    let t := after (inReset .working .soft false) .hardResetAssert
    (t.power.phase, t.power.cause, t.power.pin) = (.hardHeld, .hard, true) := by decide +kernel
theorem test_two_soft_reset_writes_begin_one_reset :
    let s := after { atRest with pending := [.softReset] } .softReset
    let t := after { s with pending := [] } .softReset
    (s.power.phase, t.power.phase, t.power.cause, t.coll.offered, t.coll.nextSeq) = (.working, .ready, .soft, 1, 1) := by
  decide +kernel
theorem test_a_released_hard_reset_met_by_the_input_goes_on :
    let s := after (inReset .hardHeld .hard true [.hardResetAssert]) .hardResetRelease
    (s.power.phase, (after s .hardResetAssert).power.phase, (after s .hardResetAssert).power.cause) =
      (.working, .hardHeld, .hard) := by decide +kernel
theorem witness_StepKeepsResetLaw :
    ∀ s ∈ [inReset .working .soft false [.hardResetAssert], inReset .working .hard true [.softReset], inReset .hardHeld .hard true,
        inReset .clearing .powerOn true, (inReset .clearing .powerOn true).clearMemory.setResetPhase .clearedHeld],
      s.ResetLaw ∧ ¬ s.ready ∧ ∃ t, step s = .next t := by
  intro s hs
  refine ⟨?_, ?_, ?_⟩
  · revert s; unfold State.ResetLaw State.WorkAbandoned State.BusForgotten State.ChannelFreed; decide +kernel
  · revert s; decide +kernel
  · simp only [List.mem_cons, List.not_mem_nil, or_false] at hs
    rcases hs with rfl | rfl | rfl | rfl | rfl <;> exact ⟨_, rfl⟩
theorem witness_ResetsBegin :
    (atRest.ready ∧ atRest.req.current = none) ∧
      (∀ c ∈ [Instr.hardResetAssert, .brownOut, .softReset],
        (inReset .working .soft false [c]).secondCauseNext = true ∧
        { atRest with pending := [c] }.secondCauseNext = true ∧ { atRest with pending := [c] }.ready ∧
          { atRest with pending := [c] }.power.deferred = none ∧
          (∀ p ∈ [ResetPhase.hardHeld, .clearedHeld],
            (inReset p .hard true [c]).secondCauseNext = true ∧ (inReset p .hard true [c]).power.phase = p) ∧
          ∀ d ∈ [DeferredReset.soft, .hard],
            let s : State := { atRest with pending := [c], power := { atRest.power with deferred := some d } }
            s.secondCauseNext = true ∧ s.ready ∧ s.req.current = none ∧ s.power.deferred = some d ∧ s.power.pin = false) ∧
      (∀ c ∈ [ResetCause.powerOn, .brownOut, .hard, .soft],
        (inReset .working c false).power.phase = .working ∧ (inReset .working c false).power.cause = c) ∧
      ∀ p ∈ [ResetPhase.supplyLow, .clearing, .clearedHeld, .hardHeld], (inReset p .brownOut false).power.phase = p := by
  decide +kernel
theorem witness_ColdResetEnds :
    (∀ s ∈ [inReset .supplyLow .brownOut false, inReset .clearing .powerOn true, inReset .clearing .powerOn false,
        inReset .clearing .powerOn false [.brownOut], (inReset .clearing .brownOut true).clearMemory.setResetPhase .clearedHeld,
        (inReset .clearing .brownOut false).clearMemory.setResetPhase .working],
      s.power.cause.cold = true ∧ s.WorkAbandoned ∧ s.wake = { pending := 0, line := false }) ∧
      (inReset .clearing .powerOn false).secondCauseNext = false ∧
      (inReset .clearing .powerOn false [.brownOut]).secondCauseNext = true ∧
      (∀ p ∈ [ResetPhase.clearedHeld, .working],
       let s := (inReset .clearing .brownOut (decide (p = .clearedHeld))).clearMemory.setResetPhase p
       s.power.phase = p ∧ s.secondCauseNext = false ∧ s.mem = writeWords [] 0 builtInBlock ∧
         s.settings = builtInSettings ∧ s.refused = 0) := by
  unfold State.WorkAbandoned State.BusForgotten State.ChannelFreed; decide +kernel
theorem witness_WarmResetsTakeSettings :
    (let s := withWords (inReset .hardHeld .hard true) [(0x2000, 0xF0ABFFFD)]
     s.secondCauseNext = false ∧ s.power.phase = .hardHeld ∧ s.power.cause = .hard ∧ s.WorkAbandoned ∧
       s.wake = { pending := 0, line := false } ∧ field (s.peek 0x2000) 0 2 = 1 ∧ field (s.peek 0x2C00) 0 2 = 0) ∧
      atRest.secondCauseNext = false ∧ atRest.ready ∧ atRest.power.deferred = none ∧ atRest.req.current = none := by
  unfold State.WorkAbandoned State.BusForgotten State.ChannelFreed; decide +kernel
theorem witness_WarmResets_working :
    ∀ c ∈ [ResetCause.hard, .soft],
      let s := inReset .working c false
      s.secondCauseNext = false ∧ s.power.phase = .working ∧ s.power.cause.cold = false ∧ s.WorkAbandoned ∧
        s.wake = { pending := 0, line := false } := by
  unfold State.WorkAbandoned State.BusForgotten State.ChannelFreed; decide +kernel
theorem witness_DeferredResetsWait :
    (carrying atRest (asked .timeSet 0 0 0)).ready ∧ (carrying atRest (asked .timeSet 0 0 0)).power.deferred = none ∧
      (∀ d pin, let s : State := { atRest with power := { atRest.power with deferred := some d, pin } }
        s.ready ∧ s.power.deferred = some d ∧ s.req.current = none ∧ s.power.pin = pin ∧ s.secondCauseNext = false) :=
  ⟨by decide +kernel, by decide +kernel, fun _ _ => ⟨rfl, rfl, rfl, rfl, rfl⟩⟩
theorem witness_RegistersAndPortServeTheHost :
    (inReset .clearing .powerOn false).power.phase ≠ .ready ∧ (atMoment atRest 20000).ready ∧
      (atMoment atRest 20000).time.sweepDue ≤ (atMoment atRest 20000).now := by decide +kernel
theorem witness_EventsOutOfTheirTime_in_reset : ¬ (inReset .clearing .powerOn false).ready ∧ actsInReset .stamp = false := by
  decide +kernel

/-- A READ of station 30 under RETRY and CONTINUE, with no record and no watch. -/
def read29 : ReadStep :=
  { station := 29, sub := 15, wide := true, ready := .retry, budget := 15, failure := .continue, record := false, watch := none }

/-- Every interval of the part ends 10 µs from now. -/
def early (ctl : BusCtl) (phase : Phase) (window : Window) (burst : BurstState) : State :=
  let s := withFan (withInput (onBus { ctx with phase } ctl) 13 { visitKey with tach := true } { settledInput true false window with stallFrom := some 1 })
    1 fan1 (fanAt 1 burst 1)
  { atMoment s 100000 with
    time := { s.time with base := 100000, sweepDue := 100001, rampDue := 100001, watchDue := 100001, surveyDue := #v[none, none, none, some 100001] }
    coll := { s.coll with st := .filling 0 1 }, settings := { s.settings with closeAge := 1 }
    visit := { s.visit with endDue := some 100001 }, ident := { s.ident with programming := some { route := 1, hut := 2, due := 100001 } } }

theorem witness_EventsOutOfTheirTimeChangeNothing :
    (∀ ctl ∈ [BusCtl.awaiting (.status 0) (some 100001),
        .streaming { station := 0, sub := 0, wide := false, count := 1, terminator := none } 1 [] (some 100001),
        .draining 15 (some 100001), .settling (some 100001)],
      (early ctl .between .none .none).bus.ctl = ctl) ∧
      (∀ p ∈ [Phase.waiting 100001, .spacing read29 0 100001], (early .idle p .none .none).engine.ctx = some { ctx with phase := p }) ∧
      (∀ w ∈ [Window.debounce 100001, .first 100001], ((early .idle .between w .none).inputs[13]).window = w) ∧
      (∀ b ∈ [BurstState.burst 100001, .spacing 100001], ((early .idle .between .none b).duty.channels[1]).burst = b) ∧
      (let s := early .idle .between .none .none
       s.now < 100001 ∧ s.time.sweepDue = 100001 ∧ s.time.rampDue = 100001 ∧ s.time.watchDue = 100001 ∧
         s.time.series[3] = [] ∧ s.time.surveyDue[3] = some 100001 ∧ s.coll.st = .filling 0 1 ∧
         1 + 100000 * s.settings.closeAge = 100001 ∧ (s.inputs[13]).stallFrom = some 1 ∧ s.visit.endDue = some 100001) := by
  decide +kernel

/-- A sweep stands at slot 15, whose words are given. -/
def sweepAt15 (ws : List (Nat × Word)) (held : List HeldRequest) : State :=
  withWords { atRest with req := { atRest.req with sweep := some 15, inflight := held } } ws

theorem witness_SweepTakesOrRefuses_accepts_and_refuses :
    (sweepAt15 [] []).ready ∧ (sweepAt15 [] []).req.sweep = some 15 ∧ (sweepAt15 [] []).req.current = none ∧
      (sweepAt15 [] []).power.deferred = none ∧
      (∀ p ∈ [((31 : Word), none), (32, some 1)],
        let m := (sweepAt15 [(0x178, 1), (0x179, 2), (0x17A, p.1)] []).mem
        slotState m 15 = 1 ∧ ReqKind.ofCode (slotKind m 15) = some .listRun ∧ badParameter (slotCopy m 15 .listRun) = p.2) := by
  decide +kernel
theorem witness_SweepTakesOrRefuses_other_slots :
    (slotState (sweepAt15 [(0x178, 1), (0x179, 15)] []).mem 15 = 1 ∧
      ReqKind.ofCode (slotKind (sweepAt15 [(0x178, 1), (0x179, 15)] []).mem 15) = none) ∧
      slotState (sweepAt15 [(0x178, 2)] []).mem 15 = 2 ∧ slotState (sweepAt15 [(0x178, 3)] []).mem 15 = 3 ∧
        (∃ e ∈ (sweepAt15 [(0x178, 2)] [{ slot := 15, kind := .hold, wake := false }]).req.inflight, e.slot = 15) := by
  decide +kernel
theorem witness_SweepTakesOrRefuses_takes :
    ∃ t, exec .sweepSlot (sweepAt15 [(0x178, 1), (0x179, 2), (0x17A, 31)] []) = .next t ∧ t.req.current.isSome := by
  exact ⟨_, next_after rfl, by decide +kernel⟩

/-- LIST_RUN or LIST_CUT of list 31, whose directory words are given. -/
def list31 (s : State) (kind : ReqKind) (w0 w1 : Word) : State :=
  carrying (withWords s [(0x1FC, w0), (0x1FD, w1)]) (asked kind 31 0 0)

/-- List 31 waits. -/
def entry31 : QEntry := { list := 31, urgent := false, source := .requested }

theorem witness_ListRunByItsAnswer :
    (∀ s ∈ [list31 atRest .listRun 0 0, list31 (engineIn atRest .held [entry31]) .listRun 1 0,
        list31 (engineIn atRest .held []) .listRun 1 0, list31 atRest .listRun 1 0x1FFF, list31 atRest .listRun 1 0x2000],
      s.ready ∧ s.req.current = some (asked .listRun 31 0 0) ∧ s.req.inflight = []) ∧
      (asked .listRun 31 0 0).p1.toNat ≤ 31 ∧ (readDir (list31 atRest .listRun 0 0).mem 31).enabled = false ∧
      (∃ q ∈ (list31 (engineIn atRest .held [entry31]) .listRun 1 0).engine.queue, q.list = 31) ∧
      (readDir (list31 atRest .listRun 1 0x1FFF).mem 31).enabled = true ∧
      inListArea (readDir (list31 atRest .listRun 1 0x1FFF).mem 31).start ∧
      ¬ inListArea (readDir (list31 atRest .listRun 1 0x2000).mem 31).start ∧
      (readDir (list31 atRest .listRun 1 0x2000).mem 31).endRecord = false := by decide +kernel

/-- Steps of the phases in which a cut can find list 31. -/
def phases31 : List Phase :=
  [.between, .waiting 5,
    .spacing { station := 0, sub := 0, wide := false, ready := .retry, budget := 1, failure := .abort, record := false, watch := none } 0 5,
    .bus .rollCall]

theorem witness_ListCutByItsPlace :
    (∀ p ∈ phases31,
      let c : Ctx := { ctx with list := 31, phase := p }
      let s := list31 (running c []) .listCut 1 0
      s.ready ∧ s.req.current = some (asked .listCut 31 0 0) ∧ s.req.inflight = [] ∧ s.engine.ctx = some c ∧ c.list = 31 ∧
        c.endRecord = false ∧ s.engine.queue = [] ∧ s.engine.mode = .running) ∧
      (list31 (engineIn atRest .held [entry31]) .listCut 1 0).engine.ctx = none := by decide +kernel
theorem witness_EngineHoldsAndResumes :
    ∀ k ∈ [ReqKind.engineHold, .engineResume], ∀ m ∈ [EngineMode.idle, .running, .holding, .held],
      let s := carrying (engineIn (withWords atRest [(0x1FD, 0x440)]) m [entry31]) (asked k 0 0 0)
      s.ready ∧ s.req.current = some (asked k 0 0 0) ∧ s.req.inflight = [] ∧ s.engine.mode = m ∧ s.engine.queue = [entry31] ∧
        inListArea (readDir s.mem 31).start := by decide +kernel
theorem witness_EngineHoldsAndResumes_with_pending_holds :
    let s := carrying (withWords { engineIn (running ctx []) .holding [] with
        req := { atRest.req with inflight := [{ slot := 15, kind := .hold, wake := true }] } } [(0x178, 2)]) (asked .engineResume 0 0 0)
    s.ready ∧ s.engine.mode = .holding ∧ (∀ e ∈ s.req.inflight, e.slot ≠ 2) ∧ slotState s.mem 15 = 2 ∧ s.engine.ctx = some ctx := by
  decide +kernel

/-- The hut with watch 63 as the shed watch, in ECONOMY. -/
def shedHut : State :=
  let s := withWords atRest [(0x43A, 0x00010000)]
  { s with settings := { s.settings with shedWatch := some 63 }, duty := { s.duty with shed := .economy } }

theorem witness_WatchesArmAndDisarm :
    (asked .watchArm 63 0 0).p1.toNat ≤ 63 ∧ (readDef (carrying atRest (asked .watchArm 63 0 0)).mem 63).firstFault = some 3 ∧
      (∀ k ∈ [ReqKind.watchArm, .watchDisarm],
        let s := carrying shedHut (asked k 63 0 0)
        s.ready ∧ s.req.current = some (asked k 63 0 0) ∧ s.req.inflight = [] ∧ (readDef s.mem 63).firstFault = none ∧
          s.settings.shedWatch = some 63 ∧ s.duty.shed ≠ .none) ∧
      (carrying shedHut (asked .watchArm 63 0 0)).coll.used + 3 + 5 ≤ (carrying shedHut (asked .watchArm 63 0 0)).settings.size := by
  decide +kernel

/-- The grade that WATCH_FEED's statement gives a value: its own expression. -/
def fedGrade (d : WatchDef) (w : Watch) (v : Int) : Grade :=
  let e := max (-32768) (min v 32767)
  let x := if w.restart = true ∨ d.k = 0 then e else w.smooth + (e - w.smooth + 2 ^ (d.k - 1)) / 2 ^ d.k
  let count := if w.cand = some (indicated d w.grade x) then w.pcount + 1 else 1
  if w.grade = .unrated then classify d x
  else if indicated d w.grade x = w.grade then w.grade
  else if d.persist ≤ count then indicated d w.grade x
  else w.grade

/-- Watch 12 is fed a value. -/
def feeding (w : Watch) (v : Word) : State :=
  carrying (leaving (withWatch (withWords atRest watch12Words) 12 w) 4) (asked .watchFeed 12 v 0)

theorem witness_WatchFeedEvaluates_grades :
    (∀ p ∈ [(4514, Grade.normal), (32767, .normal), (32768, .normal)],
      let s := feeding (watch12 .normal 4466 none 0) (BitVec.ofInt 32 p.1)
      s.ready ∧ s.req.current = some (asked .watchFeed 12 (BitVec.ofInt 32 p.1) 0) ∧ s.req.inflight = [] ∧
        (readDef s.mem 12).firstFault = none ∧ fedGrade (readDef s.mem 12) (watch12 .normal 4466 none 0) p.1 = p.2) ∧
      fedGrade (readDef (feeding (watch12 .warnHigh 4277 (some .normal) 2) 4182).mem 12) (watch12 .warnHigh 4277 (some .normal) 2) 4182 =
        .normal ∧ Grade.normal.severity ≤ Grade.warnHigh.severity := by decide +kernel
theorem witness_WatchFeedEvaluates_faults :
    let s := carrying (withWatch atRest 12 (watch12 .normal 0 none 0)) (asked .watchFeed 12 0 0)
    (readDef s.mem 12).firstFault = some 3 ∧ (s.watches[12]).armed = true ∧ (s.watches[12]).grade ≠ .unrated ∧
      s.settings.shedWatch ≠ some 12 ∧ (carrying atRest (asked .watchFeed 12 0 0)).watches[12].armed = false := by decide +kernel
theorem witness_room_for_the_last_record : (leaving atRest 4).RoomFor 0 4 ∧ (leaving atRest 3).RoomFor 0 3 ∧ (leaving atRest 5).RoomFor 0 5 :=
  ⟨room_of_leaving _ _ (by decide +kernel) (by decide +kernel) (by omega), room_of_leaving _ _ (by decide +kernel) (by decide +kernel) (by omega),
    room_of_leaving _ _ (by decide +kernel) (by decide +kernel) (by omega)⟩
theorem witness_GradesImproveOnlyPastHysteresis :
    let d := readDef (withWords atRest watch12Words).mem 12
    d.lowCrit ≤ d.lowWarn ∧ d.lowWarn ≤ d.highWarn ∧ d.highWarn ≤ d.highCrit := by decide +kernel
theorem witness_CollectionClosesAndRestarts :
    (∀ m ∈ [EngineMode.idle, .running, .holding, .held], (engineIn atRest m []).engine.mode = m) ∧ atRest.GeometryOk ∧
      atRest.coll.st = .filling 0 0 ∧ 0 < atRest.settings.closeAge ∧
      (∀ m ∈ [60000000, 60000001], 0 + 100000 * atRest.settings.closeAge ≤ (atMoment atRest m).now) ∧
      (atMoment atRest 59999999).now < 0 + 100000 * atRest.settings.closeAge ∧
      ({ atRest.coll with st := .starved } : Coll).st = .starved := by
  unfold State.GeometryOk; decide +kernel
theorem witness_every_request_is_carried :
    ∀ k ∈ [ReqKind.settingsApply, .collectionClose, .collectionRestart, .timeSet, .dutySet, .stationForget, .identProgram],
      let s := carrying atRest (asked k 0 0 0)
      s.ready ∧ s.req.current = some (asked k 0 0 0) ∧ (∀ e ∈ s.req.inflight, e.slot ≠ 2) := by decide +kernel
theorem witness_TimestampAdvancesWrapsAndIsSet_by_a_request :
    let s := carrying (leaving atRest 4) (asked .timeSet 0xFFFFFFFF 0 0)
    s.ready ∧ s.req.current = some (asked .timeSet 0xFFFFFFFF 0 0) ∧ s.settings = builtInSettings ∧ s.coll.used + 4 + 5 = s.settings.size := by
  decide +kernel
theorem witness_request_parameters_at_their_ends :
    (asked .dutySet 3 2 255).p1.toNat ≤ 3 ∧ (asked .stationForget 30 0 0).p1.toNat ≤ 30 ∧
      (asked .identProgram 65535 4095 0).p1.toNat ≤ 65535 ∧ (asked .identProgram 65535 4095 0).p2.toNat ≤ 4095 := by decide

/-- A programming is in progress. -/
def programming : IdentStore := { routeCell := 0, hutCell := 0, marker := false, programming := some { route := 1, hut := 2, due := 4000 } }

theorem witness_IdentityProgramsOnce :
    programming.programming.isSome ∧ atRest.ident.programming = none ∧ atRest.ident.marker = false ∧
      (let s : State := { atMoment atRest 4000 with ident := programming, req := { atRest.req with inflight := [{ slot := 15, kind := .ident, wake := true }] } }
       s.ready ∧ s.ident.programming = some { route := 1, hut := 2, due := 4000 } ∧ 4000 ≤ s.now ∧
         (s.req.inflight.filter fun f => f.kind = .ident) = [{ slot := 15, kind := .ident, wake := true }]) := by decide +kernel
theorem witness_SettingsApply_bad_block :
    firstBadField (applying atRest [(0x17, 0xFF000000)]).mem = some 71 := by decide +kernel
theorem witness_SettingsApply_same_geometry :
    let s := applying atRest []
    let new := blockSettings s.mem
    firstBadField s.mem = none ∧ new.size = s.settings.size ∧ new.closeAge = s.settings.closeAge ∧
      new.lostLimit = s.settings.lostLimit := by decide +kernel
theorem witness_SettingsApply_moved_geometry :
    let s := applying atRest [(0xA, 0x02580600)]
    let new := blockSettings s.mem
    firstBadField s.mem = none ∧ new.size ≠ s.settings.size ∧ s.engine.mode = .idle ∧ new.lostLimit = s.settings.lostLimit := by
  decide +kernel
theorem witness_SettingsApply_same_inputs :
    let s := applying atRest [(0xA, 0x02580600)]
    let new := blockSettings s.mem
    new.inputs = s.settings.inputs ∧ new.visitInput = s.settings.visitInput := by decide +kernel
theorem witness_SettingsApply_same_fans_and_shed_level :
    let s := applying atRest [(0xA, 0x02580600)]
    let new := blockSettings s.mem
    (∀ c : Fin 4, (new.channels[c]).tach = (s.settings.channels[c]).tach) ∧
      State.derivedLevel { s with settings := new } = s.duty.shed := by decide +kernel
/-- An apply of the built-in block but for some words, over settings that differ from it in nothing else. -/
def appliesQuietly (s : State) (ws : List (Nat × Word)) (but : Settings → Settings) : Prop :=
  firstBadField (applying s ws).mem = none ∧ (applying s ws).ApplyIsQuiet (but (blockSettings (applying s ws).mem))

theorem witness_ApplyHasItsConsequences_lost_limit :
    let s := withStation atRest 29 { State.resetStation with state := .present, silences := 1 }
    appliesQuietly s [(0, 0x0014130A)] (fun g => { g with lostLimit := 3 }) ∧
      (blockSettings (applying s [(0, 0x0014130A)]).mem).lostLimit = 1 := by
  unfold appliesQuietly State.ApplyIsQuiet; decide +kernel
theorem witness_ApplyHasItsConsequences_close_age :
    ∀ m ∈ [59900000, 59899999],
      let s := atMoment atRest m
      appliesQuietly s [(0xA, 0x02570C00)] (fun g => { g with closeAge := 600 }) ∧ s.coll.st = .filling 0 0 ∧
        (blockSettings (applying s [(0xA, 0x02570C00)]).mem).closeAge = 599 := by
  unfold appliesQuietly State.ApplyIsQuiet; decide +kernel

/-- Settings of an input that the block's word 6414FD00H gives, but for its enabled and tach bits. -/
def input15 (enabled tach : Bool) : InputSettings := { builtInInput with enabled, tach }

/-- Input 15 set so, with a state. -/
def with15 (enabled tach : Bool) (x : Input) : State := withInput atRest 15 (input15 enabled tach) x

theorem witness_ApplyHasItsConsequences_inputs :
    ∀ p ∈ [(with15 false false State.resetInput, (0x6414FD01 : Word)), (with15 false false State.resetInput, 0x6400FD01),
        (with15 false false State.resetInput, 0x6414FD05), (with15 true true { State.resetInput with stallFrom := some 0 }, 0x6414FD00),
        (atMoment (with15 true true { State.resetInput with stallFrom := some 0 }) 255000, 0xFF14FD05)],
      let new := blockSettings (applying p.1 [(0x2B, p.2)]).mem
      new.inputs = p.1.settings.inputs.set 15 new.inputs[15] ∧ new.inputs[15] ≠ p.1.settings.inputs[15] := by decide +kernel
theorem witness_ApplyHasItsConsequences_inputs_alone :
    appliesQuietly (with15 true true State.resetInput) [(0x2B, 0x6414FD00)]
        (fun g => { g with inputs := (with15 true true State.resetInput).settings.inputs }) ∧
      (with15 true true State.resetInput).settings.visitInput ≠ some 15 ∧
      ∀ c : Fin 4, ((with15 true true State.resetInput).settings.channels[c]).tach ≠ some 15 := by
  unfold appliesQuietly State.ApplyIsQuiet; decide +kernel
theorem witness_ApplyHasItsConsequences_visit :
    ∀ v ∈ [VisitState.off, .starting, .on, .leaving, .ending], ∀ ctl ∈ [BusCtl.slots 0 0 0, .idle],
      let s := leaving (inVisit (onBus ctx ctl) v) 4
      let s := { s with settings := { s.settings with visitInput := some 9 } }
      appliesQuietly s [] (fun g => { g with visitInput := some 9 }) ∧ s.visit.state = v ∧ s.bus.ctl = ctl ∧
        (blockSettings (applying s []).mem).visitInput = none := by
  unfold appliesQuietly State.ApplyIsQuiet; decide +kernel
theorem witness_RepliesReadBack :
    31 < 32 ∧ 3 < 4 ∧ (List.replicate 16 true).length = 16 ∧
      checkGood (Transaction.read 6 2 false).awaits (List.replicate 11 true ++ List.replicate 16 true) = false := by decide +kernel

/-- The eight bus steps, each with its words at 0600H. -/
def busSteps : List (StepKind × List (Nat × Word)) :=
  [(.read, [(0x600, 0x24820701), (0x601, 12)]), (.blockRead, [(0x600, 0x00021E02), (0x601, 256), (0x602, 0)]),
    (.write, [(0x600, 0x01020703), (0x601, 0xFFFF)]), (.control, [(0x600, 0xF0020104)]), (.statusPoll, [(0x600, 0x00001E05)]),
    (.rollCall, [(0x600, 6)]), (.sampleAll, [(0x600, 7)]), (.clear, [(0x600, 0x80000008)])]

theorem witness_BusStepsSendFrames :
    ∀ p ∈ busSteps, let s := running ctx p.2
      s.AtStep ctx p.1 ∧ s.BusFree ∧ (s.busStepOf ctx p.1).isSome ∧ (s.busStepOf ctx p.1).all (fun q => !s.workLost q.2) = true ∧
        s.visit.state = .off := by
  unfold State.AtStep State.BusFree; decide +kernel
theorem witness_BusStepsWaitOrAreHeld :
    (∀ b ∈ [BusCtl.settling (some 5), .draining 3 none],
      let s : State := { running ctx [(0x600, 6)] with bus := { atRest.bus with ctl := b } }
      s.AtStep ctx .rollCall ∧ s.bus.ctl = b) ∧
      (let s : State := { running ctx [(0x600, 6)] with bus := { atRest.bus with strayArriving := true } }
       s.bus.ctl = .idle ∧ s.bus.visitPending = none ∧ s.bus.strayArriving = true) := by
  unfold State.AtStep; decide +kernel
theorem witness_BusStepsWaitOrAreHeld_in_a_visit :
    let c := { ctx with executed := 4094 }
    let s := inVisit (running c [(0x600, 0x01020703), (0x601, 0xFFFF)]) .ending
    s.AtStep c .write ∧ s.BusFree ∧ (s.busStepOf c .write).all (fun q => q.2.writeType) = true ∧ s.visit.state ≠ .off ∧
      State.GoesOn c := by
  unfold State.AtStep State.BusFree State.GoesOn; decide +kernel
theorem witness_LostStationsGetNoFrame :
    ∀ p ∈ [(StepKind.read, [((0x600 : Nat), (0x05001E01 : Word)), (0x601, 255)]), (.read, [(0x600, 0x01001E01), (0x601, 255)]),
        (.blockRead, [(0x600, 0x01001E02), (0x601, 256)]), (.statusPoll, [(0x600, 0x1E05)]), (.control, [(0x600, 0x00001E04)])],
      let s := withStation (running ctx p.2) 29 { State.resetStation with state := .lost, silences := 3 }
      s.AtStep ctx p.1 ∧ s.BusFree ∧ (s.busStepOf ctx p.1).any (fun q => s.workLost q.2) = true ∧ s.visit.state = .off ∧
        State.GoesOn ctx ∧ s.EndsQuiet ctx := by
  unfold State.AtStep State.BusFree State.GoesOn State.EndsQuiet; decide +kernel
/-- A LOST READ under ABORT offers its READING and LIST_END records in the last words. -/
theorem witness_LostStations_abort_with_records :
    let c := { ctx with endRecord := true }
    let words : List (Nat × Word) := [(0x600, 0x04001E01), (0x601, 255)]
    let s := leaving (withStation (running c words) 29 { State.resetStation with state := .lost, silences := 3 }) 10
    let own := State.runEnd { c with executed := 1 } .pass .abort .lost
    s.AtStep c .read ∧ s.BusFree ∧
      (∃ st w, s.busStepOf c .read = some (.read st st.budget, w) ∧ s.workLost w = true ∧ st.failure = .abort ∧ st.record = true ∧
        s.MayConclude { c with executed := 1 } own [readingRecord (stationPlace st) .lost none st.watch false] 0) := by
  refine ⟨by unfold State.AtStep; decide +kernel, by unfold State.BusFree; decide +kernel, _, _, rfl, by decide +kernel,
    by decide +kernel, by decide +kernel, by decide +kernel, fun _ => by unfold State.EndsQuiet; decide +kernel, ?_⟩
  exact roomForAll_of_leaving _ _ _ (by decide +kernel) (by decide +kernel) (by decide +kernel) (by decide +kernel)
theorem witness_LostStations_cut :
    let c := { ctx with cut := true }
    let s := withStation (running c [(0x600, 0x00001E04)]) 29 { State.resetStation with state := .lost, silences := 3 }
    s.AtStep c .control ∧ s.BusFree ∧ (s.busStepOf c .control).any (fun q => s.workLost q.2) = true ∧ s.visit.state = .off ∧
      s.EndsQuiet { c with endRecord := false } ∧ c.cut = true := by
  unfold State.AtStep State.BusFree State.EndsQuiet; decide +kernel
theorem witness_StepsThatEndTheRun :
    (∀ p ∈ [(StepKind.mark, (0x0000000B : Word)), (.loop, 12)],
      let s := running ctx [(0x600, p.2)]
      s.ready ∧ s.engine.ctx = some ctx ∧ stepKindAt s.mem 0x600 = some p.1 ∧ s.fieldsOk ctx p.1 = false ∧ s.EndsQuiet ctx) ∧
      stepKindAt (running ctx []).mem 0x2000 = none ∧ stepKindAt (running ctx [(0x1FFF, 1)]).mem 0x1FFF = none ∧
      (∀ c ∈ [{ ctx with cut := true }, { ctx with executed := 4095 }],
        let s := running c [(0x600, 0x0001000B)]
        s.ready ∧ s.engine.ctx = some c ∧ stepKindAt s.mem c.addr = some .mark ∧ s.fieldsOk c .mark = true ∧ s.EndsQuiet c ∧
          (c.cut = true ∨ 4095 ≤ c.executed)) := by
  unfold State.EndsQuiet; decide +kernel
/-- A run with a cut requested, and its LIST_CUT held in flight in slot 3. -/
def cutInFlight : State :=
  let s := running { ctx with cut := true } [(0x600, 0x0001000B), (0x118, 2)]
  { s with req := { s.req with inflight := [{ slot := 3, kind := .cut, wake := true }] } }

theorem witness_a_run_ends_with_a_cut_in_flight :
    let c := { ctx with cut := true }
    cutInFlight.AtStep c .mark ∧ cutInFlight.fieldsOk c .mark = true ∧ cutInFlight.EndsQuiet c ∧
      cutInFlight.heldOf .cut = [{ slot := 3, kind := .cut, wake := true }] ∧ slotState cutInFlight.mem 3 = 2 := by
  unfold State.AtStep State.EndsQuiet; decide +kernel
theorem test_a_cut_run_completes_its_request :
    let t := after cutInFlight .mark
    (t.peek 0x118, t.peek 0x11E, t.peek 0x11F, t.req.inflight, t.wake.pending) = (3, 0, 5, [], 0x401) := by decide +kernel
theorem witness_run_ends_with_a_record :
    let c := { ctx with endRecord := true }
    let s := leaving (running c [(0x600, 17)]) 5
    s.AtStep c .endStep ∧ s.EndsQuiet { c with endRecord := false } ∧ s.coll.used + 5 + 5 = s.settings.size := by
  unfold State.AtStep State.EndsQuiet; decide +kernel
theorem witness_StampRaiseAndChainAct :
    ∀ p ∈ [(StepKind.stamp, (10 : Word)), (.raise, 14)],
      let c := { ctx with executed := 4094 }
      let s := leaving (running c [(0x600, p.2)]) 4
      s.AtStep c p.1 ∧ State.GoesOn c ∧ s.coll.used + 4 + 5 = s.settings.size := by
  unfold State.AtStep State.GoesOn; decide +kernel
theorem witness_LoopsAndWaitsDirectTheRun :
    ((running ctx [(0x600, 0x00FF000B)]).AtStep ctx .mark ∧ field ((running ctx [(0x600, 0x00FF000B)]).stepWord ctx 0) 16 8 = 254 + 1) ∧
      (∀ m ∈ [none, some (0x440, 0), some (0x440, 254)],
        let c := { ctx with mark := m }
        (running c [(0x600, 12)]).AtStep c .loop ∧ State.GoesOn c ∧ (running c [(0x600, 12)]).EndsQuiet c) := by
  unfold State.AtStep State.GoesOn State.EndsQuiet; decide +kernel
theorem witness_LoopsAndWaitsDirectTheRun_in_time :
    ((running ctx [(0x600, 0xFFFF000D)]).AtStep ctx .wait ∧ field ((running ctx [(0x600, 0xFFFF000D)]).stepWord ctx 0) 16 16 = 65535) ∧
      (let c := { ctx with phase := .waiting 100, executed := 4095 }
       let s := atMoment (running c []) 100
       s.ready ∧ State.RunsOn c ∧ 100 ≤ s.now) ∧
      (let s := atMoment (running { ctx with phase := .spacing { read29 with failure := .abort, record := true } 0 1000 } []) 1000
       s.ready ∧ s.BusFree ∧ (s.bus.stations[29]).state ≠ .lost ∧ 1000 ≤ s.now) := by
  unfold State.AtStep State.RunsOn State.BusFree; decide +kernel
theorem witness_CloseStepClosesWhatFills :
    let s := running ctx [(0x600, 15)]
    s.AtStep ctx .close ∧ State.GoesOn ctx ∧ s.coll.st = .filling 0 0 ∧ s.coll.recs ≠ 0 ∧ s.GeometryOk ∧
      ({ s.coll with recs := 0 } : Coll).recs = 0 := by
  unfold State.AtStep State.GoesOn State.GeometryOk; decide +kernel
theorem witness_StampRaiseAndChainAct_chain :
    let s := running ctx [(0x600, 0x001F0010)]
    s.AtStep ctx .chain ∧ State.GoesOn ctx ∧ listField (s.stepWord ctx 0) = some 31 ∧ s.engine.mode ≠ .idle := by
  unfold State.AtStep State.GoesOn; decide +kernel
theorem witness_EndCompletesTheRun :
    (running ctx [(0x600, 17)]).EndsQuiet ctx ∧
      (let s := engineIn (running ctx [(0x600, 17), (0x1FD, 0x1FFF)]) .running [entry31]
       s.AtStep ctx .endStep ∧ s.req.inflight = [] ∧ inListArea (readDir s.mem 31).start) ∧
      (let s := engineIn (running ctx [(0x600, 17)]) .holding []
       s.AtStep ctx .endStep ∧ s.engine.mode = .holding) := by
  unfold State.AtStep State.EndsQuiet; decide +kernel

/-- Watch 63 armed and NORMAL, with a definition of zeros but for persistence 1: every value is NORMAL at 0. -/
def sampling (w0 : Word) : State :=
  leaving (withInput (withWatch (running ctx [(0x600, w0), (0x43A, 0x00010000)]) 63 (watch12 .normal 0 none 0)) 0 visitKey
    { State.resetInput with count := 65535 }) 5

theorem witness_SampleLocalReadsThePart :
    (∀ w ∈ [0x00FF0209, 0x04FF0209, 0x003F0209, 0x043F0209, 0x04FFF009, 0x04FF3109],
      let s := sampling (BitVec.ofNat 32 w)
      s.AtStep ctx .sampleLocal ∧ State.GoesOn ctx ∧ (localFields (s.stepWord ctx 0)).isSome ∧ s.coll.used + 5 + 5 = s.settings.size) ∧
      ((sampling 0).watches[63]).armed = true ∧ (readDef (sampling 0).mem 63).firstFault = none ∧
      ((sampling 0).inputs[0]).count % 65536 ≠ 0 ∧
      (let d := readDef (sampling 0).mem 63
       let raw := interpretRaw d.signedRaw false 65535
       (evaluated d (sampling 0).watches[63] (scaleValue d raw) (some raw) 0 0).grade = .normal) := by
  unfold State.AtStep State.GoesOn; decide +kernel

theorem witness_FramesEndAndStraysAreCounted :
    (∀ b ∈ [BusCtl.sending (.work (.transaction (.read 29 15 true)) 15),
        .sending (.work (.block { station := 0, sub := 0, wide := false, count := 1, terminator := none }) 1),
        .sending (.work .rollCall 3), .sending .ownTake, .settling (some 0), .draining 15 (some 0)],
      (onBus ctx b).ready ∧ (onBus ctx b).bus.waiting = none ∧ (onBus ctx b).bus.visitPending = none ∧
        (onBus ctx b).bus.strayArriving = false) ∧
      (∀ p ∈ [(BusStep.sampleAll, BusCtl.sending (.work .sampleAll 3)), (.clear, .sending (.work .clearAll 3))],
        let c := { ctx with phase := .bus p.1, executed := 4095 }
        (onBus c p.2).InBusStep c p.1 ∧ State.RunsOn c) := by
  unfold State.InBusStep State.RunsOn; decide +kernel
theorem witness_drain_ends_into_what_waits :
    (∀ b ∈ [VisitBroadcast.localRelease, .remoteTake],
      let s : State := { onBus ctx (.draining 3 (some 0)) with bus := { atRest.bus with ctl := .draining 3 (some 0), visitPending := some b } }
      s.ready ∧ s.bus.visitPending = some b ∧ s.bus.strayArriving = false) ∧
      (let s : State := { onBus ctx (.draining 3 (some 0)) with bus := { atRest.bus with ctl := .draining 3 (some 0), waiting := some .clearAll } }
       s.bus.waiting = some .clearAll ∧ s.workLost .clearAll = false ∧ s.visit.state = .off) := by decide +kernel
theorem witness_FramesEndAndStraysAreCounted_strays :
    ∀ b ∈ [BusCtl.settling none, .draining 1 (some 4), .idle, .slots 0 0 0, .sending .ownTake], (onBus ctx b).ready ∧ (onBus ctx b).bus.ctl = b := by
  decide +kernel

/-- A reply's bits, closed by their check. -/
def replyBits (source : Nat) (accept ready attention last : Bool) (type : Nat) (data : List Bool) : List Bool :=
  closed (bitsOf 5 source ++ [accept, ready, attention, last] ++ bitsOf 2 type ++ data)

/-- A READ of station 30 awaits its reply. -/
def awaiting29 (c : Ctx) (n : Nat) (due : Option Moment) : State :=
  atMoment (leaving (onBus c (.awaiting (.read 29 15 true) due)) n) 3

/-- The context of a READ being carried out. -/
def reading (st : ReadStep) (left : Nat) (cut : Bool) : Ctx :=
  { ctx with phase := .bus (.read st left), executed := 4095, cut, endRecord := true }

theorem witness_RepliesEndTransactions :
    ∀ st ∈ [read29, { read29 with watch := some 63 }, { read29 with ready := .stop, failure := .abort }, { read29 with ready := .pass }],
      ∀ left ∈ [0, 1], ∀ cut ∈ [true, false],
        let c := reading st left cut
        (awaiting29 c 0 (some 3)).InBusStep c (.read st left) ∧ 3 ≤ (awaiting29 c 0 (some 3)).now ∧
          (awaiting29 c 0 (some 3)).EndsQuiet { c with endRecord := false } ∧
          ((awaiting29 c 0 none).bus.stations[29]).state ≠ .lost ∧ ((awaiting29 c 0 none).watches[63]).armed = false := by
  unfold State.InBusStep State.EndsQuiet; decide +kernel
theorem witness_RepliesEndTransactions_replies :
    let a := (Transaction.read 29 15 true).awaits
    judgeReply a (replyBits 30 true true false false 1 (bitsOf 24 0xFFFFFF)) =
        .good { source := 30, accept := true, ready := true, attention := false, last := false, type := 1, data := 0xFFFFFF } ∧
      judgeReply a (replyBits 30 true false false false 0 []) =
        .good { source := 30, accept := true, ready := false, attention := false, last := false, type := 0, data := 0 } ∧
      judgeReply a (replyBits 30 false true false false 0 []) =
        .good { source := 30, accept := false, ready := true, attention := false, last := false, type := 0, data := 0 } ∧
      judgeReply a (List.replicate 30 true) = .garbled ∧
      judgeReply a (replyBits 1 true true false false 1 (bitsOf 24 0)) = .odd := by decide +kernel
/-- A READING record and a LIST_END record take the last ten words; the run ends ABORTED. -/
theorem witness_RepliesEndTransactions_concludes :
    let st := { read29 with failure := .abort, record := true }
    let c := reading st 0 false
    let rs := [readingRecord (stationPlace st) .garbled none none false]
    State.runEnd c st.ready st.failure .garbled = some (.aborted, some .garbled) ∧
      (awaiting29 c 10 none).MayConclude c (some (.aborted, some .garbled)) rs 0 := by
  refine ⟨by decide +kernel, nofun, fun _ => by unfold State.EndsQuiet; decide +kernel, fun _ => ?_⟩
  exact room_of_leaving (atMoment (onBus _ _) 3) _ (by decide +kernel) (by decide +kernel) (by decide +kernel)
theorem witness_RepliesEndTransactions_delivers :
    let s := withWatch (withWords atRest [(0x43A, 0x00010000)]) 63 (watch12 .normal 0 none 0)
    let d := readDef s.mem 63
    let raw := interpretRaw d.signedRaw true 0xFFFFFF
    (s.watches[63]).armed = true ∧ d.firstFault = none ∧
      (evaluated d s.watches[63] (scaleValue d raw) (some raw) 0 3).grade = (s.watches[63]).grade := by decide +kernel
theorem witness_silence_at_the_lost_limit :
    let s := withStation (awaiting29 (reading read29 0 false) 3 (some 3)) 29 { State.resetStation with state := .present, silences := 2 }
    s.losesNow 29 = true ∧ (awaiting29 (reading read29 0 false) 3 (some 3)).losesNow 29 = false := by decide +kernel
theorem witness_odd_reply_has_room :
    (oddRecord 29 (replyBits 1 true true false false 1 (bitsOf 24 0))).length = 5 := by decide +kernel

/-- A WRITE, a CONTROL, a STATUS_POLL and a selected CLEAR step of station 30, with their transactions. -/
def otherSteps : List (BusStep × Transaction) :=
  [(.write { station := 29, sub := 15, wide := true, value := 7, ready := .stop, failure := .abort }, .write 29 15 true 7),
    (.control { station := 29, sub := 15, controlCode := 15, failure := .abort }, .control 29 15 15), (.statusPoll 29, .status 29),
    (.clear, .clear 29)]

theorem witness_RepliesEndOtherTransactions :
    ∀ p ∈ otherSteps,
      let c := { ctx with phase := .bus p.1, executed := 4095 }
      let s := atMoment (leaving (onBus c (.awaiting p.2 (some 3))) 4) 3
      let s := { s with settings := { s.settings with attention := s.settings.attention.set 29 (some 31) } }
      s.InBusStep c p.1 ∧ s.bus.ctl = .awaiting p.2 (some 3) ∧ 3 ≤ s.now ∧ (s.bus.stations[29]).state ≠ .lost ∧
        (s.bus.stations[29]).attention = false ∧ s.settings.attention[29] = some 31 ∧ s.engine.mode ≠ .idle ∧ s.EndsQuiet c ∧
        judgeReply p.2.awaits (replyBits 30 false true true false 0 []) =
          .good { source := 30, accept := false, ready := true, attention := true, last := false, type := 0, data := 0 } := by
  unfold State.InBusStep State.EndsQuiet; decide +kernel
theorem witness_RepliesEndOtherTransactions_by_their_policies :
    State.GoesBy (.write { station := 29, sub := 15, wide := true, value := 7, ready := .stop, failure := .abort }) (.write 29 15 true 7) .stop
        .abort 2 ∧
      State.GoesBy (.control { station := 29, sub := 15, controlCode := 15, failure := .abort }) (.control 29 15 15) .pass .abort 1 ∧
      State.GoesBy (.statusPoll 29) (.status 29) .pass .continue 1 ∧ State.GoesBy .clear (.clear 29) .pass .continue 1 :=
  ⟨⟨rfl, rfl, rfl, rfl⟩, ⟨rfl, rfl, rfl, rfl⟩, ⟨rfl, rfl, rfl, rfl⟩, ⟨⟨29, rfl⟩, rfl, rfl, rfl⟩⟩
theorem witness_RepliesEndOtherTransactions_status_bytes :
    ∀ byte ∈ [0x7F, 0x80, 0xFF],
      judgeReply (Transaction.status 29).awaits (replyBits 30 true true false false 2 (bitsOf 8 byte)) =
        .good { source := 30, accept := true, ready := true, attention := false, last := false, type := 2, data := byte } := by
  decide +kernel
/-- A STATUS record takes the last three words; the run goes on. -/
theorem witness_RepliesEndOtherTransactions_concludes :
    let c := { ctx with phase := .bus (.statusPoll 29), executed := 4095 }
    (atMoment (leaving (onBus c (.awaiting (.status 29) (some 3))) 3) 3).MayConclude c
      (State.runEnd c .pass .continue .silent) [statusRecord 29 .silent none] 0 := by
  refine ⟨fun _ => by decide, fun h => absurd (by decide +kernel) h, fun _ => ?_⟩
  exact room_of_leaving (atMoment (onBus _ _) 3) _ (by decide +kernel) (by decide +kernel) (by decide +kernel)

/-- A block read of station 1, in its last word. -/
def block0 (count : Nat) (terminator : Option Nat) : BlockStep :=
  { station := 0, sub := 0, wide := false, count, terminator, ready := .stop, failure := .abort }

theorem witness_BlockWordsAreKept :
    ∀ p ∈ [(256, none, false), (1, none, false), (256, some 65535, false), (256, none, true)],
      let st := block0 p.1 p.2.1
      let c := { ctx with phase := .bus (.block st), executed := 4095 }
      let b : BlockRead := { station := 0, sub := 0, wide := false, count := p.1, terminator := p.2.1 }
      let s := withStation (leaving (onBus c (.streaming b 3 [] none)) 3) 0 { State.resetStation with state := .present }
      s.InBusStep c (.block st) ∧ State.RunsOn c ∧
        judgeReply b.awaits (replyBits 1 true true false p.2.2 1 (bitsOf 16 65535)) =
          .good { source := 1, accept := true, ready := true, attention := false, last := p.2.2, type := 1, data := 65535 } ∧
        (s.bus.stations[0]).state = .present ∧ s.coll.used + (2 + 1) + 5 = s.settings.size := by
  unfold State.InBusStep State.RunsOn; decide +kernel
theorem witness_BlockReadsEndWithoutAWord :
    let st := block0 256 none
    let c := { ctx with phase := .bus (.block st), executed := 4095 }
    let b : BlockRead := { station := 0, sub := 0, wide := false, count := 256, terminator := none }
    let s := atMoment (leaving (onBus c (.streaming b 3 [7] (some 3))) 3) 3
    s.InBusStep c (.block st) ∧ s.bus.ctl = .streaming b 3 [7] (some 3) ∧ 3 ≤ s.now ∧ (s.bus.stations[0]).state ≠ .lost ∧ s.EndsQuiet c ∧
      s.losesNow 0 = false ∧ (blockRecord st .silent [7]).length = 3 ∧
      (∀ flags ∈ [(true, false), (false, true)],
        judgeReply b.awaits (replyBits 1 flags.1 flags.2 false false 0 []) =
          .good { source := 1, accept := flags.1, ready := flags.2, attention := false, last := false, type := 0, data := 0 }) ∧
      judgeReply b.awaits (List.replicate 30 true) = .garbled ∧
      judgeReply b.awaits (replyBits 2 true true false false 1 (bitsOf 16 0)) = .odd := by
  unfold State.InBusStep State.EndsQuiet; decide +kernel
/-- A BLOCK record of one word takes the last three; the run ends ABORTED. -/
theorem witness_BlockReadsEndWithoutAWord_concludes :
    let st := block0 256 none
    let c := { ctx with phase := .bus (.block st), executed := 4095 }
    let b : BlockRead := { station := 0, sub := 0, wide := false, count := 256, terminator := none }
    State.runEnd c st.ready st.failure BlockEnding.silent.outcome = some (.aborted, some .silent) ∧
      (atMoment (leaving (onBus c (.streaming b 3 [7] (some 3))) 3) 3).MayConclude c (some (.aborted, some .silent))
        [blockRecord st .silent [7]] 0 := by
  refine ⟨by decide +kernel, nofun, fun _ => by unfold State.EndsQuiet; decide +kernel, fun _ => ?_⟩
  exact room_of_leaving (atMoment (onBus _ _) 3) _ (by decide +kernel) (by decide +kernel) (by decide +kernel)
theorem witness_AnswerSlotsUpdateTheTable :
    (∀ p ∈ [(StationState.unknown, 0), (.present, 2), (.lost, 15)],
      let s := withStation (leaving (onBus { ctx with phase := .bus .rollCall } (.slots 28 0 0)) 3) 28
        { State.resetStation with state := p.1, silences := p.2 }
      s.ready ∧ s.bus.ctl = .slots 28 0 0 ∧ (s.bus.stations[28]).state = p.1 ∧
        (p.1 = .present ↔ s.losesNow 28 = true)) ∧
      (let c := { ctx with phase := .bus .rollCall, executed := 4095 }
       (leaving (onBus c (.slots 29 0 0)) 4).InBusStep c .rollCall ∧ State.RunsOn c) := by
  unfold State.InBusStep State.RunsOn; decide +kernel
theorem witness_VisitReportsDriveTheMachine :
    (∀ b ∈ [VisitBroadcast.localRelease, .remoteTake], ∀ v ∈ [VisitState.off, .starting, .on, .leaving, .ending],
      let s := inVisit (onBus ctx (.sending (.visit b))) v
      s.ready ∧ s.bus.ctl = .sending (.visit b) ∧ s.visit.state = v ∧ s.bus.waiting = none ∧ s.bus.visitPending = none ∧
        s.bus.strayArriving = false) ∧
      (∀ b ∈ [BusCtl.idle, .settling none],
        let s : State :=
          { atMoment (onBus ctx b) 3000000 with visit := { state := .leaving, begin := 0, input := 9, endDue := some 3000000 } }
        s.visit.endDue = some 3000000 ∧ 3000000 ≤ s.now ∧ s.bus.ctl = b) := by decide +kernel

/-- Watch 12 last evaluated at a moment, 132 s and 70 µs into the base (F = 132 s), at a tick that has checked some watches. -/
def stale (mark : Moment) (checked : Nat) : State :=
  let s := withWatch (leaving (withWords atRest watch12Words) 4) 12 { watch12 .warnHigh 4368 none 0 with mark := some mark }
  { s with time := { s.time with base := 13200007, watchDue := 13200000, checked } }

theorem witness_StaleWatchesLapse :
    ∀ p ∈ [((7 : Nat), (12 : Nat)), (8, 12), (7, 13)],
      let s := stale p.1 p.2
      s.ready ∧ s.time.watchDue ≤ s.now ∧ 0x2000 ≤ s.settings.base ∧ (s.watches[12]).mark = some p.1 ∧ (s.watches[12]).armed = true ∧
        (s.watches[12]).grade ≠ .unrated ∧ (readDef s.mem 12).fresh = 132 ∧ s.settings.shedWatch ≠ some 12 ∧
        (p.1 + 100000 * 132 ≤ s.now ↔ p.1 = 7) ∧ (s.time.checked ≤ 12 ↔ p.2 = 12) ∧
        ∀ n : Fin 64, n ≠ 12 → (s.watches[n]).armed = false := by decide +kernel

/-- Watch 12 is the shed watch and names no worsen list; lists 3 and 31 wait, 31 of them sheddable. -/
def shedding (level : ShedLevel) (v : Word) : State :=
  let s := withWatch (withWords atRest (watch12Words ++ [(0x270, 0x0006FF84), (0x1FC, 5), (0x18C, 5)])) 12
    { watch12 .unrated 0 none 0 with restart := true }
  let s := engineIn s .held [{ list := 3, urgent := false, source := .requested }, { list := 31, urgent := false, source := .chain }]
  carrying (leaving { s with settings := { s.settings with shedWatch := some 12 }, duty := { s.duty with shed := level } } 7)
    (asked .watchFeed 12 v 0)

theorem witness_GradeChangesMoveTheShedLevel :
    ∀ p ∈ [((-501 : Int), ShedLevel.none, Grade.critLow), (-500, .none, .warnLow), (-1, .survival, .warnLow), (0, .survival, .normal)],
      let s := shedding p.2.1 (BitVec.ofInt 32 p.1)
      let d := readDef s.mem 12
      s.ready ∧ s.req.current = some (asked .watchFeed 12 (BitVec.ofInt 32 p.1) 0) ∧ s.req.inflight = [] ∧ d.firstFault = none ∧
        d.worsenList = none ∧ (s.watches[12]).armed = true ∧ (s.engine.queue.map QEntry.list).Nodup ∧ s.duty.shed = p.2.1 ∧
        (evaluated d s.watches[12] (signed 32 (BitVec.ofInt 32 p.1).toNat) none 0 0).grade = p.2.2 ∧
        s.coll.used + 7 + 5 = s.settings.size := by decide +kernel
theorem witness_queue_law_of_shedding : (shedding .none 0).QueueLaw :=
  ⟨by decide +kernel, by simp [shedding, carrying, leaving, withWords, engineIn, withWatch, State.poke, State.setMem, UrgentFirst]⟩
theorem witness_TriggersFollowTheirEvents_worsen :
    let s := carrying (leaving (engineIn (withWatch (withWords atRest watch12Words) 12 { watch12 .unrated 0 none 0 with restart := true })
      .held []) 4) (asked .watchFeed 12 5501 0)
    let d := readDef s.mem 12
    s.ready ∧ s.req.current = some (asked .watchFeed 12 5501 0) ∧ s.engine.mode ≠ .idle ∧ d.firstFault = none ∧ d.worsen = 21 ∧
      (s.watches[12]).armed = true ∧ s.settings.shedWatch ≠ some 12 ∧
      (s.watches[12]).grade.severity < (evaluated d s.watches[12] (signed 32 5501) none 0 0).grade.severity := by decide +kernel
theorem witness_TriggersFollowTheirEvents :
    (∀ visit ∈ [none, some (9 : Fin 16)],
      let key := { visitKey with recordEdges := ⟨false, false⟩, wakeEdges := ⟨false, false⟩, triggerList := if visit = none then some 31 else none }
      let s := atMoment (leaving (withInput (onBus ctx (.slots 0 0 0)) 9 key (settledInput false false (.debounce 5))) 4) 5
      let s := { s with settings := { s.settings with visitInput := visit, visitList := some 31 } }
      s.ready ∧ s.engine.mode ≠ .idle ∧ (s.inputs[9]).window = .debounce 5 ∧ 5 ≤ s.now ∧
        ((s.inputs[9]).raw != (s.settings.inputs[9]).activeLow) = true ∧ (s.inputs[9]).level = false ∧ s.visit.state = .off ∧
        s.settings.visitList = some 31 ∧ s.bus.ctl ≠ .idle ∧ s.coll.used + 4 + 5 = s.settings.size) ∧
      (let s := onBus ctx (.slots 28 0 0)
       let s := { s with settings := { s.settings with attention := s.settings.attention.set 28 (some 31) } }
       s.ready ∧ s.engine.mode ≠ .idle ∧ (s.bus.stations[28]).state ≠ .lost ∧ (s.bus.stations[28]).attention = false ∧
         s.settings.attention[28] = some 31) := by decide +kernel
theorem witness_TimestampAdvancesWrapsAndIsSet :
    ∀ v ∈ [0xFFFFFFFE, 0xFFFFFFFF],
      let s : State := { leaving atRest 3 with time := { atRest.time with timestamp := BitVec.ofNat 32 v } }
      s.ready ∧ (s.time.timestamp = BitVec.allOnes 32 ↔ v = 0xFFFFFFFF) ∧ s.coll.used + 3 + 5 = s.settings.size := by decide +kernel
theorem witness_SurveyTimersTriggerTheirLists :
    let s := running ctx []
    s.ready ∧ s.time.surveyDue[3] = none ∧ s.time.series[3] = [] ∧ s.engine.mode ≠ .idle ∧
      (let t := { s with time := { s.time with base := 655350000, surveyDue := #v[none, none, none, some 655350000] } }
       t.time.surveyDue[3] = some 655350000 ∧ 655350000 ≤ t.now ∧ t.time.series[3] = []) ∧
      ({ s with time := { s.time with series := #v[[], [], [], [0, 31]] } }).time.series[3] = 0 :: [31] := by decide +kernel

/-- The timestamp stands at its top, and the collection in a state; segment 1 holds a state. -/
def atTop (st : CollState) (used drops : Nat) (segment1 : Word) : State :=
  withWords { atRest with time := { atRest.time with timestamp := 0xFFFFFFFF }, coll := { atRest.coll with st, used, drops } }
    [(0x2C00, segment1)]

theorem witness_OffersOpenCloseAndDrop :
    ∀ s ∈ [atTop .between 0 0 0, atTop .starved 0 4294967295 0, atTop .starved 0 0 2, atTop (.filling 0 0) 3065 0 0],
      s.ready ∧ s.time.timestamp = BitVec.allOnes 32 ∧ s.GeometryOk ∧ s.coll.next.val < s.settings.count ∧
        (s.segState 1 = 0 ∨ s.coll.st = .starved) ∧ (s.coll.st = .filling 0 0 → s.settings.size < s.coll.used + 8 ∧ s.coll.drops = 0) := by
  unfold State.GeometryOk; decide +kernel
theorem witness_InputsDebounceAndSettle :
    (∀ debounce ∈ [0, 255], ∀ x ∈ [settledInput false false (.debounce 5), settledInput true false (.debounce 5),
        { settledInput true false (.first 5) with settled := false }],
      let s := atMoment (withInput (leaving atRest 4) 9 { visitKey with debounce } x) 5
      s.ready ∧ (s.settings.inputs[9]).enabled = true ∧ (s.settings.inputs[9]).tach = false ∧ s.settings.visitInput ≠ some 9 ∧
        (s.settings.inputs[9]).triggerList = none ∧ (s.inputs[9]).window = x.window ∧ 5 ≤ s.now ∧
        (s.settings.inputs[9]).debounce = debounce ∧ s.coll.used + 4 + 5 = s.settings.size) ∧
      (atRest.settings.inputs[15]).enabled = false ∧
      (let s := withInput atRest 15 { visitKey with tach := true } State.resetInput
       (s.settings.inputs[15]).enabled = true ∧ (s.settings.inputs[15]).tach = true) := by decide +kernel
theorem witness_InputsDebounce_without_records :
    let s := withInput atRest 9 { visitKey with recordEdges := ⟨false, false⟩, wakeEdges := ⟨false, false⟩ } (settledInput false false (.debounce 5))
    (s.settings.inputs[9]).recordEdges.has true = false ∧ (s.settings.inputs[9]).wakeEdges.has true = false ∧
      ((s.inputs[9]).raw != (s.settings.inputs[9]).activeLow) ≠ (s.inputs[9]).level := by decide +kernel

/-- The visit key, with no effect of its edges but the visit's, at a debounce time. -/
def quietKey (debounce : Nat) : InputSettings := { visitKey with debounce, recordEdges := ⟨false, false⟩, wakeEdges := ⟨false, false⟩ }

/-- The visit key and its state in a visit state, with room for one VISIT record. -/
def keyIn (debounce : Nat) (x : Input) (v : VisitState) : State :=
  let s := withInput (leaving (inVisit (atMoment (onBus ctx (.slots 0 0 0)) 5) v) 4) 9 (quietKey debounce) x
  { s with settings := { s.settings with visitInput := some 9 } }

theorem witness_VisitInputBeginsAndEndsVisits :
    ∀ v ∈ [VisitState.off, .starting, .on, .leaving, .ending], ∀ level ∈ [true, false],
      (let s := keyIn 20 (settledInput level level (.debounce 5)) v
       s.ready ∧ s.settings.visitInput = some 9 ∧ (s.inputs[9]).window = .debounce 5 ∧ 5 ≤ s.now ∧ s.visit.state = v ∧
         ((s.inputs[9]).raw != (s.settings.inputs[9]).activeLow) = !level ∧ (s.inputs[9]).level = level ∧
         s.settings.visitList = none ∧ 0 < s.settings.endDelay ∧ s.coll.used + 4 + 5 = s.settings.size) ∧
        (let s := keyIn 20 { settledInput level false (.first 5) with settled := false } v
         (s.settings.inputs[9]).tach = false ∧ (s.inputs[9]).window = .first 5 ∧ 5 ≤ s.now) ∧
        ∀ settled ∈ [true, false],
          let s := keyIn 0 { settledInput level level .none with settled } v
          (s.settings.inputs[9]).enabled = true ∧ (s.settings.inputs[9]).debounce = 0 ∧ (s.inputs[9]).settled = settled := by
  decide +kernel
/-- An apply names input 15, enables it and settles it active. -/
theorem witness_VisitInput_settled_by_an_apply :
    let s := leaving (with15 false false { State.resetInput with raw := true }) 4
    let ws : List (Nat × Word) := [(0xE, 0x00FF1E0F), (0x2B, 0x6400FD01)]
    let new := blockSettings (applying s ws).mem
    appliesQuietly s ws (fun g => { g with inputs := s.settings.inputs, visitInput := s.settings.visitInput }) ∧
      new.inputs = s.settings.inputs.set 15 new.inputs[15] ∧ new.visitInput = some 15 ∧ s.settings.visitInput = none ∧
      (s.settings.inputs[15]).enabled = false ∧ (new.inputs[15]).enabled = true ∧ (new.inputs[15]).tach = false ∧
      (new.inputs[15]).debounce = 0 ∧ (s.inputs[15]).raw ≠ (new.inputs[15]).activeLow ∧ (s.inputs[15]).stalled = false ∧
      s.visit.state = .off ∧ new.visitList = none ∧ s.coll.used + 4 + 5 = s.settings.size := by
  unfold appliesQuietly State.ApplyIsQuiet; decide +kernel
theorem witness_TachometersMeasureAndStall :
    ∀ e ∈ [none, some (0 : Moment)],
      let s := withInput (atMoment atRest 100000) 15 { visitKey with tach := true }
        { settledInput true false .none with lastEdge := e, stallFrom := some 0 }
      s.ready ∧ (s.settings.inputs[15]).enabled = true ∧ (s.settings.inputs[15]).tach = true ∧
        (∀ c : Fin 4, (s.settings.channels[c]).tach ≠ some 15) ∧ (s.inputs[15]).lastEdge = e ∧ (s.inputs[15]).stallFrom = some 0 ∧
        0 + 1000 * (s.settings.inputs[15]).stallTime ≤ s.now := by
  decide +kernel

/-- Channel 1 of 7.9 names input 13, whose stall interval has run its length, or whose stall an edge can end. -/
def stalling (x : Input) (burst : BurstState) (used : Nat) : State :=
  atMoment (leaving (withInput (fanHut (fanAt 160 burst used)) 13 { visitKey with tach := true } x) 3) 100000

theorem witness_StallNoticesReachChannels :
    (let x := { settledInput true false .none with stallFrom := some 0 }
     let s := stalling x .none 0
     s.ready ∧ (s.settings.inputs[13]).enabled = true ∧ (s.settings.inputs[13]).tach = true ∧ (s.inputs[13]).stallFrom = some 0 ∧
       0 + 1000 * (s.settings.inputs[13]).stallTime ≤ s.now ∧ (s.settings.channels[1]).tach = some 13 ∧
       (s.duty.channels[1]).burst = .none ∧ 0 < (s.duty.channels[1]).output ∧ (s.duty.channels[1]).mode ≠ .off ∧
       s.coll.used + 3 + 5 = s.settings.size) ∧
      (let s := stalling { settledInput true false .none with stalled := true, lastEdge := some 5 } (.spacing 9) 2
       (s.inputs[13]).stalled = true ∧ (s.inputs[13]).lastEdge = some 5 ∧ (s.duty.channels[1]).burst ≠ .none) := by decide +kernel
/-- An apply gives channel 1 the stalled input 15 in place of none. -/
theorem witness_StallNoticesReachChannels_by_an_apply :
    let s := with15 true true { State.resetInput with stalled := true }
    appliesQuietly s [(0x15, 0x00000F00), (0x2B, 0x6414FD05)] (fun g => { g with channels := s.settings.channels }) ∧
      (blockSettings (applying s [(0x15, 0x00000F00), (0x2B, 0x6414FD05)]).mem).channels[1].tach = some 15 ∧
      (s.settings.channels[1]).tach = none ∧ (s.inputs[15]).stalled = true ∧ 0 < (s.duty.channels[1]).output := by
  unfold appliesQuietly State.ApplyIsQuiet; decide +kernel
theorem witness_RampTicksCapAndMove_in_every_mode :
    (∀ m ∈ [ChannelMode.off, .manual, .adaptive], ∀ handed ∈ [true, false],
      let s := atMoment (fanHut { fanAt 0 .none 0 with mode := m, handed }) 10000
      s.ready ∧ s.time.rampDue ≤ s.now ∧ (s.duty.channels[1]).mode = m ∧ (s.duty.channels[1]).handed = handed) ∧
      ((fanHut (fanAt 255 (.burst 9) 1)).duty.channels[1]).burst = .burst 9 := by decide +kernel
theorem witness_RampTicksCapAndMove :
    ∀ g ∈ [Grade.unrated, .warnHigh, .critHigh],
      let s := atMoment (withWatch (fanHut (fanAt 160 .none 0)) 12 (watch12 g 5600 none 0)) 10000
      s.ready ∧ s.time.rampDue ≤ s.now ∧ (s.duty.channels[1]).mode = .adaptive ∧ (s.settings.channels[1]).source = some 12 ∧ (s.watches[12]).armed = true ∧
        (s.watches[12]).grade = g ∧ (s.settings.channels[1]).ramp = true := by decide +kernel
theorem witness_OutputsMoveOnlyByTheirRules :
    let s := atMoment (fanHut (fanAt 175 (.spacing 5) 1)) 10000
    s.ready ∧ s.time.rampDue ≤ s.now ∧ (∃ t, exec .rampTick s = .next t) ∧ (s.duty.channels[1]).burst = .spacing 5 ∧
      (∃ t, exec .powerOn s = .next t ∧ (t.duty.channels[1]).output ≠ (s.duty.channels[1]).output) := by
  refine ⟨by decide +kernel, by decide +kernel, ⟨_, rfl⟩, by decide +kernel, ⟨_, next_after rfl, by decide +kernel⟩⟩
theorem witness_BurstsFreeOrFailAFan :
    ∀ p ∈ [(BurstState.none, 0), (.waiting, 2), (.burst 0, 3), (.spacing 0, 2), (.spacing 0, 3)],
      let s := leaving (fanHut { fanAt 1 p.1 p.2 with handed := true }) 3
      s.ready ∧ (s.duty.channels[1]).handed = true ∧ (s.duty.channels[1]).stalled = true ∧ (s.duty.channels[1]).mode ≠ .off ∧
        (s.duty.channels[1]).burst = p.1 ∧ (s.duty.channels[1]).used = p.2 ∧ 0 < (s.duty.channels[1]).output ∧
        s.coll.used + 3 + 5 = s.settings.size := by decide +kernel

end Sys2Proof.Tests
end

section
/-! PROOFS. The CLOSE step (R49): the rules of the step frame and of the closing of a segment, and the obligation O38. -/

namespace Sys2Proof.Machine.State

variable {s : State} {c : Ctx}

/-! ## A step is read, begun and completed (R15, R16) -/

theorem whenReady_of_ready (f : State → State) (h : s.ready) : s.whenReady f = f s := if_pos h

/-- A step of the kind at the step address whose fields pass runs its body on the begun step. -/
theorem atStep_eq_body {α : Type} {k : StepKind} {fields : Ctx → Word → Word → Word → Option α}
    {body : α → Ctx → State → State} {f : α} (h : s.AtStep c k)
    (hf : fields c (s.stepWord c 0) (s.stepWord c 1) (s.stepWord c 2) = some f) :
    atStep k fields body s = body f c (s.beginStep c) := by
  obtain ⟨-, hctx, hphase, hkind⟩ := h
  simp only [stepWord, Nat.add_zero] at hf
  simp [atStep, hctx, hphase, hkind, hf]

theorem beginStep_engine (s : State) (c : Ctx) :
    (s.beginStep c).engine = { s.engine with ctx := some { c with executed := c.executed + 1 } } := rfl

theorem peek_beginStep_running (s : State) (c : Ctx) : (s.beginStep c).peek 0x45 = runningWord (some c) :=
  peek_poke_same _ _ _ (by decide)

theorem beginStep_keepsWords (s : State) (c : Ctx) : s.KeepsWords (s.beginStep c) (· = 0x45) :=
  poke_keepsWords (s.setCtx (some { c with executed := c.executed + 1 })) _ _

/-- A step that is done, with no cut requested and the runaway guard not reached, leaves the run at the next address. -/
theorem finishStep_of_runsOn (a : Nat) (hctx : s.engine.ctx = some c) (h : RunsOn c) :
    s.finishStep none a = s.setCtx (some (c.next a)) := by
  obtain ⟨hcut, hexec⟩ := h
  simp [finishStep, hctx, hcut, Nat.not_le.mpr hexec, Ctx.next]

/-! ## A segment in the collection region (R102) -/

/-- Every header of the geometry in force lies above the status block and inside exchange memory. -/
theorem segAddr_bounds {i : Fin 16} (hg : s.GeometryOk) (hi : i.val < s.settings.count) :
    0x2000 ≤ s.segAddr i.val ∧ s.segAddr i.val + 5 ≤ Config.memoryWords := by
  obtain ⟨hbase, -, -, hsize, hend⟩ := hg
  have hseg : (i.val + 1) * s.settings.size ≤ s.settings.count * s.settings.size := Nat.mul_le_mul_right _ hi
  rw [Nat.add_mul, Nat.one_mul] at hseg
  simp only [segAddr, Config.memoryWords]
  omega

/-! ## A segment is closed (R113) -/

theorem closeAt_keepsWords (s : State) (i : Fin 16) (r : CloseReason) :
    s.KeepsWords (s.closeAt i r) fun a => s.segAddr i.val ≤ a ∧ a < s.segAddr i.val + 5 := by
  refine ((s.pokes_keepsWords _ _).trans (poke_keepsWords _ _ _)).mono ?_
  simp only [List.length_cons, List.length_nil]
  omega

/-- Beside memory, a close moves the collection state and raises CLOSED. -/
theorem closeAt_eq (s : State) (i : Fin 16) (r : CloseReason) :
    s.closeAt i r =
      { s with mem := (s.closeAt i r).mem, coll := { s.coll with st := .between }, wake := s.raised .closed } := rfl

theorem closeAt_closed {i : Fin 16} (r : CloseReason) (hend : s.segAddr i.val + 5 ≤ Config.memoryWords) :
    s.Closed (s.closeAt i r) i r := by
  have hword (j : Nat) (hj : j < 4) :
      (s.closeAt i r).peek (s.segAddr i.val + 1 + j) =
        [segWord1 s.coll.recs s.coll.used r.code, segWord2 s.coll.seq s.coll.route, s.coll.opened,
          s.time.timestamp][j] :=
    (peek_poke_other _ _ _ _ (by omega)).trans
      (s.peek_pokes_same _ j _ (by exact hj) (by simp only [List.length_cons, List.length_nil]; omega))
  exact ⟨peek_poke_same _ _ _ (by omega), hword 0 (by decide), hword 1 (by decide), hword 2 (by decide),
    hword 3 (by decide), rfl⟩

/-! ## The mirror of a close (R106) -/

theorem pokeChanged_self (s : State) (a : Nat) (vs : List Word) : s.pokeChanged a vs vs = s := by
  induction vs generalizing a with
  | nil => rfl
  | cons v vs ih => simpa [pokeChanged, pokeIf] using ih (a + 1)

/-- Where only the collection state moved, only the word that shows it is rewritten. -/
theorem showColl_of_state_moved {old : Coll} (h : s.coll = { old with st := .between }) :
    s.showColl old =
      s.pokeIf 0x9A ((collWords old).headD 0) ((collWords { old with st := .between }).headD 0) := by
  simp [showColl, h, collWords, fillingWord, pokeChanged_self, pokeChanged, pokeIf]

theorem pokeIf_eq (s : State) (a : Nat) (o n : Word) : s.pokeIf a o n = { s with mem := (s.pokeIf a o n).mem } := by
  unfold pokeIf; split <;> rfl

/-! ## The filling segment is closed (R113, R116) -/

section closeFilling

variable {i : Fin 16} {start : Moment} (r : CloseReason)

theorem closeFilling_of_not_filling (h : ∀ i start, s.coll.st ≠ .filling i start) : s.closeFilling r = s := by
  cases hst : s.coll.st with
  | filling i start => exact absurd hst (h i start)
  | between | starved => simp [closeFilling, hst]

theorem closeFilling_of_filling (h : s.coll.st = .filling i start) :
    s.closeFilling r =
      (s.closeAt i r).pokeIf 0x9A ((collWords s.coll).headD 0)
        ((collWords { s.coll with st := .between }).headD 0) := by
  simp only [closeFilling, h]
  exact showColl_of_state_moved rfl

theorem closeFilling_keepsWords (h : s.coll.st = .filling i start) :
    s.KeepsWords (s.closeFilling r) (s.CloseWord i) := by
  rw [closeFilling_of_filling r h]
  exact (s.closeAt_keepsWords i r).trans (pokeIf_keepsWords _ _ _ _)

theorem closeFilling_eq (h : s.coll.st = .filling i start) :
    s.closeFilling r =
      { s with mem := (s.closeFilling r).mem, coll := (s.closeFilling r).coll, wake := s.raised .closed } := by
  rw [closeFilling_of_filling r h, pokeIf_eq, closeAt_eq]

/-- The mirror of a close stands outside the segment's header. -/
theorem closeFilling_closed (h : s.coll.st = .filling i start) (hg : s.GeometryOk) (hi : i.val < s.settings.count) :
    s.Closed (s.closeFilling r) i r := by
  obtain ⟨hlow, hend⟩ := segAddr_bounds hg hi
  obtain ⟨h0, h1, h2, h3, h4, hcoll⟩ := s.closeAt_closed r hend
  have hkeep (a : Nat) (ha : 0x2000 ≤ a) : (s.closeFilling r).peek a = (s.closeAt i r).peek a := by
    rw [closeFilling_of_filling r h]
    exact peek_pokeIf_other _ _ _ _ _ (by omega)
  have hcoll' : (s.closeFilling r).coll = { s.coll with st := .between } := by
    rw [closeFilling_of_filling r h]
    simpa using hcoll
  exact ⟨(hkeep _ hlow).trans h0, (hkeep _ (by omega)).trans h1, (hkeep _ (by omega)).trans h2,
    (hkeep _ (by omega)).trans h3, (hkeep _ (by omega)).trans h4, hcoll'⟩

end closeFilling

/-! ## The CLOSE step (R49) -/

/-- A CLOSE step in a run that goes on begins, closes the filling segment where it holds a record, and leaves the run at the
next address. -/
theorem exec_close (h : s.AtStep c .close) (hgo : GoesOn c) :
    exec .close s =
      .next
        ((if s.coll.recs = 0 then s.beginStep c else (s.beginStep c).closeFilling .list).setCtx
          (some (c.stepped (c.addr + 1)))) := by
  obtain ⟨hcut, hexec⟩ := hgo
  have hruns : RunsOn { c with executed := c.executed + 1 } := ⟨hcut, Nat.succ_lt_succ hexec⟩
  calc exec .close s
      = .next (s.whenReady (atStep .close (fun _ _ _ _ => some ()) fun _ c s =>
          (if s.coll.recs = 0 then s else s.closeFilling .list).finishStep none (c.addr + 1))) := rfl
    _ = .next ((if (s.beginStep c).coll.recs = 0 then s.beginStep c
          else (s.beginStep c).closeFilling .list).finishStep none (c.addr + 1)) := by
        rw [whenReady_of_ready _ h.1, atStep_eq_body h rfl]
    _ = _ := by
        rw [finishStep_of_runsOn _ (by split <;> simp [beginStep_engine]) hruns]
        rfl

end Sys2Proof.Machine.State

open Sys2Proof.Machine State in
/-- Settles O38: the CLOSE step shows the run at 0045H as it begins, and the rest of its work is `closeFilling`. -/
theorem closeStepClosesWhatFills : Obligations.CloseStepClosesWhatFills := by
  intro s c hat hgo
  have hexec := exec_close hat hgo
  have hbegin := s.beginStep_keepsWords c
  refine ⟨fun hnone => ?_, fun i start hfill hrecs hg hi => ?_⟩
  · have hstands : (if s.coll.recs = 0 then s.beginStep c else (s.beginStep c).closeFilling .list) = s.beginStep c := by
      split
      · rfl
      next hrecs => exact closeFilling_of_not_filling .list (hnone.resolve_right hrecs)
    rw [hstands] at hexec
    exact ⟨_, hexec, s.peek_beginStep_running c, hbegin, rfl⟩
  · rw [if_neg hrecs] at hexec
    have hclose : (s.beginStep c).KeepsWords ((s.beginStep c).closeFilling .list) (s.CloseWord i) :=
      closeFilling_keepsWords .list hfill
    have hclosed : s.Closed ((s.beginStep c).closeFilling .list) i .list :=
      closeFilling_closed (s := s.beginStep c) .list hfill hg hi
    have hrunning : ¬ s.CloseWord i 0x45 := by
      obtain ⟨hlow, -⟩ := segAddr_bounds hg hi
      unfold CloseWord
      omega
    have heq := closeFilling_eq (s := s.beginStep c) .list hfill
    generalize (s.beginStep c).closeFilling .list = t at hexec hclose hclosed heq
    exact ⟨_, hexec, (hclose _ hrunning).trans (s.peek_beginStep_running c), hclosed, hbegin.trans hclose,
      congrArg (setCtx · _) heq⟩

end

section
/-! PROOFS. The grade and the filter of a watch (R88–R92): the rules of the classification, of the hysteresis from the high
side and, in the mirror, from the low side, and of the smoothing step; and the obligation O24. -/

namespace Sys2Proof.Machine

variable {d : WatchDef} {g : Grade} {x : Int}

/-- The limits of a definition in their order. -/
structure WatchDef.Ordered (d : WatchDef) : Prop where
  low : d.lowCrit ≤ d.lowWarn
  warn : d.lowWarn ≤ d.highWarn
  high : d.highWarn ≤ d.highCrit

/-! ## The classification (R90) -/

/-- Up to the high warning limit only the low side classifies. -/
theorem classify_of_le_highWarn (hd : d.Ordered) (hx : x ≤ d.highWarn) : classify d x = classifyLow d x := by
  rw [classify, if_neg (hx.trans hd.high).not_gt, if_neg hx.not_gt]

/-- From the low warning limit up only the high side classifies. -/
theorem classify_of_lowWarn_le (hd : d.Ordered) (hx : d.lowWarn ≤ x) : classify d x = classifyHigh d x := by
  rw [classify, classifyLow, if_neg (hd.low.trans hx).not_gt, if_neg hx.not_gt, classifyHigh]

theorem isLow_classifyLow (hx : x < d.lowWarn) : (classifyLow d x).isLow := by
  rw [classifyLow, if_pos hx]; split <;> rfl

theorem isLow_classifyHigh (d : WatchDef) (x : Int) : (classifyHigh d x).isLow = false := by
  unfold classifyHigh; split_ifs <;> rfl

theorem isHigh_classifyHigh (h : 0 < (classifyHigh d x).severity) : (classifyHigh d x).isHigh := by
  unfold classifyHigh at h ⊢
  split_ifs at h ⊢
  case neg => exact absurd h (Nat.lt_irrefl 0)
  all_goals rfl

theorem Grade.severity_pos_of_isHigh (hg : g.isHigh) : 0 < g.severity := by revert hg; cases g <;> decide

/-! ## The indicated grade, one equation for each side (R91, R92) -/

theorem indicated_eq_of_isHigh (hg : g.isHigh) :
    indicated d g x =
      if (classify d x).isLow ∨ (classify d x).isHigh ∧ g.severity ≤ (classify d x).severity then classify d x
      else lessSevere g (classifyHigh d (x + d.hyst)) := by
  cases g with
  | warnHigh | critHigh => rfl
  | unrated | normal | warnLow | critLow => exact absurd hg (by decide)

theorem indicated_eq_of_isLow (hg : g.isLow) :
    indicated d g x =
      if (classify d x).isHigh ∨ (classify d x).isLow ∧ g.severity ≤ (classify d x).severity then classify d x
      else lessSevere g (classifyLow d (x - d.hyst)) := by
  cases g with
  | warnLow | critLow => rfl
  | unrated | normal | warnHigh | critHigh => exact absurd hg (by decide)

/-! ## The indicated grade from the high side (R91) -/

theorem lessSevere_warnHigh (hd : d.Ordered) :
    lessSevere .warnHigh (classifyHigh d x) = if d.highWarn < x then .warnHigh else .normal := by
  by_cases hx : d.highWarn < x
  · simp only [classifyHigh, if_pos hx]; split <;> rfl
  · rw [classifyHigh, if_neg fun hcrit => hx (hd.high.trans_lt hcrit), if_neg hx]; rfl

theorem lessSevere_critHigh : lessSevere .critHigh (classifyHigh d x) = classifyHigh d x := by
  unfold classifyHigh; split_ifs <;> rfl

/-- A value on the low side leaves the high side at once; elsewhere a grade of the high side improves on the value moved up
by the hysteresis alone. -/
theorem indicated_of_isHigh (hg : g.isHigh) (hd : d.Ordered) :
    indicated d g x =
      if x < d.lowWarn then classifyLow d x
      else if g.severity ≤ (classifyHigh d x).severity then classifyHigh d x
      else lessSevere g (classifyHigh d (x + d.hyst)) := by
  rw [indicated_eq_of_isHigh hg]
  by_cases hx : x < d.lowWarn
  · rw [classify_of_le_highWarn hd (hx.le.trans hd.warn), if_pos (.inl (isLow_classifyLow hx)), if_pos hx]
  · have hsevere : (classifyHigh d x).isHigh ∧ g.severity ≤ (classifyHigh d x).severity ↔
        g.severity ≤ (classifyHigh d x).severity :=
      and_iff_right_of_imp fun h => isHigh_classifyHigh ((Grade.severity_pos_of_isHigh hg).trans_le h)
    simp only [classify_of_lowWarn_le hd (not_lt.mp hx), if_neg hx, isLow_classifyHigh, Bool.false_eq_true, false_or, hsevere]

theorem indicated_warnHigh (hd : d.Ordered) :
    indicated d .warnHigh x =
      if x < d.lowCrit then .critLow else if x < d.lowWarn then .warnLow
      else if d.highCrit < x then .critHigh else if d.highWarn < x + d.hyst then .warnHigh else .normal := by
  rw [indicated_of_isHigh rfl hd, lessSevere_warnHigh hd]
  obtain ⟨hlow, -, hhigh⟩ := hd
  grind [classifyLow, classifyHigh, Grade.severity]

theorem indicated_critHigh (hd : d.Ordered) :
    indicated d .critHigh x =
      if x < d.lowCrit then .critLow else if x < d.lowWarn then .warnLow
      else if d.highCrit < x + d.hyst then .critHigh else if d.highWarn < x + d.hyst then .warnHigh else .normal := by
  rw [indicated_of_isHigh rfl hd, lessSevere_critHigh]
  obtain ⟨hlow, -, -⟩ := hd
  grind [classifyLow, classifyHigh, Grade.severity]

/-! ## The low side is the mirror image of the high side (R92)

Values and limits are reflected about 0, which exchanges the sides. -/

/-- The grade of the same severity on the other side. -/
def Grade.mirror : Grade → Grade
  | .unrated => .unrated
  | .normal => .normal
  | .warnLow => .warnHigh
  | .warnHigh => .warnLow
  | .critLow => .critHigh
  | .critHigh => .critLow

/-- The definition with its limits reflected. -/
def WatchDef.mirror (d : WatchDef) : WatchDef :=
  { d with lowCrit := -d.highCrit, lowWarn := -d.highWarn, highWarn := -d.lowWarn, highCrit := -d.lowCrit }

theorem WatchDef.Ordered.mirror (hd : d.Ordered) : d.mirror.Ordered :=
  ⟨neg_le_neg hd.high, neg_le_neg hd.warn, neg_le_neg hd.low⟩

theorem Grade.mirror_warnHigh : Grade.warnHigh.mirror = .warnLow := rfl

theorem Grade.mirror_critHigh : Grade.critHigh.mirror = .critLow := rfl

@[simp] theorem Grade.mirror_mirror (g : Grade) : g.mirror.mirror = g := by cases g <;> rfl

@[simp] theorem Grade.mirror_severity (g : Grade) : g.mirror.severity = g.severity := by cases g <;> rfl

@[simp] theorem Grade.mirror_isLow (g : Grade) : g.mirror.isLow = g.isHigh := by cases g <;> rfl

@[simp] theorem Grade.mirror_isHigh (g : Grade) : g.mirror.isHigh = g.isLow := by cases g <;> rfl

theorem lessSevere_mirror (g t : Grade) : lessSevere g.mirror t.mirror = (lessSevere g t).mirror := by
  simp only [lessSevere, Grade.mirror_severity, apply_ite Grade.mirror]

theorem classifyHigh_mirror (d : WatchDef) (x : Int) : classifyHigh d.mirror (-x) = (classifyLow d x).mirror := by
  simp only [classifyHigh, classifyLow, WatchDef.mirror, neg_lt_neg_iff, apply_ite Grade.mirror]
  rfl

theorem classifyLow_mirror (d : WatchDef) (x : Int) : classifyLow d.mirror (-x) = (classifyHigh d x).mirror := by
  simp only [classifyHigh, classifyLow, WatchDef.mirror, neg_lt_neg_iff, apply_ite Grade.mirror]
  rfl

/-- R90 looks at the high side first, which shows in no value where the limits are in their order. -/
theorem classify_mirror (hd : d.Ordered) : classify d.mirror (-x) = (classify d x).mirror := by
  rcases le_or_gt x d.highWarn with hx | hx
  · rw [classify_of_le_highWarn hd hx, ← classifyHigh_mirror]
    exact classify_of_lowWarn_le hd.mirror (neg_le_neg hx)
  · rw [classify_of_lowWarn_le hd (hd.warn.trans hx.le), ← classifyLow_mirror]
    exact classify_of_le_highWarn hd.mirror (neg_le_neg (hd.warn.trans hx.le))

theorem neg_add_mirror_hyst (d : WatchDef) (x : Int) : -x + d.mirror.hyst = -(x - d.hyst) := by
  simp only [WatchDef.mirror]; omega

/-- What the low side indicates is what the high side of the mirrored definition does. -/
theorem indicated_mirror (hd : d.Ordered) (hg : g.isHigh) :
    indicated d g.mirror x = (indicated d.mirror g (-x)).mirror := by
  rw [indicated_eq_of_isLow (by rwa [Grade.mirror_isLow]), indicated_eq_of_isHigh hg, neg_add_mirror_hyst]
  simp only [classify_mirror hd, classifyHigh_mirror, apply_ite Grade.mirror, ← lessSevere_mirror, Grade.mirror_isLow,
    Grade.mirror_isHigh, Grade.mirror_severity, Grade.mirror_mirror]

theorem indicated_warnLow (hd : d.Ordered) :
    indicated d .warnLow x =
      if d.highCrit < x then .critHigh else if d.highWarn < x then .warnHigh
      else if x < d.lowCrit then .critLow else if x - d.hyst < d.lowWarn then .warnLow else .normal := by
  rw [← Grade.mirror_warnHigh, indicated_mirror hd rfl, indicated_warnHigh hd.mirror, neg_add_mirror_hyst]
  simp only [WatchDef.mirror, neg_lt_neg_iff, apply_ite Grade.mirror]
  rfl

theorem indicated_critLow (hd : d.Ordered) :
    indicated d .critLow x =
      if d.highCrit < x then .critHigh else if d.highWarn < x then .warnHigh
      else if x - d.hyst < d.lowCrit then .critLow else if x - d.hyst < d.lowWarn then .warnLow else .normal := by
  rw [← Grade.mirror_critHigh, indicated_mirror hd rfl, indicated_critHigh hd.mirror, neg_add_mirror_hyst]
  simp only [WatchDef.mirror, neg_lt_neg_iff, apply_ite Grade.mirror]
  rfl

/-! ## The smoothing filter (R88) -/

theorem smoothStep_zero (old e : Int) : smoothStep 0 old e = e := rfl

theorem smoothStep_of_ne_zero {k : Nat} (hk : k ≠ 0) (old e : Int) :
    smoothStep k old e = old + (e - old + 2 ^ (k - 1)) / 2 ^ k := if_neg hk

/-- A difference divided by 2^k, rounded to nearest, lies between 0 and the difference. -/
theorem rounded_share_between {k : Nat} (hk : k ≠ 0) (δ : Int) :
    min 0 δ ≤ (δ + 2 ^ (k - 1)) / 2 ^ k ∧ (δ + 2 ^ (k - 1)) / 2 ^ k ≤ max 0 δ := by
  have hhalf : (0 : Int) < 2 ^ (k - 1) := by positivity
  have hwhole : (2 : Int) ^ k = 2 * 2 ^ (k - 1) := (mul_pow_sub_one hk 2).symm
  rw [hwhole]
  generalize (2 : Int) ^ (k - 1) = h at hhalf ⊢
  rw [Int.le_ediv_iff_mul_le (by omega), ← Int.lt_add_one_iff (b := max 0 δ), Int.ediv_lt_iff_lt_mul (by omega)]
  rcases le_total 0 δ with hδ | hδ
  · rw [min_eq_left hδ, max_eq_right hδ]
    constructor <;> nlinarith
  · rw [min_eq_right hδ, max_eq_left hδ]
    constructor <;> nlinarith

/-- The filter never overshoots. -/
theorem smoothStep_between (k : Nat) (old e : Int) :
    min old e ≤ smoothStep k old e ∧ smoothStep k old e ≤ max old e := by
  by_cases hk : k = 0
  · subst hk
    exact ⟨min_le_right _ _, le_max_right _ _⟩
  · obtain ⟨hmin, hmax⟩ := rounded_share_between hk (e - old)
    rw [smoothStep_of_ne_zero hk]
    omega

theorem saturate_range (e : Int) : -32768 ≤ saturate e ∧ saturate e ≤ 32767 := by
  unfold saturate; omega

/-- An evaluation takes the engineering value whole on a restart, and filters it otherwise. -/
theorem evaluated_smooth (d : WatchDef) (w : Watch) (v : Int) (raw : Option Int) (stamp : Stamp) (now : Moment) :
    (evaluated d w v raw stamp now).smooth =
      if w.restart then saturate v else smoothStep d.k w.smooth (saturate v) := rfl

end Sys2Proof.Machine

open Sys2Proof.Machine in
/-- Settles O24: R91's rules from the high side and their mirror images, and the filter step between its ends. -/
theorem gradesImproveOnlyPastHysteresis : Obligations.GradesImproveOnlyPastHysteresis := by
  intro d x hl hm hh
  have hd : d.Ordered := ⟨hl, hm, hh⟩
  refine ⟨rfl, rfl, indicated_warnHigh hd, indicated_critHigh hd, indicated_warnLow hd, indicated_critLow hd,
    fun w v raw stamp now => ?_⟩
  have hrange := saturate_range v
  have hbetween := smoothStep_between d.k w.smooth (saturate v)
  have hsmooth := evaluated_smooth d w v raw stamp now
  refine ⟨rfl, rfl, ?_, ?_, ?_, ?_⟩
  · rintro (hr | hk)
    · rw [hsmooth, if_pos hr]; rfl
    · rw [hsmooth, hk, smoothStep_zero, ite_self]; rfl
  · intro hr hk
    rw [hsmooth, hr, smoothStep_of_ne_zero hk]; rfl
  · intro hr
    rw [hsmooth, hr]
    exact hbetween
  · intro hlo hhi
    rw [hsmooth]
    split <;> omega

end

section
/-! PROOFS. What every operation of the blocks keeps: the canonical form of exchange memory, the words that are the host's
alone, the collection region, the judged wake line, the balance of the record counts, READY and the queue of commands; with it
the laws of the Survey Engine and of the Duty Controller. One rule for each named operation over State. -/

namespace Sys2Proof.Machine

/-! ## Words that are not the host's (11.2) -/

/-- Where the host's words stand. -/
theorem HostWord.place {a : Nat} (h : HostWord a) :
    a < 0x40 ∨ (0x100 ≤ a ∧ a < 0x180 ∧ 1 ≤ a % 8 ∧ a % 8 ≤ 5) ∨ (0x180 ≤ a ∧ a < 0x200 ∧ a % 4 ≤ 1) ∨
      (0x200 ≤ a ∧ a < 0x440 ∧ (a - 0x200) % 9 ≤ 4) ∨ (0x440 ≤ a ∧ a < 0x2000) := by
  simp only [HostWord, slotAddr, dirAddr, watchAddr] at h
  rcases h with h | ⟨k, h1, h2⟩ | ⟨l, h⟩ | ⟨n, h1, h2⟩ | h <;> omega

theorem not_hostWord_of_status {a : Nat} (h1 : 0x40 ≤ a) (h2 : a < 0x100) : ¬ HostWord a := fun h => by
  have := h.place; omega

theorem not_hostWord_of_region {a : Nat} (h1 : 0x2000 ≤ a) : ¬ HostWord a := fun h => by
  have := h.place; omega

theorem not_hostWord_of_slotReport {k : Fin 16} {a : Nat} (hk : SlotReport k a) : ¬ HostWord a := fun h => by
  have := h.place
  simp only [SlotReport, slotAddr] at hk
  omega

theorem not_hostWord_of_dir {l : Fin 32} {a : Nat} (hl : a = dirAddr l + 2 ∨ a = dirAddr l + 3) : ¬ HostWord a := fun h => by
  have := h.place
  simp only [dirAddr] at hl
  omega

theorem not_hostWord_of_watchWord {n : Fin 64} {a : Nat} (hn : WatchWord n a) : ¬ HostWord a := fun h => by
  have := h.place
  simp only [WatchWord, watchAddr] at hn
  omega

theorem not_hostWord_of_inputWord {i : Fin 16} {a : Nat} (hi : InputWord i a) : ¬ HostWord a := by
  simp only [InputWord, inputAddr] at hi
  exact not_hostWord_of_status (by omega) (by omega)

/-! ## The laws of a channel (R144, R146, R154) -/

/-- The ranges of one channel: the part of `DutyLaw` that speaks of it. -/
def Channel.Law (ch : Channel) : Prop :=
  ch.manual ≤ 255 ∧ ch.target ≤ 255 ∧ ch.output ≤ 255 ∧ ch.used ≤ 3 ∧ (ch.burst = .none ↔ ch.used = 0) ∧
    (ch.burst = .waiting → ch.used ≤ 2) ∧ (ch.mode = .off → ch.target = 0 ∧ ch.output = 0 ∧ ch.burst = .none)

namespace State

theorem DutyLaw.channel {s : State} (h : s.DutyLaw) (c : Fin 4) : (s.duty.channels[c]).Law := h.2 c

/-- The two laws of the Survey Engine together. -/
def EngineLaws (s : State) : Prop := s.QueueLaw ∧ s.EngineLaw

/-- What every operation but the memory clearing keeps. -/
structure Holds (s t : State) : Prop where
  pending : t.pending = s.pending
  wf : Memory.wf s.mem → Memory.wf t.mem
  region : 0x2000 ≤ s.settings.base → 0x2000 ≤ t.settings.base
  host : 0x2000 ≤ s.settings.base → ∀ a, HostWord a → t.peek a = s.peek a
  geometry : s.GeometryOk → t.GeometryOk

/-- What every operation of the blocks keeps, whatever the engine, the channels and the record counts do. -/
structure Sound (s t : State) : Prop extends Holds s t where
  power : t.power = s.power
  line : s.wake.line = s.lineAsserted → t.wake.line = t.lineAsserted

/-- What every operation of the blocks keeps where it stands alone. -/
structure Keeps (s t : State) : Prop extends Sound s t where
  count : s.CountLaw → t.CountLaw
  engine : s.EngineLaws → t.EngineLaws
  duty : s.DutyLaw → t.DutyLaw

variable {s t u : State}

theorem Holds.refl (s : State) : Holds s s := ⟨rfl, id, id, fun _ _ _ => rfl, id⟩

theorem Holds.trans (h : Holds s t) (k : Holds t u) : Holds s u :=
  ⟨k.pending.trans h.pending, k.wf ∘ h.wf, k.region ∘ h.region,
    fun hb a ha => (k.host (h.region hb) a ha).trans (h.host hb a ha), k.geometry ∘ h.geometry⟩

theorem Sound.refl (s : State) : Sound s s := ⟨.refl s, rfl, id⟩

theorem Sound.trans (h : Sound s t) (k : Sound t u) : Sound s u :=
  ⟨h.toHolds.trans k.toHolds, k.power.trans h.power, k.line ∘ h.line⟩

theorem Keeps.refl (s : State) : Keeps s s := ⟨.refl s, id, id, id⟩

theorem Keeps.trans (h : Keeps s t) (k : Keeps t u) : Keeps s u :=
  ⟨h.toSound.trans k.toSound, k.count ∘ h.count, k.engine ∘ h.engine, k.duty ∘ h.duty⟩

/-! ## The laws read few fields -/

theorem EngineLaws.of_eq (h : t.engine = s.engine) (hs : s.EngineLaws) : t.EngineLaws := by
  unfold EngineLaws QueueLaw EngineLaw at *; rwa [h]

theorem DutyLaw.of_eq (h : t.duty = s.duty) (hg : t.settings = s.settings) (hs : s.DutyLaw) : t.DutyLaw := by
  unfold DutyLaw at *; rwa [h, hg]

theorem CountLaw.of_eq (h : t.coll = s.coll) (hs : s.CountLaw) : t.CountLaw := by
  unfold CountLaw at *; rwa [h]

/-- An operation that is no work of the engine, of the channels or of the Collection Unit. -/
theorem Keeps.of_sound (h : Keeps s t) (k : Sound t u) (hc : u.coll = t.coll) (he : u.engine = t.engine)
    (hd : u.duty = t.duty) (hg : u.settings = t.settings) : Keeps s u :=
  h.trans ⟨k, CountLaw.of_eq hc, EngineLaws.of_eq he, DutyLaw.of_eq hd hg⟩

/-- An operation of the Collection Unit. -/
theorem Keeps.of_coll (h : Keeps s t) (k : Sound t u) (hc : t.CountLaw → u.CountLaw) (he : u.engine = t.engine)
    (hd : u.duty = t.duty) (hg : u.settings = t.settings) : Keeps s u :=
  h.trans ⟨k, hc, EngineLaws.of_eq he, DutyLaw.of_eq hd hg⟩

/-- An operation of the engine. -/
theorem Keeps.of_engine (h : Keeps s t) (k : Sound t u) (hc : t.CountLaw → u.CountLaw) (he : t.EngineLaws → u.EngineLaws)
    (hd : u.duty = t.duty) (hg : u.settings = t.settings) : Keeps s u :=
  h.trans ⟨k, hc, he, DutyLaw.of_eq hd hg⟩

/-! ## Setters that no law reads -/

section Setters

theorem Sound.setHostData (h : Sound s t) (v : Word) : Sound s (t.setHostData v) := { h with }
theorem Sound.setRefused (h : Sound s t) (v : Nat) : Sound s (t.setRefused v) := { h with }
theorem Sound.setTime (h : Sound s t) (v : TimeBase) : Sound s (t.setTime v) := { h with }
theorem Sound.setIdent (h : Sound s t) (v : IdentStore) : Sound s (t.setIdent v) := { h with }
theorem Sound.setReq (h : Sound s t) (v : RequestTable) : Sound s (t.setReq v) := { h with }
theorem Sound.setEngine (h : Sound s t) (v : Engine) : Sound s (t.setEngine v) := { h with }
theorem Sound.setBus (h : Sound s t) (v : Bus) : Sound s (t.setBus v) := { h with }
theorem Sound.setWatches (h : Sound s t) (v : Vector Watch 64) : Sound s (t.setWatches v) := { h with }
theorem Sound.setInputs (h : Sound s t) (v : Vector Input 16) : Sound s (t.setInputs v) := { h with }
theorem Sound.setVisit (h : Sound s t) (v : Visit) : Sound s (t.setVisit v) := { h with }
theorem Sound.setColl (h : Sound s t) (v : Coll) : Sound s (t.setColl v) := { h with }
theorem Sound.setFreeIdx (h : Sound s t) (v : Nat) : Sound s (t.setFreeIdx v) := { h with }
theorem Sound.setChannels (h : Sound s t) (v : Vector Channel 4) :
    Sound s (t.setDuty { t.duty with channels := v }) := { h with }

theorem Keeps.setHostData (h : Keeps s t) (v : Word) : Keeps s (t.setHostData v) := { h with }
theorem Keeps.setTime (h : Keeps s t) (v : TimeBase) : Keeps s (t.setTime v) := { h with }
theorem Keeps.setIdent (h : Keeps s t) (v : IdentStore) : Keeps s (t.setIdent v) := { h with }
theorem Keeps.setReq (h : Keeps s t) (v : RequestTable) : Keeps s (t.setReq v) := { h with }
theorem Keeps.setBus (h : Keeps s t) (v : Bus) : Keeps s (t.setBus v) := { h with }
theorem Keeps.setWatches (h : Keeps s t) (v : Vector Watch 64) : Keeps s (t.setWatches v) := { h with }
theorem Keeps.setInputs (h : Keeps s t) (v : Vector Input 16) : Keeps s (t.setInputs v) := { h with }
theorem Keeps.setVisit (h : Keeps s t) (v : Visit) : Keeps s (t.setVisit v) := { h with }
theorem Keeps.setFreeIdx (h : Keeps s t) (v : Nat) : Keeps s (t.setFreeIdx v) := { h with }

end Setters

/-! ## Words, causes and folds -/

/-- Writing a word that is not the host's. -/
theorem Sound.poke (h : Sound s t) {a : Nat} (ha : 0x2000 ≤ t.settings.base → ¬ HostWord a) (v : Word) :
    Sound s (t.poke a v) :=
  h.trans
    { Sound.refl t with
      wf := fun hw => poke_wf hw a v
      host := fun hb _ hb' => peek_poke_other _ _ _ _ fun e => ha hb (e ▸ hb') }

theorem Sound.pokes (h : Sound s t) {a : Nat} {vs : List Word}
    (ha : 0x2000 ≤ t.settings.base → ∀ b, a ≤ b → b < a + vs.length → ¬ HostWord b) : Sound s (t.pokes a vs) :=
  h.trans
    { Sound.refl t with
      wf := fun hw => pokes_wf hw a vs
      host := fun hb b hb' => peek_pokes_other _ _ _ _ (by
        by_contra hin
        exact ha hb b (by omega) (by omega) hb') }

theorem Sound.pokeIf (h : Sound s t) {a : Nat} (ha : 0x2000 ≤ t.settings.base → ¬ HostWord a) (o n : Word) :
    Sound s (t.pokeIf a o n) := by
  unfold State.pokeIf; split
  · exact h
  · exact h.poke ha n

/-- Mirror words in the status block. -/
theorem Sound.pokeStatus (h : Sound s t) {a : Nat} (h1 : 0x40 ≤ a) (h2 : a < 0x100) (v : Word) : Sound s (t.poke a v) :=
  h.poke (fun _ => not_hostWord_of_status h1 h2) v

theorem Sound.pokesStatus (h : Sound s t) {a : Nat} {vs : List Word} (h1 : 0x40 ≤ a) (h2 : a + vs.length ≤ 0x100) :
    Sound s (t.pokes a vs) :=
  h.pokes fun _ _ hb1 hb2 => not_hostWord_of_status (by omega) (by omega)

theorem Sound.pokeChanged (h : Sound s t) {a : Nat} {os : List Word} (ns : List Word) (h1 : 0x40 ≤ a)
    (h2 : a + os.length ≤ 0x100) : Sound s (t.pokeChanged a os ns) := by
  induction os generalizing t a ns with
  | nil => cases ns <;> exact h
  | cons o os ih =>
    simp only [List.length_cons] at h2
    cases ns with
    | nil => exact h
    | cons n ns => exact ih (h.pokeIf (fun _ => not_hostWord_of_status h1 (by omega)) o n) ns (by omega) (by omega)

/-- Words of the collection region. -/
theorem Sound.pokeRegion (h : Sound s t) {a : Nat} (ha : t.settings.base ≤ a) (v : Word) : Sound s (t.poke a v) :=
  h.poke (fun hb => not_hostWord_of_region (hb.trans ha)) v

theorem Sound.pokesRegion (h : Sound s t) {a : Nat} (ha : t.settings.base ≤ a) (vs : List Word) : Sound s (t.pokes a vs) :=
  h.pokes fun hb _ hb1 _ => not_hostWord_of_region (hb.trans (ha.trans hb1))

theorem Sound.raiseCause (h : Sound s t) (c : WakeCause) : Sound s (t.raiseCause c) := { h with line := fun _ => rfl }

theorem Sound.clearCauses (h : Sound s t) (v : BitVec 11) : Sound s (t.clearCauses v) := { h with line := fun _ => rfl }

theorem Keeps.raiseCause (h : Keeps s t) (c : WakeCause) : Keeps s (t.raiseCause c) :=
  { h with line := fun _ => rfl }

theorem Keeps.clearCauses (h : Keeps s t) (v : BitVec 11) : Keeps s (t.clearCauses v) :=
  { h with line := fun _ => rfl }

/-- Either branch of a choice. -/
theorem Sound.ite {p : Prop} [Decidable p] (ht : Sound s t) (hu : Sound s u) : Sound s (if p then t else u) := by
  split <;> assumption

theorem Keeps.ite {p : Prop} [Decidable p] (ht : Keeps s t) (hu : Keeps s u) : Keeps s (if p then t else u) := by
  split <;> assumption

theorem Sound.foldl {α : Type} (h : Sound s t) (f : State → α → State) (l : List α)
    (hf : ∀ u a, Sound s u → Sound s (f u a)) : Sound s (l.foldl f t) := by
  induction l generalizing t with
  | nil => exact h
  | cons a l ih => exact ih (hf _ _ h)

theorem Keeps.foldl {α : Type} (h : Keeps s t) (f : State → α → State) (l : List α)
    (hf : ∀ u a, Keeps s u → Keeps s (f u a)) : Keeps s (l.foldl f t) := by
  induction l generalizing t with
  | nil => exact h
  | cons a l ih => exact ih (hf _ _ h)

theorem Keeps.poke (h : Keeps s t) {a : Nat} (ha : 0x2000 ≤ t.settings.base → ¬ HostWord a) (v : Word) :
    Keeps s (t.poke a v) :=
  h.of_sound ((Sound.refl t).poke ha v) rfl rfl rfl rfl

theorem Keeps.pokes (h : Keeps s t) {a : Nat} {vs : List Word}
    (ha : 0x2000 ≤ t.settings.base → ∀ b, a ≤ b → b < a + vs.length → ¬ HostWord b) : Keeps s (t.pokes a vs) :=
  h.of_sound ((Sound.refl t).pokes ha) rfl rfl rfl rfl

theorem Keeps.pokeStatus (h : Keeps s t) {a : Nat} (h1 : 0x40 ≤ a) (h2 : a < 0x100) (v : Word) : Keeps s (t.poke a v) :=
  h.poke (fun _ => not_hostWord_of_status h1 h2) v

/-! ## Mirrors (11.4) -/

theorem Sound.show40 (h : Sound s t) : Sound s t.show40 := h.pokeStatus (by decide) (by decide) _

theorem Sound.reshow40 (h : Sound s t) (u : State) : Sound s (t.reshow40 u) := by
  unfold State.reshow40; split
  · exact h
  · exact h.show40

theorem Sound.showTimestamp (h : Sound s t) : Sound s t.showTimestamp := h.pokeStatus (by decide) (by decide) _
theorem Sound.showWrapCount (h : Sound s t) : Sound s t.showWrapCount := h.pokeStatus (by decide) (by decide) _
theorem Sound.showSweepCount (h : Sound s t) : Sound s t.showSweepCount := h.pokeStatus (by decide) (by decide) _
theorem Sound.showCompleted (h : Sound s t) : Sound s t.showCompleted := h.pokeStatus (by decide) (by decide) _
theorem Sound.showRunning (h : Sound s t) : Sound s t.showRunning := h.pokeStatus (by decide) (by decide) _
theorem Sound.showFilling (h : Sound s t) : Sound s t.showFilling := h.pokeStatus (by decide) (by decide) _
theorem Sound.showIdent (h : Sound s t) : Sound s t.showIdent := h.pokeStatus (by decide) (by decide) _

theorem Sound.showQueue (h : Sound s t) : Sound s t.showQueue :=
  (h.pokesStatus (by decide) (by simp [queueWords])).pokeStatus (by decide) (by decide) _

theorem Sound.showStation (h : Sound s t) (i : Fin 30) : Sound s (t.showStation i) :=
  (h.pokeStatus (by omega) (by omega) _).pokeStatus (by omega) (by omega) _

theorem Sound.showColl (h : Sound s t) (old : Coll) : Sound s (t.showColl old) :=
  (((h.pokeChanged _ (by decide) (by simp [collWords])).pokeChanged _ (by decide) (by simp [collWords])).pokeChanged _
    (by decide) (by simp)).pokeIf (fun _ => not_hostWord_of_status (by decide) (by decide)) _ _

theorem Sound.writeColl (h : Sound s t) : Sound s t.writeColl :=
  ((h.pokesStatus (by decide) (by simp [collWords])).pokesStatus (by decide) (by simp)).pokeStatus (by decide) (by decide) _

theorem Sound.setMode (h : Sound s t) (m : EngineMode) : Sound s (t.setMode m) := (h.setEngine _).reshow40 _
theorem Sound.setQueue (h : Sound s t) (q : List QEntry) : Sound s (t.setQueue q) := (h.setEngine _).showQueue
theorem Sound.setCtx (h : Sound s t) (c : Option Ctx) : Sound s (t.setCtx c) := h.setEngine _
theorem Sound.setCtl (h : Sound s t) (c : BusCtl) : Sound s (t.setCtl c) := (h.setBus _).reshow40 _
theorem Sound.setStation (h : Sound s t) (i : Fin 30) (x : Station) : Sound s (t.setStation i x) :=
  (h.setBus _).showStation i
theorem Sound.setCounts (h : Sound s t) (c : BusCounts) : Sound s (t.setCounts c) :=
  (h.setBus _).pokeChanged _ (by decide) (by simp [countWords])
theorem Sound.setVisitState (h : Sound s t) (v : Visit) : Sound s (t.setVisitState v) := (h.setVisit v).reshow40 _
theorem Sound.setChannel (h : Sound s t) (c : Fin 4) (ch : Channel) : Sound s (t.setChannel c ch) :=
  ((h.setChannels _).pokeIf (fun _ => not_hostWord_of_status (by omega) (by omega)) _ _).pokeIf
    (fun _ => not_hostWord_of_status (by omega) (by omega)) _ _

theorem Keeps.showTimestamp (h : Keeps s t) : Keeps s t.showTimestamp := h.pokeStatus (by decide) (by decide) _
theorem Keeps.showWrapCount (h : Keeps s t) : Keeps s t.showWrapCount := h.pokeStatus (by decide) (by decide) _
theorem Keeps.showSweepCount (h : Keeps s t) : Keeps s t.showSweepCount := h.pokeStatus (by decide) (by decide) _
theorem Keeps.showRunning (h : Keeps s t) : Keeps s t.showRunning := h.pokeStatus (by decide) (by decide) _
theorem Keeps.showIdent (h : Keeps s t) : Keeps s t.showIdent := h.pokeStatus (by decide) (by decide) _
theorem Keeps.setCtl (h : Keeps s t) (c : BusCtl) : Keeps s (t.setCtl c) :=
  h.of_sound ((Sound.refl t).setCtl c) (by simp) (by simp) (by simp) (by simp)
theorem Keeps.setStation (h : Keeps s t) (i : Fin 30) (x : Station) : Keeps s (t.setStation i x) :=
  h.of_sound ((Sound.refl t).setStation i x) (by simp) (by simp) (by simp) (by simp)
theorem Keeps.setCounts (h : Keeps s t) (c : BusCounts) : Keeps s (t.setCounts c) :=
  h.of_sound ((Sound.refl t).setCounts c) (by simp) (by simp) (by simp) (by simp)
theorem Keeps.setVisitState (h : Keeps s t) (v : Visit) : Keeps s (t.setVisitState v) :=
  h.of_sound ((Sound.refl t).setVisitState v) (by simp) (by simp) (by simp) (by simp)

/-- A channel takes a state that has its ranges. -/
theorem Keeps.setChannel (h : Keeps s t) {c : Fin 4} {ch : Channel} (hch : t.DutyLaw → ch.Law) :
    Keeps s (t.setChannel c ch) :=
  h.trans ⟨(Sound.refl t).setChannel c ch, CountLaw.of_eq (by simp), EngineLaws.of_eq (by simp), fun hd => by
    refine ⟨by simpa using hd.1, fun d => ?_⟩
    have hduty : (t.setChannel c ch).duty = { t.duty with channels := t.duty.channels.set c ch } := by
      simp [State.setChannel]
    rw [hduty]
    by_cases hcd : c = d
    · subst hcd
      simpa [Channel.Law] using hch hd
    · have hne : c.val ≠ d.val := fun e => hcd (Fin.ext e)
      simpa [Fin.getElem_fin, Vector.getElem_set_ne _ _ hne] using hd.2 d⟩

/-! ## The Collection Unit (chapter 5) -/

theorem base_le_segAddr (s : State) (i : Nat) : s.settings.base ≤ s.segAddr i := Nat.le_add_right _ _

theorem Sound.putRecord (h : Sound s t) (i : Fin 16) (r : Record) : Sound s (t.putRecord i r) :=
  (((h.pokesRegion (Nat.le_add_right_of_le (Nat.le_add_right_of_le (base_le_segAddr t _))) _).pokeRegion
    (Nat.le_add_right_of_le (base_le_segAddr t _)) _).setColl _).showFilling

theorem Sound.openNext (h : Sound s t) : Sound s t.openNext :=
  ((h.pokesRegion (Nat.le_add_right_of_le (base_le_segAddr t _)) _).pokeRegion (base_le_segAddr t _) _).setColl _

theorem Sound.closeAt (h : Sound s t) (i : Fin 16) (r : CloseReason) : Sound s (t.closeAt i r) :=
  (((h.pokesRegion (Nat.le_add_right_of_le (base_le_segAddr t _)) _).pokeRegion (base_le_segAddr t _) _).setColl
    _).raiseCause _

theorem Sound.accountLoss (h : Sound s t) (i : Fin 16) : Sound s (t.accountLoss i) := by
  unfold State.accountLoss; split
  · exact h
  · exact (h.putRecord i _).setColl _

theorem Sound.dropRecord (h : Sound s t) : Sound s t.dropRecord := by
  dsimp only [State.dropRecord]; split
  · exact (h.setColl _).raiseCause _
  · exact h.setColl _

theorem Sound.tryNext (h : Sound s t) (r : Record) : Sound s (t.tryNext r) := by
  dsimp only [State.tryNext]; split
  · exact (h.openNext.accountLoss _).putRecord _ r
  · exact h.dropRecord

theorem Sound.placeRecord (h : Sound s t) (r : Record) : Sound s (t.placeRecord r) := by
  unfold State.placeRecord; split
  · split
    · exact h.putRecord _ r
    · exact (h.closeAt _ _).tryNext r
  · exact h.tryNext r
  · exact h.tryNext r

theorem Sound.offer (h : Sound s t) (r : Record) : Sound s (t.offer r) := ((h.setColl _).placeRecord r).showColl _

/-! ### The balance of the counts (R112) -/

/-- What the counts fall short by: records offered less records written and dropped. -/
def balance (s : State) : Word := s.coll.offered - (s.coll.written + s.coll.dropped)

theorem countLaw_iff (s : State) : s.CountLaw ↔ s.balance = 0 := by
  unfold CountLaw balance; exact sub_eq_zero.symm

theorem CountLaw.of_balance (h : t.balance = s.balance) (hs : s.CountLaw) : t.CountLaw := by
  rw [countLaw_iff] at *; rwa [h]

theorem balance_of_coll (h : t.coll = s.coll) : t.balance = s.balance := by unfold balance; rw [h]

theorem putRecord_balance (s : State) (i : Fin 16) (r : Record) : (s.putRecord i r).balance = s.balance - 1 := by
  simp only [balance, State.putRecord, showFilling_frame, setColl_coll]; ring

theorem openNext_balance (s : State) : s.openNext.balance = s.balance := rfl

theorem closeAt_balance (s : State) (i : Fin 16) (r : CloseReason) : (s.closeAt i r).balance = s.balance := rfl

theorem accountLoss_balance (s : State) (i : Fin 16) : (s.accountLoss i).balance = s.balance := by
  unfold State.accountLoss; split
  · rfl
  · have h := s.putRecord_balance i (overrunRecord s.coll)
    simp only [balance, setColl_coll] at h ⊢
    linear_combination h

theorem dropRecord_balance (s : State) : s.dropRecord.balance = s.balance - 1 := by
  dsimp only [State.dropRecord]
  split <;> simp only [balance, raiseCause_frame, setColl_coll] <;> ring

theorem tryNext_balance (s : State) (r : Record) : (s.tryNext r).balance = s.balance - 1 := by
  dsimp only [State.tryNext]; split
  · rw [putRecord_balance, accountLoss_balance, openNext_balance]
  · exact s.dropRecord_balance

theorem placeRecord_balance (s : State) (r : Record) : (s.placeRecord r).balance = s.balance - 1 := by
  unfold State.placeRecord; split
  · split
    · exact s.putRecord_balance _ r
    · rw [tryNext_balance, closeAt_balance]
  · exact s.tryNext_balance r
  · exact s.tryNext_balance r

/-- Each offer is counted once as offered, and once as written or dropped (R112). -/
theorem offer_balance (s : State) (r : Record) : (s.offer r).balance = s.balance := by
  have h := placeRecord_balance (s.setColl { s.coll with offered := s.coll.offered + 1 }) r
  unfold State.offer
  rw [balance_of_coll (showColl_frame _ _).2.2.2.2.2.2.2.2.2.2.2.2.1, h]
  simp only [balance, setColl_coll]; ring

theorem Keeps.offer (h : Keeps s t) (r : Record) : Keeps s (t.offer r) :=
  h.of_coll ((Sound.refl t).offer r) (CountLaw.of_balance (t.offer_balance r)) (by simp) (by simp) (by simp)

theorem Keeps.closeFilling (h : Keeps s t) (r : CloseReason) : Keeps s (t.closeFilling r) := by
  unfold State.closeFilling; split
  next i _ _ =>
    exact h.of_coll (((Sound.refl t).closeAt i r).showColl _)
      (CountLaw.of_balance ((balance_of_coll (by simp)).trans (t.closeAt_balance i r))) (by simp) (by simp) (by simp)
  · exact h
  · exact h

theorem Keeps.closeByAge (h : Keeps s t) : Keeps s t.closeByAge := by
  unfold State.closeByAge; split
  · split
    · exact h.closeFilling _
    · exact h
  · exact h
  · exact h

theorem Sound.emptyHeader (h : Sound s t) (i : Nat) : Sound s (t.emptyHeader i) :=
  (h.pokesRegion (Nat.le_add_right_of_le (base_le_segAddr t _)) _).pokeRegion (base_le_segAddr t _) _

theorem Keeps.restartCollection (h : Keeps s t) : Keeps s t.restartCollection :=
  h.of_coll ((((Sound.refl t).foldl _ _ fun _ i hu => hu.emptyHeader i).setColl _).showColl _)
    (CountLaw.of_balance (by simp [State.restartCollection, balance])) (by simp) (by simp) (by simp)

end State
end Sys2Proof.Machine
end

section
/-! PROOFS. The Request Table, the Survey Engine and the run queue: what their operations keep (chapters 1 and 9). -/

namespace Sys2Proof.Machine

/-! ## The order of the run queue (R7) -/

theorem UrgentFirst.tail {e : QEntry} {q : List QEntry} (h : UrgentFirst (e :: q)) : UrgentFirst q := h.2

theorem UrgentFirst.filter {q : List QEntry} (h : UrgentFirst q) (p : QEntry → Bool) : UrgentFirst (q.filter p) := by
  induction q with
  | nil => trivial
  | cons e q ih =>
    rw [List.filter_cons]
    split
    · exact ⟨fun he f hf => h.1 he f (List.mem_filter.mp hf).1, ih h.2⟩
    · exact ih h.2

theorem UrgentFirst.append_routine {q : List QEntry} {e : QEntry} (h : UrgentFirst q) (he : e.urgent = false) :
    UrgentFirst (q ++ [e]) := by
  induction q with
  | nil => exact ⟨nofun, trivial⟩
  | cons x q ih =>
    refine ⟨fun hx f hf => ?_, ih h.2⟩
    rcases List.mem_append.mp hf with hf | hf
    · exact h.1 hx f hf
    · rwa [List.mem_singleton.mp hf]

theorem insertUrgent_perm (e : QEntry) (q : List QEntry) : (insertUrgent e q).Perm (e :: q) := by
  induction q with
  | nil => exact .refl _
  | cons x q ih =>
    unfold insertUrgent; split
    · exact (ih.cons x).trans (.swap e x q)
    · exact .refl _

theorem UrgentFirst.insertUrgent {q : List QEntry} {e : QEntry} (h : UrgentFirst q) (he : e.urgent = true) :
    UrgentFirst (Machine.insertUrgent e q) := by
  induction q with
  | nil => exact ⟨nofun, trivial⟩
  | cons x q ih =>
    unfold Machine.insertUrgent; split
    next hx =>
      refine ⟨fun hr => ?_, ih h.2⟩
      have hnone : q.any (·.urgent) = false := List.any_eq_false.mpr fun f hf => by simp [h.1 hr f hf]
      simp [hr, hnone] at hx
    next => exact ⟨fun hr => absurd he (by simp [hr]), h⟩

theorem place_perm (e : QEntry) (q : List QEntry) : (place e q).Perm (e :: q) := by
  unfold place; split
  · exact insertUrgent_perm e q
  · exact List.perm_append_comm

theorem UrgentFirst.place {q : List QEntry} (h : UrgentFirst q) (e : QEntry) : UrgentFirst (Machine.place e q) := by
  unfold Machine.place; split
  next he => exact h.insertUrgent he
  next he => exact h.append_routine (by simpa using he)

namespace State

variable {s t u : State}

/-! ## The Request Table (chapter 9) -/

theorem Sound.completeSlot (h : Sound s t) (k : Fin 16) (w : Bool) (r : Result) (v : Word) :
    Sound s (t.completeSlot k w r v) := by
  dsimp only [State.completeSlot]
  have hreport {u : State} {a : Nat} (ha : SlotReport k a) : 0x2000 ≤ u.settings.base → ¬ HostWord a :=
    fun _ => not_hostWord_of_slotReport ha
  have hwords : Sound s (((t.poke (slotAddr k + 6) (BitVec.ofNat 32 r.code)).poke (slotAddr k + 7) v).poke (slotAddr k)
      (if r = .ok then 3 else 4)) :=
    ((h.poke (hreport (.inr (.inl rfl))) _).poke (hreport (u := t.poke _ _) (.inr (.inr rfl))) _).poke
      (hreport (u := (t.poke _ _).poke _ _) (.inl rfl)) _
  exact .ite (.ite (hwords.raiseCause _) hwords) h

theorem Keeps.completeSlot (h : Keeps s t) (k : Fin 16) (w : Bool) (r : Result) (v : Word) :
    Keeps s (t.completeSlot k w r v) :=
  h.of_sound ((Sound.refl t).completeSlot k w r v) (by simp) (by simp) (by simp) (by simp)

theorem Sound.completeHeld (h : Sound s t) (k : HeldKind) (r : Result) (v : Word) : Sound s (t.completeHeld k r v) :=
  (h.setReq _).foldl _ _ fun _ e hu => hu.completeSlot e.slot e.wake r v

theorem Keeps.completeHeld (h : Keeps s t) (k : HeldKind) (r : Result) (v : Word) : Keeps s (t.completeHeld k r v) :=
  h.of_sound ((Sound.refl t).completeHeld k r v) (by simp) (by simp) (by simp) (by simp)

theorem Sound.holdInFlight (h : Sound s t) (r : Taken) (k : HeldKind) : Sound s (t.holdInFlight r k) := h.setReq _
theorem Keeps.holdInFlight (h : Keeps s t) (r : Taken) (k : HeldKind) : Keeps s (t.holdInFlight r k) := h.setReq _
theorem Keeps.detach (h : Keeps s t) (k : Fin 16) : Keeps s (t.detach k) := h.setReq _

theorem Keeps.requestSweep (h : Keeps s t) : Keeps s t.requestSweep := by
  unfold State.requestSweep; split <;> exact h.setReq _

theorem Keeps.advanceSweep (h : Keeps s t) : Keeps s t.advanceSweep := by
  unfold State.advanceSweep; split
  · exact h
  · split
    · exact h.setReq _
    · exact (h.setReq _).showSweepCount

theorem Keeps.endExamination (h : Keeps s t) : Keeps s t.endExamination := (h.setReq _).advanceSweep

theorem Keeps.takeSlot (h : Keeps s t) (k : Fin 16) : Keeps s (t.takeSlot k) := by
  have htaken : Keeps s ((t.detach k).poke (slotAddr k) 2) :=
    (h.detach k).poke (fun _ => not_hostWord_of_slotReport (.inl rfl)) _
  dsimp only [State.takeSlot]; split
  · exact (htaken.completeSlot ..).advanceSweep
  · split
    · exact (htaken.completeSlot ..).advanceSweep
    · exact htaken.setReq _

theorem Keeps.sweepSlot (h : Keeps s t) : Keeps s t.sweepSlot := by
  unfold State.sweepSlot; split
  · split
    · exact h.takeSlot _
    · split
      · exact h.advanceSweep
      · exact (h.completeSlot ..).advanceSweep
    · exact h.advanceSweep
  · exact h

/-- A request carried out keeps what its work keeps. -/
theorem Keeps.carryOut (h : Keeps s t) (k : ReqKind) {work : Taken → State → Carried}
    (hwork : ∀ r u, Keeps s u → Keeps s (work r u).1) : Keeps s (t.carryOut k work) := by
  have htaken : Keeps s (if t.postedKind = some k then t.sweepSlot else t) := .ite h.sweepSlot h
  dsimp only [State.carryOut]; split
  · split
    · split
      · exact ((hwork _ _ htaken).completeSlot ..).endExamination
      · exact (hwork _ _ htaken).endExamination
    · exact htaken
  · exact htaken

/-! ## Parts of the directory and the status block (R3) -/

theorem Sound.bumpHalf (h : Sound s t) {a : Nat} (ha : ¬ HostWord a) (lo : Nat) : Sound s (t.bumpHalf a lo) :=
  h.poke (fun _ => ha) _

theorem Sound.bumpRunCount (h : Sound s t) (l : Fin 32) : Sound s (t.bumpRunCount l) :=
  h.bumpHalf (not_hostWord_of_dir (.inl rfl)) _

theorem Sound.bumpCoalesced (h : Sound s t) (l : Fin 32) : Sound s (t.bumpCoalesced l) :=
  h.bumpHalf (not_hostWord_of_dir (.inl rfl)) _

theorem Sound.bumpShedDrop (h : Sound s t) (l : Fin 32) : Sound s (t.bumpShedDrop l) :=
  h.bumpHalf (not_hostWord_of_status (by omega) (by omega)) _

theorem Sound.setLastOutcome (h : Sound s t) (l : Fin 32) (o : ListOutcome) : Sound s (t.setLastOutcome l o) :=
  h.pokeStatus (by omega) (by omega) _

/-! ## Run ends and run starts (R11, R14, R20) -/

theorem Sound.finishRun (h : Sound s t) (c : Ctx) (o : ListOutcome) (f : Option StepOutcome) (a : Option Nat) :
    Sound s (t.finishRun c o f a) := by
  have hdir : Sound s (((t.bumpRunCount c.list).setLastOutcome c.list o).poke (dirAddr c.list + 3) t.time.timestamp) :=
    ((h.bumpRunCount _).setLastOutcome _ o).poke (fun _ => not_hostWord_of_dir (.inr rfl)) _
  have hrecord := Sound.ite (p := c.endRecord = true) (hdir.offer (listEndRecord c o f a)) hdir
  exact (((hrecord.setEngine _).showCompleted.completeHeld _ _ _).setEngine _).showRunning

theorem Sound.startRun (h : Sound s t) (e : QEntry) (rest : List QEntry) : Sound s (t.startRun e rest) :=
  (((h.setQueue rest).setCtx _).setMode _).showRunning

theorem Sound.startHeads (h : Sound s t) (n : Nat) : Sound s (startHeads n t) := by
  induction n generalizing t with
  | zero => exact h
  | succ n ih =>
    unfold State.startHeads; split
    · exact h.setMode _
    · dsimp only; split
      · exact .ite (h.startRun _ _) (ih ((h.startRun _ _).finishRun ..))
      · exact h.startRun _ _

theorem Sound.startNext (h : Sound s t) : Sound s t.startNext := h.startHeads _

theorem Sound.leaveRun (h : Sound s t) : Sound s t.leaveRun := by
  unfold State.leaveRun; split
  · exact ((h.setEngine _).setMode _).completeHeld _ _ _
  all_goals exact h.startNext

theorem Sound.endRun (h : Sound s t) (o : ListOutcome) (f : Option StepOutcome) (a : Option Nat) :
    Sound s (t.endRun o f a) := by
  unfold State.endRun; split
  · exact (h.finishRun ..).leaveRun
  · exact h

theorem Sound.trigger (h : Sound s t) (l : Fin 32) (src : Source) : Sound s (t.trigger l src).1 := by
  dsimp only [State.trigger]
  split
  · exact h
  · split
    · exact h.bumpShedDrop l
    · split
      · exact h.bumpCoalesced l
      · exact .ite (h.setQueue _).startNext (h.setQueue _)

theorem Sound.purge (h : Sound s t) : Sound s t.purge :=
  (h.foldl _ _ fun _ e hu => hu.bumpShedDrop e.list).setQueue _

/-! ### The record counts at a run's end and start -/

theorem finishRun_balance (s : State) (c : Ctx) (o : ListOutcome) (f : Option StepOutcome) (a : Option Nat) :
    (s.finishRun c o f a).balance = s.balance := by
  have hoffer := offer_balance (((s.bumpRunCount c.list).setLastOutcome c.list o).poke (dirAddr c.list + 3) s.time.timestamp)
    (listEndRecord c o f a)
  cases hc : c.endRecord <;> simp_all [State.finishRun, balance]

theorem startRun_balance (s : State) (e : QEntry) (rest : List QEntry) : (s.startRun e rest).balance = s.balance :=
  balance_of_coll (by simp)

theorem startHeads_balance (s : State) (n : Nat) : (startHeads n s).balance = s.balance := by
  induction n generalizing s with
  | zero => rfl
  | succ n ih =>
    unfold State.startHeads; split
    · exact balance_of_coll (by simp)
    · dsimp only; split
      · split
        · exact startRun_balance ..
        · rw [ih, finishRun_balance, startRun_balance]
      · exact startRun_balance ..

theorem leaveRun_balance (s : State) : s.leaveRun.balance = s.balance := by
  unfold State.leaveRun; split
  · exact balance_of_coll (by simp)
  all_goals exact startHeads_balance ..

theorem endRun_balance (s : State) (o : ListOutcome) (f : Option StepOutcome) (a : Option Nat) :
    (s.endRun o f a).balance = s.balance := by
  unfold State.endRun; split
  · rw [leaveRun_balance, finishRun_balance]
  · rfl

theorem trigger_balance (s : State) (l : Fin 32) (src : Source) : (s.trigger l src).1.balance = s.balance := by
  dsimp only [State.trigger]
  split
  · rfl
  · split
    · exact balance_of_coll (by simp)
    · split
      · exact balance_of_coll (by simp)
      · dsimp only; split
        · exact (startHeads_balance ..).trans (balance_of_coll (by simp))
        · exact balance_of_coll (by simp)

/-! ### The engine after each of its moves -/

theorem setMode_engine (s : State) (m : EngineMode) : (s.setMode m).engine = { s.engine with mode := m } := by
  simp [State.setMode]

theorem setQueue_engine (s : State) (q : List QEntry) : (s.setQueue q).engine = { s.engine with queue := q } := rfl

theorem setCtx_engine (s : State) (c : Option Ctx) : (s.setCtx c).engine = { s.engine with ctx := c } := rfl

theorem finishRun_engine (s : State) (c : Ctx) (o : ListOutcome) (f : Option StepOutcome) (a : Option Nat) :
    (s.finishRun c o f a).engine = { s.engine with ctx := none, cuts := 0, completed := s.engine.completed + 1 } := by
  simp [State.finishRun]

/-- A run that starts from the head of the queue. -/
theorem startRun_engine (s : State) (e : QEntry) (rest : List QEntry) :
    ∃ c, (s.startRun e rest).engine = { s.engine with mode := .running, queue := rest, ctx := some c } :=
  ⟨_, by simp [State.startRun, setMode_engine, setCtx_engine, setQueue_engine]; rfl⟩

theorem EngineLaws.of_running {s : State} {c : Ctx} (hq : s.QueueLaw) (hm : s.engine.mode = .running ∨ s.engine.mode = .holding)
    (hc : s.engine.ctx = some c) : s.EngineLaws :=
  ⟨hq, by simp [hc, hm], fun hi => by simp [hi] at hm⟩

theorem EngineLaws.of_rest {s : State} (hq : s.QueueLaw) (hm : s.engine.mode = .held ∨ (s.engine.mode = .idle ∧ s.engine.queue = []))
    (hc : s.engine.ctx = none) : s.EngineLaws := by
  refine ⟨hq, ?_, fun hi => ?_⟩
  · rcases hm with hm | ⟨hm, -⟩ <;> simp [hc, hm]
  · rcases hm with hm | ⟨-, hm⟩
    · simp [hi] at hm
    · exact hm

theorem QueueLaw.of_eq (h : t.engine.queue = s.engine.queue) (hs : s.QueueLaw) : t.QueueLaw := by
  unfold QueueLaw at *; rwa [h]

/-- With no run on, the heads that start leave the engine in RUNNING with a list, or IDLE with none queued. -/
theorem startHeads_laws (n : Nat) (hq : s.QueueLaw) (hc : s.engine.ctx = none) (hn : s.engine.queue.length < n) :
    (startHeads n s).EngineLaws := by
  induction n generalizing s with
  | zero => exact absurd hn (Nat.not_lt_zero _)
  | succ n ih =>
    unfold State.startHeads; split
    next he =>
      exact .of_rest (QueueLaw.of_eq (by simp [setMode_engine]) hq) (.inr (by simp [setMode_engine, he]))
        (by simp [setMode_engine, hc])
    next e rest he =>
      obtain ⟨c, hrun⟩ := s.startRun_engine e rest
      have hq' : (s.startRun e rest).QueueLaw := by
        unfold QueueLaw at *
        rw [hrun]
        rw [he] at hq
        exact ⟨(List.nodup_cons.mp hq.1).2, hq.2.tail⟩
      dsimp only
      have hctx : (s.startRun e rest).engine.ctx = some c := by rw [hrun]
      rw [hctx]; dsimp only; split
      · exact .of_running hq' (.inl (by rw [hrun])) hctx
      · refine ih (QueueLaw.of_eq (by rw [finishRun_engine]) hq') (by rw [finishRun_engine]) ?_
        rw [finishRun_engine, hrun]
        rw [he] at hn
        exact Nat.lt_of_succ_lt_succ hn

theorem startNext_laws (hq : s.QueueLaw) (hc : s.engine.ctx = none) : s.startNext.EngineLaws :=
  startHeads_laws _ hq hc (Nat.lt_succ_self _)

theorem leaveRun_laws (hq : s.QueueLaw) (hc : s.engine.ctx = none) : s.leaveRun.EngineLaws := by
  unfold State.leaveRun; split
  · exact .of_rest (QueueLaw.of_eq (by simp [setMode_engine]) hq) (.inl (by simp [setMode_engine]))
      (by simp [setMode_engine, hc])
  all_goals exact startNext_laws hq hc

theorem endRun_laws (h : s.EngineLaws) (o : ListOutcome) (f : Option StepOutcome) (a : Option Nat) :
    (s.endRun o f a).EngineLaws := by
  unfold State.endRun; split
  · exact leaveRun_laws (QueueLaw.of_eq (by rw [finishRun_engine]) h.1) (by rw [finishRun_engine])
  · exact h

theorem EngineLaws.ctx_of_idle (h : s.EngineLaws) (hm : s.engine.mode = .idle) : s.engine.ctx = none := by
  have := h.2.1
  simpa [hm] using this

/-- A new entry for a list that does not stand in the queue. -/
theorem EngineLaws.place (h : s.EngineLaws) {e : QEntry} (he : s.engine.queue.any (·.list = e.list) = false) :
    (s.setQueue (place e s.engine.queue)).QueueLaw := by
  obtain ⟨hnodup, hurgent⟩ := h.1
  refine ⟨?_, hurgent.place e⟩
  have hperm := (place_perm e s.engine.queue).map QEntry.list
  rw [setQueue_engine, hperm.nodup_iff]
  refine List.nodup_cons.mpr ⟨fun hmem => ?_, hnodup⟩
  obtain ⟨f, hf, hfe⟩ := List.mem_map.mp hmem
  simpa [hfe] using List.any_eq_false.mp he f hf

theorem trigger_laws (h : s.EngineLaws) (l : Fin 32) (src : Source) : (s.trigger l src).1.EngineLaws := by
  dsimp only [State.trigger]
  split
  · exact h
  · split
    · exact .of_eq (by simp) h
    · split
      · exact .of_eq (by simp) h
      next hany =>
        have hq := h.place (e := { list := l, urgent := (readDir s.mem l).urgent, source := src }) (by simpa using hany)
        dsimp only; split
        next hm => exact startNext_laws hq (h.ctx_of_idle hm)
        next hm =>
          refine ⟨hq, h.2.1, fun hi => absurd hi hm⟩

theorem EngineLaws.filterQueue (h : s.EngineLaws) (p : QEntry → Bool) :
    (s.setQueue (s.engine.queue.filter p)).EngineLaws :=
  ⟨⟨h.1.1.sublist (List.filter_sublist.map _), h.1.2.filter p⟩, h.2.1, fun hi => by
    rw [setQueue_engine] at hi ⊢
    simp [h.2.2 hi]⟩

/-- The context of the running list is replaced by another. -/
theorem EngineLaws.setCtx (h : s.EngineLaws) {c : Option Ctx} (hc : c.isSome = s.engine.ctx.isSome) :
    (s.setCtx c).EngineLaws :=
  ⟨h.1, by rw [setCtx_engine]; simpa [hc] using h.2.1, h.2.2⟩

/-! ### What the engine's moves keep -/

theorem Keeps.endRun (h : Keeps s t) (o : ListOutcome) (f : Option StepOutcome) (a : Option Nat) :
    Keeps s (t.endRun o f a) :=
  h.of_engine ((Sound.refl t).endRun o f a) (CountLaw.of_balance (t.endRun_balance o f a)) (fun he => endRun_laws he o f a)
    (by simp) (by simp)

theorem Keeps.trigger (h : Keeps s t) (l : Fin 32) (src : Source) : Keeps s (t.trigger l src).1 :=
  h.of_engine ((Sound.refl t).trigger l src) (CountLaw.of_balance (t.trigger_balance l src))
    (fun he => trigger_laws he l src) (by simp) (by simp)

theorem Keeps.offerTrigger (h : Keeps s t) (l : Fin 32) (src : Source) : Keeps s (t.offerTrigger l src) := h.trigger l src

theorem Keeps.offerTriggerTo (h : Keeps s t) (l : Option (Fin 32)) (src : Source) : Keeps s (t.offerTriggerTo l src) := by
  cases l with
  | none => exact h
  | some l => exact h.trigger l src

theorem Keeps.setCtx (h : Keeps s t) {c : Option Ctx} (hc : c.isSome = t.engine.ctx.isSome) : Keeps s (t.setCtx c) :=
  h.of_engine ((Sound.refl t).setCtx c) (CountLaw.of_eq rfl) (fun he => he.setCtx hc) rfl rfl

theorem Keeps.filterQueue (h : Keeps s t) (p : QEntry → Bool) : Keeps s (t.setQueue (t.engine.queue.filter p)) :=
  h.of_engine ((Sound.refl t).setQueue _) (CountLaw.of_eq (by simp)) (fun he => he.filterQueue p) (by simp) (by simp)

theorem Keeps.purge (h : Keeps s t) : Keeps s t.purge := by
  refine h.of_engine (Sound.refl t).purge (CountLaw.of_eq (by simp)) (fun he => ?_) (by simp) (by simp)
  exact EngineLaws.of_eq (by simp [State.purge, setQueue_engine]) (he.filterQueue fun e => !purged t.mem e)

/-- Heads start where no list runs. -/
theorem Keeps.startNext (h : Keeps s t) (hc : t.EngineLaws → t.engine.ctx = none) : Keeps s t.startNext :=
  h.of_engine (Sound.refl t).startNext (CountLaw.of_balance (startHeads_balance ..))
    (fun he => startNext_laws he.1 (hc he)) (by simp) (by simp)

theorem Keeps.finishStep (h : Keeps s t) (own : OwnEnd) (a : Nat) : Keeps s (t.finishStep own a) := by
  unfold State.finishStep; split
  · exact h
  next c hc =>
    split
    · exact h.endRun ..
    · exact .ite (h.endRun ..) (.ite (h.endRun ..) (h.setCtx (by simp [hc])))

end State
end Sys2Proof.Machine
end

section
/-! PROOFS. The Duty Controller, the watches, the ends of steps, the bus controller, the visit machine and the contact
inputs: what their operations keep (chapters 2 to 7). -/

namespace Sys2Proof.Machine.State

variable {s t u : State}

/-! ## The Duty Controller (chapter 7) -/

theorem setChannel_duty (s : State) (c : Fin 4) (ch : Channel) : (s.setChannel c ch).duty = s.withChannel c ch := by
  simp [State.setChannel, withChannel]

theorem withChannel_same (s : State) (c : Fin 4) (ch : Channel) : (s.withChannel c ch).channels[c] = ch := by
  simp [withChannel]

theorem withChannel_other (s : State) {c d : Fin 4} (ch : Channel) (h : d ≠ c) :
    (s.withChannel c ch).channels[d] = s.duty.channels[d] := by
  have hne : c.val ≠ d.val := fun e => h (Fin.ext e.symm)
  simp [withChannel, Fin.getElem_fin, Vector.getElem_set_ne _ _ hne]

theorem withChannel_withChannel {s t : State} {c : Fin 4} {x : Channel} (h : t.duty = s.withChannel c x) (y : Channel) :
    t.withChannel c y = s.withChannel c y := by
  simp [withChannel, h]

/-- A clear notice at a channel: the flag clears, and an episode in progress ends (R151, R155). -/
theorem clearChannel_duty (s : State) (c : Fin 4) :
    (s.clearChannel c).duty =
      s.withChannel c
        { s.duty.channels[c] with
          stalled := false, burst := .none, handed := false
          used := if (s.duty.channels[c]).burst = .none then (s.duty.channels[c]).used else 0 } := by
  dsimp only [State.clearChannel]
  split
  next h => rw [setChannel_duty, h]
  next h =>
    rw [setChannel_duty]
    have hduty : ((s.setChannel c { s.duty.channels[c] with stalled := false, burst := .none, handed := false }).offer
        (stallRecord c (State.tachOf (s.setChannel c { s.duty.channels[c] with stalled := false, burst := .none, handed := false }) c)
          .clear (s.duty.channels[c]).used)).duty =
        s.withChannel c { s.duty.channels[c] with stalled := false, burst := .none, handed := false } := by
      simp [setChannel_duty]
    rw [withChannel_withChannel hduty, hduty, withChannel_same]

/-- An operation that gives one channel a state with its ranges. -/
theorem Keeps.of_channel (h : Keeps s t) (k : Sound t u) (hc : u.balance = t.balance) (he : u.engine = t.engine)
    (hg : u.settings = t.settings) {c : Fin 4} {ch : Channel} (hd : u.duty = t.withChannel c ch)
    (hch : t.DutyLaw → ch.Law) : Keeps s u :=
  h.trans ⟨k, CountLaw.of_balance hc, EngineLaws.of_eq he, fun hlaw => ⟨by rw [hg]; exact hlaw.1, fun d => by
    rw [hd]
    by_cases hcd : d = c
    · subst hcd
      rw [withChannel_same]
      exact hch hlaw
    · rw [withChannel_other _ _ hcd]
      exact hlaw.2 d⟩⟩

theorem judge_line (s : State) : s.judge.wake.line = s.judge.lineAsserted := rfl

/-- Work after which the line is judged afresh. -/
theorem Sound.of_judge (hp : t.pending = s.pending) (hw : t.power = s.power) (hg : t.settings = s.settings)
    (hwf : Memory.wf s.mem → Memory.wf t.mem) (hk : s.KeepsWords t fun a => ¬ HostWord a) : Sound s t.judge :=
  { pending := hp
    power := hw
    wf := hwf
    region := fun h => by rw [← hg] at h; exact h
    host := fun _ a ha => hk a (not_not_intro ha)
    geometry := fun h => by unfold GeometryOk at h; rw [← hg] at h; exact h
    line := fun _ => t.judge_line }

/-- A new level, with the wake line judged by the mask it brings in force (R158, R194). -/
theorem Sound.setShed (h : Sound s t) (l : ShedLevel) : Sound s (t.setShed l) :=
  h.trans <| Sound.of_judge (by simp) (by simp) (by simp)
    (fun hw => reshow40_wf (s := t.setDuty { t.duty with shed := l }) hw t)
    (KeepsWords.mono (reshow40_keepsWords (t.setDuty { t.duty with shed := l }) t) fun _ ha => by
      subst ha; exact not_hostWord_of_status (by decide) (by decide))

theorem setShed_duty (s : State) (l : ShedLevel) : (s.setShed l).duty = { s.duty with shed := l } := by
  simp [State.setShed]

theorem Keeps.setShed (h : Keeps s t) (l : ShedLevel) : Keeps s (t.setShed l) :=
  h.trans ⟨(Sound.refl t).setShed l, CountLaw.of_eq (by simp), EngineLaws.of_eq (by simp), fun hd => by
    unfold DutyLaw at *
    rw [setShed_duty, show (t.setShed l).settings = t.settings by simp]
    exact hd⟩

theorem Keeps.recomputeShed (h : Keeps s t) (c : ShedCause) : Keeps s (t.recomputeShed c) :=
  have hnew := ((h.setShed t.derivedLevel).offer (shedRecord t.duty.shed t.derivedLevel t.settings.shedWatch c)).raiseCause .shed
  .ite h (.ite hnew.purge hnew)

/-- An episode begins at a channel that is not in OFF (R152). -/
theorem Keeps.beginEpisode (h : Keeps s t) {c : Fin 4} (hm : (t.duty.channels[c]).mode ≠ .off) :
    Keeps s (t.beginEpisode c) := by
  have hset : Keeps s (t.setChannel c
      { t.duty.channels[c] with used := 1, burst := .burst (t.now + seconds 2), output := 255, handed := false }) :=
    h.setChannel fun hd => by
      obtain ⟨hman, htgt, -⟩ := hd.channel c
      exact ⟨hman, htgt, le_rfl, Nat.le_add_left 1 2, by simp, nofun, fun ho => absurd ho hm⟩
  exact (hset.offer _).raiseCause _

/-- The next burst of an episode with a burst left (R154). -/
theorem Keeps.nextBurst (h : Keeps s t) {c : Fin 4} (hm : t.DutyLaw → (t.duty.channels[c]).mode ≠ .off)
    (hu : (t.duty.channels[c]).used < 3 ∨ (t.duty.channels[c]).burst = .waiting) : Keeps s (t.nextBurst c) :=
  h.setChannel fun hd => by
    obtain ⟨hman, htgt, -, -, -, hwait, -⟩ := hd.channel c
    exact ⟨hman, htgt, le_rfl, by rcases hu with hu | hu <;> grind, by simp, nofun, fun ho => absurd ho (hm hd)⟩

theorem Keeps.stallChannel (h : Keeps s t) (c : Fin 4) : Keeps s (t.stallChannel c) := by
  have hset : Keeps s (t.setChannel c { t.duty.channels[c] with stalled := true }) := h.setChannel fun hd => hd.channel c
  dsimp only [State.stallChannel]; split
  next hb => exact hset.beginEpisode (by rw [setChannel_duty, withChannel_same]; exact hb.2.2)
  · exact hset

theorem setChannel_balance (s : State) (c : Fin 4) (ch : Channel) : (s.setChannel c ch).balance = s.balance :=
  balance_of_coll (by simp)

theorem clearChannel_balance (s : State) (c : Fin 4) : (s.clearChannel c).balance = s.balance := by
  dsimp only [State.clearChannel]
  split
  · exact setChannel_balance ..
  · exact (setChannel_balance ..).trans ((offer_balance ..).trans (setChannel_balance ..))

theorem Sound.clearChannel (h : Sound s t) (c : Fin 4) : Sound s (t.clearChannel c) :=
  .ite (h.setChannel c _) (((h.setChannel c _).offer _).setChannel c _)

theorem Keeps.clearChannel (h : Keeps s t) (c : Fin 4) : Keeps s (t.clearChannel c) :=
  h.of_channel ((Sound.refl t).clearChannel c) (t.clearChannel_balance c) (by simp) (by simp) (t.clearChannel_duty c) fun hd => by
    obtain ⟨hman, htgt, hout, hused, hnone, -, hoff⟩ := hd.channel c
    refine ⟨hman, htgt, hout, ?_, ?_, nofun, fun ho => ⟨(hoff ho).1, (hoff ho).2.1, rfl⟩⟩
    · dsimp only; split <;> omega
    · dsimp only; split
      next hb => simpa using hnone.mp hb
      · simp

theorem Keeps.stallNotice (h : Keeps s t) (i : Fin 16) : Keeps s (t.stallNotice i) :=
  h.foldl _ _ fun _ c hu => .ite (hu.stallChannel c) hu

theorem Keeps.clearNotice (h : Keeps s t) (i : Fin 16) : Keeps s (t.clearNotice i) :=
  h.foldl _ _ fun _ c hu => .ite (hu.clearChannel c) hu

theorem Keeps.retachChannel (h : Keeps s t) (c : Fin 4) : Keeps s (t.retachChannel c) := by
  dsimp only [State.retachChannel]
  generalize ((t.tachOf c).map fun i => (t.inputs[i]).stalled).getD false = stalled
  have hset : Keeps s (t.setChannel c
      { t.duty.channels[c] with stalled := stalled, burst := .none, used := 0, handed := false }) :=
    h.setChannel fun hd => by
      obtain ⟨hman, htgt, hout, -, -, -, hoff⟩ := hd.channel c
      exact ⟨hman, htgt, hout, Nat.zero_le 3, by simp, nofun, fun ho => ⟨(hoff ho).1, (hoff ho).2.1, rfl⟩⟩
  split
  next hb => exact hset.beginEpisode (by rw [setChannel_duty, withChannel_same]; exact hb.2.2)
  · exact hset

/-! ### The ramp tick (R147–R150) -/

theorem adaptiveDuty_le (start : Int) (slope : Nat) (smooth : Int) : adaptiveDuty start slope smooth ≤ 255 := by
  unfold adaptiveDuty; dsimp only; split <;> omega

theorem askedDuty_le (h : s.DutyLaw) (c : Fin 4) : s.askedDuty c ≤ 255 := by
  obtain ⟨hmin, hfall⟩ := h.1.2.2 c
  obtain ⟨hman, -⟩ := h.channel c
  dsimp only [askedDuty]; split
  · omega
  · exact hman
  · split
    · exact hfall
    · exact max_le (adaptiveDuty_le ..) hmin

theorem targetDuty_le (h : s.DutyLaw) (c : Fin 4) : s.targetDuty c ≤ 255 := by
  have := askedDuty_le h c
  unfold targetDuty; split <;> omega

theorem targetDuty_of_off {c : Fin 4} (h : (s.duty.channels[c]).mode = .off) : s.targetDuty c = 0 := by
  unfold targetDuty; rw [h]

/-- An output moves toward its target and no farther (R149). -/
theorem rampTo_between (step output target : Nat) :
    min output target ≤ rampTo step output target ∧ rampTo step output target ≤ max output target := by
  unfold rampTo; split <;> omega

theorem tickedOutput_le (h : s.DutyLaw) (c : Fin 4) : s.tickedOutput c ≤ 255 := by
  have htgt := targetDuty_le h c
  obtain ⟨-, -, hout, -⟩ := h.channel c
  have hramp := rampTo_between (s.settings.channels[c]).step (s.duty.channels[c]).output (s.targetDuty c)
  dsimp only [tickedOutput]; split
  · exact le_rfl
  all_goals split <;> omega

theorem tickedOutput_of_off (h : s.DutyLaw) {c : Fin 4} (hm : (s.duty.channels[c]).mode = .off) : s.tickedOutput c = 0 := by
  obtain ⟨-, -, -, -, -, -, hoff⟩ := h.channel c
  obtain ⟨-, hout, hburst⟩ := hoff hm
  simp only [tickedOutput, hburst, targetDuty_of_off hm, hout]
  simp [rampTo]

theorem Keeps.tickChannel (h : Keeps s t) (c : Fin 4) : Keeps s (t.tickChannel c) :=
  h.setChannel fun hd => by
    obtain ⟨hman, -, -, hused, hnone, hwait, hoff⟩ := hd.channel c
    exact ⟨hman, targetDuty_le hd c, tickedOutput_le hd c, hused, hnone, hwait,
      fun ho => ⟨targetDuty_of_off ho, tickedOutput_of_off hd ho, (hoff ho).2.2⟩⟩

/-- A spacing stands only at a channel that is not in OFF. -/
theorem Keeps.endSpacing (h : Keeps s t) {c : Fin 4} {due : Moment} (hb : (t.duty.channels[c]).burst = .spacing due) :
    Keeps s (t.endSpacing c) := by
  have hm (hd : t.DutyLaw) : (t.duty.channels[c]).mode ≠ .off := fun ho => by
    obtain ⟨-, -, -, -, -, -, hoff⟩ := hd.channel c
    exact nomatch hb.symm.trans (hoff ho).2.2
  dsimp only [State.endSpacing]; split
  next hu =>
    refine .ite (h.nextBurst hm (.inl hu)) (h.setChannel fun hd => ?_)
    obtain ⟨hman, htgt, hout, hused, hnone, -, -⟩ := hd.channel c
    exact ⟨hman, htgt, hout, hused, by rw [hb] at hnone; simpa using hnone, fun _ => Nat.le_of_lt_succ hu, fun ho => absurd ho (hm hd)⟩
  · refine ((h.setChannel fun hd => ?_).offer _).raiseCause _
    obtain ⟨hman, htgt, hout, hused, hnone, -, -⟩ := hd.channel c
    exact ⟨hman, htgt, hout, hused, by rw [hb] at hnone; simpa using hnone, nofun, fun ho => absurd ho (hm hd)⟩

end Sys2Proof.Machine.State
end

section
/-! PROOFS. The watches, the ends of steps, the bus controller, the visit machine and the contact inputs: what their
operations keep (chapters 2, 3, 4 and 6). -/

namespace Sys2Proof.Machine.State

variable {s t u : State}

/-! ## The Watch Unit (chapter 4) -/

theorem Keeps.showWatch (h : Keeps s t) (n : Fin 64) : Keeps s (t.showWatch n) :=
  (h.pokes fun _ a h1 h2 => not_hostWord_of_watchWord (n := n) (by
    simp only [List.length_cons, List.length_nil] at h2; exact ⟨by omega, by omega⟩)).poke
    (fun _ => not_hostWord_of_watchWord (n := n) ⟨le_rfl, by omega⟩) _

theorem Keeps.putWatch (h : Keeps s t) (n : Fin 64) (w : Watch) : Keeps s (t.putWatch n w) := (h.setWatches _).showWatch n

theorem Keeps.gradeChange (h : Keeps s t) (n : Fin 64) (old : Grade) (d : WatchDef) (c : GradeCause) :
    Keeps s (t.gradeChange n old d c) := by
  dsimp only [State.gradeChange]
  have hoffer := h.offer (gradeRecord n old t.watches[n] c)
  have htrigger := Keeps.ite (p := old.severity < (t.watches[n]).grade.severity)
    (hoffer.offerTriggerTo d.worsenList .grade) hoffer
  have hcause := Keeps.ite (p := d.wakes (t.watches[n]).grade = true) (htrigger.raiseCause .grade) htrigger
  exact .ite (hcause.recomputeShed _) hcause

theorem Keeps.regrade (h : Keeps s t) (n : Fin 64) (w : Watch) (d : WatchDef) (c : GradeCause) :
    Keeps s (t.regrade n w d c) :=
  .ite (h.putWatch n w) ((h.putWatch n w).gradeChange n _ d c)

theorem Keeps.definitionFault (h : Keeps s t) (n : Fin 64) (d : WatchDef) : Keeps s (t.definitionFault n d) :=
  .ite h (h.regrade ..)

theorem Keeps.evaluate (h : Keeps s t) (n : Fin 64) (d : WatchDef) (e : Int) (raw : Option Int) :
    Keeps s (t.evaluate n d e raw) := h.regrade ..

theorem Keeps.deliver (h : Keeps s t) (n : Fin 64) (wide : Bool) (v : Nat) : Keeps s (t.deliver n wide v).1 := by
  dsimp only [State.deliver]; split
  · split
    · exact h.definitionFault ..
    · exact h.evaluate ..
  · exact h

theorem Keeps.shedNotice (h : Keeps s t) (n : Fin 64) (c : ShedCause) : Keeps s (t.shedNotice n c) :=
  .ite (h.recomputeShed c) h

theorem Keeps.armWatch (h : Keeps s t) (n : Fin 64) : Keeps s (t.armWatch n).1 := by
  unfold State.armWatch; split
  · exact h
  · exact (h.putWatch ..).shedNotice ..

theorem Keeps.disarmWatch (h : Keeps s t) (n : Fin 64) : Keeps s (t.disarmWatch n).1 := (h.putWatch ..).shedNotice ..

theorem Keeps.feedWatch (h : Keeps s t) (n : Fin 64) (v : Int) : Keeps s (t.feedWatch n v).1 := by
  dsimp only [State.feedWatch]; split
  · split
    · exact h.definitionFault ..
    · exact h.evaluate ..
  · exact h

theorem Keeps.checkFresh (h : Keeps s t) (n : Fin 64) : Keeps s (t.checkFresh n) := .ite (h.regrade ..) h

/-! ## The ends of steps (chapter 2) -/

theorem Keeps.mapCtx (h : Keeps s t) (f : Ctx → Ctx) : Keeps s (t.setCtx (t.engine.ctx.map f)) := h.setCtx (by simp)

theorem Keeps.setPhase (h : Keeps s t) (p : Phase) : Keeps s (t.setPhase p) := h.mapCtx _

theorem Keeps.deliverTo (h : Keeps s t) (w : Option (Fin 64)) (o : StepOutcome) (wide : Bool) (v : Nat) :
    Keeps s (t.deliverTo w o wide v).1 := by
  unfold State.deliverTo; split
  · split
    · exact h.deliver ..
    · exact h
  · exact h

theorem Keeps.readComplete (h : Keeps s t) (st : ReadStep) (o : StepOutcome) (v : Nat) :
    Keeps s (t.readComplete st o v) :=
  Keeps.finishStep (.ite ((h.deliverTo ..).offer _) (h.deliverTo ..)) _ _

theorem Keeps.readResult (h : Keeps s t) (st : ReadStep) (n : Nat) (o : StepOutcome) (v : Nat) :
    Keeps s (t.readResult st n o v) := .ite (h.setPhase _) (h.readComplete ..)

theorem Keeps.plainResult (h : Keeps s t) (own : OwnEnd) (a : Nat) (r : BusResult) : Keeps s (t.plainResult own a r) := by
  unfold State.plainResult
  cases r <;> first | exact h.finishStep .. | exact h

theorem Keeps.stepResult (h : Keeps s t) (step : BusStep) (r : BusResult) : Keeps s (t.stepResult step r) := by
  unfold State.stepResult
  cases step with
  | read st n => cases r <;> first | exact h.readResult .. | exact h
  | block st => cases r <;> first | exact (h.offer _).finishStep .. | exact h
  | write st => exact h.plainResult ..
  | control st => exact h.plainResult ..
  | statusPoll i => cases r <;> first | exact (h.offer _).finishStep .. | exact h
  | rollCall => cases r <;> first | exact (h.offer _).finishStep .. | exact h
  | sampleAll => exact h.plainResult ..
  | clear => exact h.plainResult ..

theorem Keeps.busResult (h : Keeps s t) (r : BusResult) : Keeps s (t.busResult r) := by
  unfold State.busResult; split
  · split
    · exact h.stepResult ..
    all_goals exact h
  · exact h

/-! ## The bus controller (chapter 3) -/

theorem Keeps.reportStation (h : Keeps s t) (i : Fin 30) (old : StationState) (c : Nat) :
    Keeps s (t.reportStation i old c) := (h.offer _).raiseCause _

theorem Keeps.heard (h : Keeps s t) (i : Fin 30) (how : Exchange) : Keeps s (t.heard i how) := by
  dsimp only [State.heard]; split
  · split
    · exact (h.setStation ..).reportStation ..
    · exact ((h.setStation ..).setFreeIdx _).reportStation ..
  · exact h.setStation ..

theorem Keeps.silence (h : Keeps s t) (i : Fin 30) (how : Exchange) : Keeps s (t.silence i how) :=
  .ite ((h.setStation ..).reportStation ..) (h.setStation ..)

theorem Keeps.attend (h : Keeps s t) (i : Fin 30) : Keeps s (t.attend i) :=
  .ite h ((h.setStation ..).offerTriggerTo ..)

theorem Keeps.statusByte (h : Keeps s t) (i : Fin 30) (b : Nat) : Keeps s (t.statusByte i b) :=
  .ite ((h.setStation ..).attend i) ((h.setStation ..).setStation ..)

theorem Keeps.reexamine (h : Keeps s t) (i : Fin 30) : Keeps s (t.reexamine i) :=
  .ite ((h.setStation ..).reportStation ..) h

theorem Keeps.takeWork (h : Keeps s t) (w : Work) : Keeps s (t.takeWork w) :=
  .ite ((h.setBus _).setCtl _) (.ite (h.busResult _) (.ite (h.busResult _) (h.setCtl _)))

theorem Keeps.takeWaiting (h : Keeps s t) : Keeps s t.takeWaiting := by
  unfold State.takeWaiting; split
  · split
    · exact .ite (h.setCtl _) ((h.setBus _).setCtl _)
    · split
      · exact (h.setBus _).takeWork _
      · exact h
  all_goals exact h

theorem Keeps.enterIdle (h : Keeps s t) : Keeps s t.enterIdle := (h.setCtl _).takeWaiting

theorem Keeps.handWork (h : Keeps s t) (w : Work) : Keeps s (t.handWork w) := (h.setBus _).takeWaiting

theorem Keeps.makePending (h : Keeps s t) (b : VisitBroadcast) : Keeps s (t.makePending b) := (h.setBus _).takeWaiting

theorem Keeps.strayBegins (h : Keeps s t) : Keeps s t.strayBegins := by
  dsimp only [State.strayBegins]; split
  · exact (h.setBus _).setCtl _
  · exact (h.setBus _).setCtl _
  · exact h.setBus _
  · exact h.setBus _
  all_goals exact h

theorem Keeps.strayEnds (h : Keeps s t) : Keeps s t.strayEnds := by
  have hend : Keeps s ((t.setBus { t.bus with strayArriving := false }).countStray) := (h.setBus _).setCounts _
  dsimp only [State.strayEnds]; split
  · exact hend.setCtl _
  · exact hend.setCtl _
  · exact hend
  · exact hend
  all_goals exact h

theorem Keeps.judged (h : Keeps s t) (a : Awaited) (bits : List Bool) : Keeps s (t.judged a bits).1 := by
  unfold State.judged; split
  · exact (h.setStation ..).setCounts _
  · exact ((h.offer _).setStation ..).setCounts _
  · have hheard : Keeps s (t.heard a.station .transaction).countGood := (h.heard ..).setCounts _
    exact .ite (.ite (hheard.statusByte ..) hheard) (.ite (hheard.attend _) hheard)

theorem Keeps.endBlock (h : Keeps s t) (e : BlockEnding) (ws : List Nat) : Keeps s (t.endBlock e ws) := by
  have hdrain : Keeps s (t.startDrain.busResult (.block e ws)) := (h.setCtl _).busResult _
  have hidle := h.enterIdle.busResult (.block e ws)
  unfold State.endBlock; split
  · exact hdrain
  · exact hdrain
  · exact hdrain
  all_goals exact hidle

theorem Keeps.blockReply (h : Keeps s t) (b : BlockRead) (n : Nat) (ws : List Nat) (bits : List Bool) :
    Keeps s (t.blockReply b n ws bits) := by
  have hjudged := h.judged b.awaits bits
  dsimp only [State.blockReply]; split
  · exact hjudged.endBlock ..
  · exact hjudged.endBlock ..
  · exact hjudged.endBlock ..
  · exact hjudged.endBlock ..
  · exact .ite (hjudged.endBlock ..) (.ite (hjudged.endBlock ..) (.ite (hjudged.endBlock ..) (hjudged.setCtl _)))
  all_goals exact hjudged

/-! ## The visit machine (R134–R138) -/

theorem Keeps.offerVisit (h : Keeps s t) (e : VisitEvent) : Keeps s (t.offerVisit e) := h.offer _

theorem Keeps.visitBegin (h : Keeps s t) (i : Fin 16) (st : Stamp) : Keeps s (t.visitBegin i st) :=
  ((((h.setVisitState _).offerVisit _).raiseCause _).offerTriggerTo _ _).makePending _

theorem Keeps.visitEnding (h : Keeps s t) : Keeps s t.visitEnding := (h.setVisitState _).makePending _

theorem Keeps.visitAbort (h : Keeps s t) : Keeps s t.visitAbort := ((h.setBus _).setVisitState _).offerVisit _

theorem Keeps.visitActive (h : Keeps s t) (i : Fin 16) (st : Stamp) : Keeps s (t.visitActive i st) := by
  unfold State.visitActive; split
  · exact h.visitBegin i st
  · exact h
  · exact h
  · exact h.setVisitState _
  · exact (h.setBus _).setVisitState _

theorem Keeps.visitInactive (h : Keeps s t) : Keeps s t.visitInactive := by
  unfold State.visitInactive; split
  · exact h
  · exact h
  · exact h
  · exact h.visitAbort
  · exact .ite h.visitEnding (h.setVisitState _)

theorem Keeps.visitForcedEnd (h : Keeps s t) : Keeps s t.visitForcedEnd := by
  unfold State.visitForcedEnd; split
  · exact h
  · exact h
  · exact h.visitAbort
  · exact h.visitEnding
  · exact h.visitEnding

theorem Keeps.visitReport (h : Keeps s t) (b : VisitBroadcast) : Keeps s (t.visitReport b) := by
  unfold State.visitReport; split
  · exact h.makePending _
  · exact h.setVisitState _
  · exact h
  · exact h
  · exact h
  · exact h
  · exact h
  · exact h.makePending _
  · exact h.makePending _
  · exact ((h.setVisitState _).offerVisit _).raiseCause _

theorem Keeps.visitSent (h : Keeps s t) (b : VisitBroadcast) : Keeps s (t.visitSent b) :=
  ((((h.setCtl _).setCounts _).visitReport b)).takeWaiting

/-! ## The contact inputs (R123–R133) -/

theorem Keeps.writeStatus (h : Keeps s t) (i : Fin 16) (n : Nat) : Keeps s (t.writeStatus i n) :=
  h.poke (fun _ => not_hostWord_of_inputWord (i := i) ⟨le_rfl, by omega⟩) _

theorem Keeps.pokeInput (h : Keeps s t) (i : Fin 16) {k : Nat} (hk : k ≤ 3) (v : Word) : Keeps s (t.poke (inputAddr i + k) v) :=
  h.poke (fun _ => not_hostWord_of_inputWord (i := i) ⟨by omega, by omega⟩) _

theorem Keeps.setInputAt (h : Keeps s t) (i : Fin 16) (x : Input) : Keeps s (t.setInputAt i x) := h.setInputs _

theorem Keeps.refreshStatus (h : Keeps s t) (i : Fin 16) : Keeps s (t.refreshStatus i) := h.writeStatus ..

theorem Keeps.putInput (h : Keeps s t) (i : Fin 16) (x : Input) : Keeps s (t.putInput i x) :=
  .ite (h.setInputAt i x) ((h.setInputAt i x).refreshStatus i)

theorem Keeps.putPeriod (h : Keeps s t) (i : Fin 16) (x : Input) : Keeps s (t.putPeriod i x) :=
  ((h.setInputAt i x).pokeInput i (by decide) _).refreshStatus i

theorem edgeCode_le (active : Bool) : edgeCode active ≤ 1 := by cases active <;> decide

theorem Keeps.countEdge (h : Keeps s t) (i : Fin 16) (active : Bool) : Keeps s (t.countEdge i active) := by
  have hcode := edgeCode_le active
  refine .ite ((((h.setInputAt i _).poke (fun _ => ?_) _)).writeStatus i _) ((h.setInputAt i _).writeStatus i _)
  exact not_hostWord_of_inputWord (i := i) ⟨by omega, by omega⟩

theorem Keeps.contactEdge (h : Keeps s t) (i : Fin 16) (active : Bool) : Keeps s (t.contactEdge i active) := by
  dsimp only [State.contactEdge]
  have hcount := h.countEdge i active
  have hrecord := Keeps.ite (p := (t.settings.inputs[i]).recordEdges.has active = true)
    (hcount.offer (edgeRecord i active t.time.timestamp)) hcount
  have hwake := Keeps.ite (p := (t.settings.inputs[i]).wakeEdges.has active = true) (hrecord.raiseCause .edge) hrecord
  have htrigger := Keeps.ite (p := (t.settings.inputs[i]).triggerEdge.has active = true)
    (hwake.offerTriggerTo (t.settings.inputs[i]).triggerList .edge) hwake
  exact .ite (.ite (htrigger.visitActive ..) htrigger.visitInactive) htrigger

theorem Keeps.endFirstWindow (h : Keeps s t) (i : Fin 16) : Keeps s (t.endFirstWindow i) := h.putInput ..

theorem Keeps.beginFirstWindow (h : Keeps s t) (i : Fin 16) : Keeps s (t.beginFirstWindow i) :=
  .ite (h.endFirstWindow i) (h.putInput ..)

theorem Keeps.settleEvent (h : Keeps s t) (i : Fin 16) : Keeps s (t.settleEvent i) := by
  unfold State.settleEvent; split
  · exact h.visitActive i _
  · exact h

theorem Keeps.settleInput (h : Keeps s t) (i : Fin 16) (tached : Bool) : Keeps s (t.settleInput i tached) := by
  dsimp only [State.settleInput]
  have hperiod := Keeps.ite (p := tached = true) (h.pokeInput i (k := 1) (by decide) 0) h
  refine .ite (Keeps.clearNotice ?_ i) ?_
  all_goals
    split
    · exact h.putPeriod i _
    · exact (hperiod.putInput i _).beginFirstWindow i

theorem Keeps.disableInput (h : Keeps s t) (i : Fin 16) (tached : Bool) : Keeps s (t.disableInput i tached) := by
  dsimp only [State.disableInput]
  have hperiod := Keeps.ite (p := tached = true) (h.pokeInput i (k := 1) (by decide) 0) h
  exact .ite ((hperiod.putInput ..).clearNotice i) (hperiod.putInput ..)

theorem Keeps.tachEdge (h : Keeps s t) (i : Fin 16) : Keeps s (t.tachEdge i) := by
  dsimp only [State.tachEdge]; split
  · exact .ite ((h.putPeriod ..).clearNotice i) (h.putPeriod ..)
  · exact h.putInput ..

theorem Keeps.compareStall (h : Keeps s t) (i : Fin 16) : Keeps s (t.compareStall i) := by
  dsimp only [State.compareStall]; split
  · exact .ite ((h.putPeriod ..).stallNotice i) h
  · exact h

theorem Keeps.setRaw (h : Keeps s t) (i : Fin 16) (high : Bool) : Keeps s (t.setRaw i high) := h.setInputAt ..

theorem Keeps.contactRaw (h : Keeps s t) (i : Fin 16) : Keeps s (t.contactRaw i) :=
  .ite ((h.beginFirstWindow i).settleEvent i)
    (.ite (h.putInput ..) (.ite (h.contactEdge ..) (h.putInput ..)))

theorem Keeps.endWindow (h : Keeps s t) (i : Fin 16) : Keeps s (t.endWindow i) := .ite (h.putInput ..) (h.contactEdge ..)

theorem Keeps.tachRaw (h : Keeps s t) (i : Fin 16) : Keeps s (t.tachRaw i) := .ite (h.tachEdge i) (h.putInput ..)

/-! ## Roll calls (R61, R62) -/

theorem Keeps.takeSlotReading (h : Keeps s t) (i : Fin 30) (r : SlotReading) : Keeps s (t.takeSlotReading i r) := by
  cases r with
  | presence attention => exact .ite ((h.heard ..).attend i) (h.heard ..)
  | noAnswer => exact h.silence ..
  | garbled => exact (h.setStation ..).setCounts _

theorem Keeps.passSlot (h : Keeps s t) (i : Fin 30) (p a : Word) (r : SlotReading) : Keeps s (t.passSlot i p a r) := by
  dsimp only [State.passSlot]; split
  · exact (h.takeSlotReading i r).setCtl _
  · exact (((h.takeSlotReading i r).setCounts _).enterIdle).busResult _

theorem Keeps.replyBegins (h : Keeps s t) : Keeps s t.replyBegins := by
  unfold State.replyBegins; split
  · exact h.setCtl _
  · exact h.setCtl _
  all_goals exact h.strayBegins

/-! ## Steps (chapter 2) -/

theorem Keeps.badStep (h : Keeps s t) (c : Ctx) : Keeps s (t.badStep c) := h.showRunning.endRun ..

/-- A step keeps what its body keeps; the body takes the state in which the step is counted, with a list running. -/
theorem Keeps.atStep (h : Keeps s t) {α : Type} (k : StepKind) (fields : Ctx → Word → Word → Word → Option α)
    {body : α → Ctx → State → State} (hbody : ∀ f c u, Keeps s u → Keeps s (body f c u)) :
    Keeps s (atStep k fields body t) := by
  unfold State.atStep; split
  next c hc =>
    split
    · split
      · exact h.badStep c
      · split
        · split
          · exact h.badStep c
          · exact hbody _ _ _ (Keeps.showRunning (h.setCtx (by simp [hc])))
        · exact h
    · exact h
  · exact h

theorem Keeps.handStep (h : Keeps s t) (step : BusStep) (w : Work) : Keeps s (t.handStep step w) :=
  (h.setPhase _).handWork w

theorem Keeps.localValue (h : Keeps s t) (src : LocalSource) : Keeps s (t.localValue src).2 := by
  cases src with
  | tach i => exact h
  | output c => exact h
  | count i => exact (h.setInputAt ..).refreshStatus i

theorem Keeps.sampleLocal (h : Keeps s t) (st : LocalStep) (a : Nat) : Keeps s (t.sampleLocal st a) := by
  have hgo := (h.localValue st.source).deliverTo st.watch .done false (t.localValue st.source).1
  dsimp only [State.sampleLocal]
  split
  · exact (hgo.offer _).finishStep _ _
  · exact hgo.finishStep _ _

theorem Keeps.raiseStep (h : Keeps s t) (code : Nat) (c : Ctx) : Keeps s (t.raiseStep code c) :=
  ((h.offer _).pokeStatus (by decide) (by decide) _).raiseCause _

theorem Keeps.loopStep (h : Keeps s t) (m : Nat × Nat) (c : Ctx) : Keeps s (t.loopStep m c) :=
  .ite (h.finishStep ..) ((h.mapCtx _).finishStep ..)

end Sys2Proof.Machine.State
end

section
/-! PROOFS. The settings apply, the request kinds and the timers: what their operations keep (chapters 8 and 9); and what every
command keeps that is no reset's and no host access. -/

namespace Sys2Proof.Machine

/-! ## A settings block that passes its checks (R179) -/

theorem test_of_firstBadField_none {m : Memory} (h : firstBadField m = none) {p : Nat × Bool} (hp : p ∈ settingsTests m) :
    p.2 = true := by
  simp only [firstBadField, Option.map_eq_none_iff, List.find?_eq_none] at h
  simpa using h p hp

/-- The geometry of a block that passes its checks lies in the collection region (R102). -/
theorem blockSettings_geometry {m : Memory} (h : firstBadField m = none) :
    0x2000 ≤ (blockSettings m).base ∧ 1 ≤ (blockSettings m).count ∧ (blockSettings m).count ≤ 16 ∧
      300 ≤ (blockSettings m).size ∧
      (blockSettings m).base + (blockSettings m).count * (blockSettings m).size ≤ 0x8000 := by
  have hall : ∀ p ∈ settingsTests m, p.2 = true := fun _ hp => test_of_firstBadField_none h hp
  simp only [settingsTests, List.forall_mem_append, List.forall_mem_cons] at hall
  obtain ⟨⟨⟨-, h34, h35, h36, -⟩, -⟩, -⟩ := hall
  simp only [decide_eq_true_eq] at h34 h35
  simp only [h34, h35, and_self, decide_true, Bool.and_true, Bool.and_eq_true, Bool.not_true, Bool.false_or, decide_eq_true_eq] at h36
  exact ⟨h34.1, h35.1, h35.2, h36.1.1, h36.2⟩

theorem field_le_byte (w : Word) (lo : Nat) : field w lo 8 ≤ 255 := Nat.le_of_lt_succ (Nat.mod_lt _ (by decide))

/-- The duties of a settings block are bytes (R142, R143). -/
theorem blockSettings_duties (m : Memory) : State.DutySettingsOk (blockSettings m) := by
  refine ⟨field_le_byte _ _, field_le_byte _ _, fun c => ?_⟩
  simp only [blockSettings, Fin.getElem_fin, Vector.getElem_ofFn, blockChannel]
  exact ⟨field_le_byte _ _, field_le_byte _ _⟩

namespace State

variable {s t u : State}

/-! ## The settings apply (R180) -/

/-- Settings come in force, and the line is judged by their masks. -/
theorem Keeps.takeSettings (h : Keeps s t) {new : Settings} (hg : (t.setSettings new).GeometryOk) (hd : DutySettingsOk new) :
    Keeps s (t.setSettings new).judge :=
  h.trans
    { pending := rfl
      power := rfl
      wf := id
      region := fun _ => hg.1
      host := fun _ _ _ => rfl
      geometry := fun _ => hg
      line := fun _ => judge_line _
      count := id
      engine := id
      duty := fun hl => ⟨hd, hl.2⟩ }

theorem Keeps.applyCollection (h : Keeps s t) (old : Settings) : Keeps s (t.applyCollection old) :=
  .ite h.restartCollection (.ite h.closeByAge h)

theorem Keeps.applyBus (h : Keeps s t) (old : Settings) : Keeps s (t.applyBus old) :=
  .ite (h.foldl _ _ fun _ i hu => hu.reexamine i) h

theorem Keeps.applyEnable (h : Keeps s t) (old : Settings) (i : Fin 16) : Keeps s (applyEnable old t i) :=
  .ite (h.settleInput ..) (.ite (h.disableInput ..) h)

theorem Keeps.applyStallTime (h : Keeps s t) (old : Settings) (i : Fin 16) : Keeps s (applyStallTime old t i) :=
  .ite (h.compareStall i) h

theorem Keeps.applySettleEvent (h : Keeps s t) (old : Settings) : Keeps s (t.applySettleEvent old) := by
  unfold State.applySettleEvent; split
  · exact .ite (h.settleEvent _) h
  · exact h

theorem Keeps.applyInputs (h : Keeps s t) (old : Settings) : Keeps s (t.applyInputs old) := by
  have hinputs := (h.foldl (State.applyEnable old) (List.finRange 16) fun _ i hu => hu.applyEnable old i).foldl
    (State.applyStallTime old) (List.finRange 16) fun _ i hu => hu.applyStallTime old i
  exact Keeps.applySettleEvent (.ite hinputs.visitForcedEnd hinputs) old

theorem Keeps.applyChannels (h : Keeps s t) (old : Settings) : Keeps s (t.applyChannels old) :=
  h.foldl _ _ fun _ c hu => .ite (hu.retachChannel c) hu

theorem Keeps.acceptSettings (h : Keeps s t) {new : Settings} (hg : (t.setSettings new).GeometryOk)
    (hd : DutySettingsOk new) : Keeps s (t.acceptSettings new) :=
  ((((((h.takeSettings hg hd).applyCollection _).applyBus _).applyInputs _).applyChannels _).setTime _).recomputeShed _

theorem Keeps.applySettings (h : Keeps s t) : Keeps s t.applySettings.1 := by
  dsimp only [State.applySettings]; split
  · exact h
  next hgood =>
    split
    · exact h
    · exact h.acceptSettings (blockSettings_geometry hgood) (blockSettings_duties _)

/-! ## The request kinds (R181–R187) -/

theorem Keeps.cutRun (h : Keeps s t) (r : Taken) {c : Ctx} (hc : t.engine.ctx = some c) : Keeps s (t.cutRun r c) := by
  have hcut : Keeps s (t.setEngine { t.engine with cuts := t.engine.cuts + 1, ctx := some { c with cut := true } }) :=
    h.of_engine ((Sound.refl t).setEngine _) id
      (fun he => (he.setCtx (c := some { c with cut := true }) (by simp [hc]) : State.EngineLaws (t.setCtx _))) rfl rfl
  dsimp only [State.cutRun]; split
  · exact (hcut.holdInFlight r .cut).finishStep ..
  · exact (hcut.holdInFlight r .cut).readComplete ..
  · exact (hcut.holdInFlight r .cut).endRun ..
  · exact hcut.holdInFlight r .cut

theorem Keeps.cutList (h : Keeps s t) (r : Taken) : Keeps s (t.cutList r).1 := by
  dsimp only [State.cutList]
  have hqueue := Keeps.ite (p := t.engine.queue.any (·.list = r.list) = true)
    (h.filterQueue fun e => e.list ≠ r.list) h
  split
  next c hc =>
    split
    · exact hqueue.cutRun r hc
    · exact hqueue
  · exact hqueue

theorem Keeps.holdEngine (h : Keeps s t) (r : Taken) : Keeps s (t.holdEngine r).1 := by
  have hpend (n : Nat) : Keeps s (t.setEngine { t.engine with holds := n }) :=
    h.of_engine ((Sound.refl t).setEngine _) id id rfl rfl
  dsimp only [State.holdEngine]; split
  next hm =>
    exact h.of_engine ((Sound.refl t).setMode _) (CountLaw.of_eq (by simp))
      (fun he => .of_rest (QueueLaw.of_eq (by simp [setMode_engine]) he.1) (.inl (by simp [setMode_engine]))
        (by simp [setMode_engine, he.ctx_of_idle hm])) (by simp) (by simp)
  next hm =>
    refine ((hpend _).holdInFlight r .hold).of_engine ((Sound.refl _).setMode _) (CountLaw.of_eq (by simp)) (fun he => ?_)
      (by simp) (by simp)
    obtain ⟨c, hc⟩ := Option.isSome_iff_exists.mp (he.2.1.mp (.inl hm))
    exact .of_running (c := c) (QueueLaw.of_eq (by simp [setMode_engine]) he.1) (.inr (by simp [setMode_engine]))
      (by simpa [setMode_engine] using hc)
  · exact (hpend _).holdInFlight r .hold
  · exact h

theorem Keeps.resumeEngine (h : Keeps s t) : Keeps s t.resumeEngine.1 := by
  unfold State.resumeEngine; split
  next hm => exact h.startNext fun he => by simpa [hm] using he.2.1
  next hm =>
    refine Keeps.completeHeld (h.of_engine (((Sound.refl t).setEngine _).setMode _) (CountLaw.of_eq (by simp)) (fun he => ?_)
      (by simp) (by simp)) _ _ _
    obtain ⟨c, hc⟩ := Option.isSome_iff_exists.mp (he.2.1.mp (.inr hm))
    exact .of_running (c := c) (QueueLaw.of_eq (by simp [setMode_engine]) he.1) (.inl (by simp [setMode_engine]))
      (by simpa [setMode_engine] using hc)
  · exact h
  · exact h

theorem Keeps.closeCollection (h : Keeps s t) : Keeps s t.closeCollection.1 := by
  unfold State.closeCollection; split
  · exact h.closeFilling _
  · exact h
  · exact h

theorem Keeps.restartRequest (h : Keeps s t) : Keeps s t.restartRequest.1 := by
  unfold State.restartRequest; split
  · exact h.restartCollection
  · exact h.restartCollection
  · exact h
  · exact h

theorem Keeps.setClock (h : Keeps s t) (v : Word) : Keeps s (t.setClock v).1 := ((h.setTime _).showTimestamp).offer _

theorem dutyChannel_law {ch : Channel} (h : ch.Law) (mode duty : Nat) : (dutyChannel ch mode duty).Law := by
  obtain ⟨hman, htgt, hout, hused, hnone, hwait, -⟩ := h
  unfold dutyChannel; split
  · exact ⟨hman, Nat.zero_le _, Nat.zero_le _, Nat.zero_le _, by simp, nofun, fun _ => ⟨rfl, rfl, rfl⟩⟩
  · exact ⟨Nat.min_le_right _ _, htgt, hout, hused, hnone, hwait, nofun⟩
  · exact ⟨hman, htgt, hout, hused, hnone, hwait, nofun⟩

theorem Keeps.setDutyMode (h : Keeps s t) (r : Taken) : Keeps s (t.setDutyMode r).1 :=
  h.setChannel fun hd => dutyChannel_law (hd.channel _) _ _

theorem Keeps.forgetStations (h : Keeps s t) (l : List (Fin 30)) : Keeps s (t.forgetStations l).1 :=
  h.foldl _ _ fun _ _ hu => hu.setStation ..

theorem Keeps.programIdent (h : Keeps s t) (r : Taken) : Keeps s (t.programIdent r).1 := by
  unfold State.programIdent; split
  · exact h
  · split
    · exact h
    · exact (h.setIdent _).holdInFlight r .ident

theorem Keeps.endProgramming (h : Keeps s t) (p : Programming) (route : BitVec 16) (hut : BitVec 12) :
    Keeps s (t.endProgramming p route hut) :=
  .ite (((h.setIdent _).setIdent _).showIdent.completeHeld ..) ((h.setIdent _).completeHeld ..)

/-! ## The Time Base (R161–R165) -/

theorem Keeps.wrapTime (h : Keeps s t) : Keeps s t.wrapTime :=
  (((h.setTime _).setTime _).showTimestamp.showWrapCount).offer _

theorem Keeps.advanceTime (h : Keeps s t) : Keeps s t.advanceTime :=
  .ite h.wrapTime ((h.setTime _).setTime _).showTimestamp

theorem Keeps.whenReady (h : Keeps s t) {f : State → State} (hf : Keeps s (f t)) : Keeps s (t.whenReady f) := .ite hf h

theorem Keeps.whenDue (h : Keeps s t) (m : Moment) {f : State → State} (hf : Keeps s (f t)) : Keeps s (t.whenDue m f) :=
  .ite hf h

theorem Keeps.beginSeries (h : Keeps s t) (n : Fin 4) : Keeps s (t.beginSeries n) := by
  unfold State.beginSeries; split
  · exact h.whenDue _ (h.setTime _)
  · exact h
  · exact h

theorem Keeps.offerSeries (h : Keeps s t) (n : Fin 4) (k : Nat) : Keeps s (t.offerSeries n k) :=
  (h.setTime _).foldl _ _ fun _ l hu => hu.offerTrigger l _

end State
end Sys2Proof.Machine
end

section
/-! PROOFS. What every command keeps that is no reset's and no host access to exchange memory. -/

namespace Sys2Proof.Machine

/-- The commands of the blocks: neither a reset's nor a host access to exchange memory. -/
def blockCommand : Instr → Bool
  | .powerOn | .brownOut | .supplyRestored | .memoryClearDone | .hardResetAssert | .hardResetRelease | .softReset
  | .deferredResetBegin | .hostWordAccess _ _ => false
  | _ => true

namespace State

variable {s t u : State}

theorem Keeps.atReadyStep (s : State) {α : Type} (k : StepKind) (fields : Ctx → Word → Word → Word → Option α)
    {body : α → Ctx → State → State} (hbody : ∀ f c u, Keeps s u → Keeps s (body f c u)) :
    Keeps s (s.whenReady (State.atStep k fields body)) :=
  (Keeps.refl s).whenReady ((Keeps.refl s).atStep k fields hbody)

theorem Keeps.carryOutReady (s : State) (k : ReqKind) {work : Taken → State → Carried}
    (hwork : ∀ r u, Keeps s u → Keeps s (work r u).1) : Keeps s (s.whenReady fun s => s.carryOut k work) :=
  (Keeps.refl s).whenReady ((Keeps.refl s).carryOut k hwork)

/-- The commands of the step kinds and their expiries. -/
theorem keeps_of_stepCommand {c : Instr} (hc : c ∈ stepCommands) (s : State) : Answers (exec c s) (Keeps s) := by
  simp only [stepCommands, List.mem_cons, List.not_mem_nil, or_false] at hc
  rcases hc with rfl | rfl | rfl | rfl | rfl | rfl | rfl | rfl | rfl | rfl | rfl | rfl | rfl | rfl | rfl | rfl | rfl
  · exact ⟨_, rfl, .atReadyStep _ _ _ fun _ _ _ h => h.handStep ..⟩
  · exact ⟨_, rfl, .atReadyStep _ _ _ fun _ _ _ h => h.handStep ..⟩
  · exact ⟨_, rfl, .atReadyStep _ _ _ fun _ _ _ h => h.handStep ..⟩
  · exact ⟨_, rfl, .atReadyStep _ _ _ fun _ _ _ h => h.handStep ..⟩
  · exact ⟨_, rfl, .atReadyStep _ _ _ fun _ _ _ h => h.handStep ..⟩
  · exact ⟨_, rfl, .atReadyStep _ _ _ fun _ _ _ h => h.handStep ..⟩
  · exact ⟨_, rfl, .atReadyStep _ _ _ fun _ _ _ h => h.handStep ..⟩
  · exact ⟨_, rfl, .atReadyStep _ _ _ fun _ _ _ h => h.handStep ..⟩
  · exact ⟨_, rfl, .atReadyStep _ _ _ fun _ _ _ h => h.sampleLocal ..⟩
  · exact ⟨_, rfl, .atReadyStep _ _ _ fun _ _ _ h => (h.offer _).finishStep ..⟩
  · exact ⟨_, rfl, .atReadyStep _ _ _ fun _ _ _ h => (h.mapCtx _).finishStep ..⟩
  · exact ⟨_, rfl, .atReadyStep _ _ _ fun _ _ _ h => h.loopStep ..⟩
  · exact ⟨_, rfl, .atReadyStep _ _ _ fun _ _ _ h => h.setPhase _⟩
  · exact ⟨_, rfl, .atReadyStep _ _ _ fun _ _ _ h => (h.raiseStep ..).finishStep ..⟩
  · exact ⟨_, rfl, .atReadyStep _ _ _ fun _ _ _ h => Keeps.finishStep (.ite h (h.closeFilling _)) ..⟩
  · exact ⟨_, rfl, .atReadyStep _ _ _ fun _ _ _ h => (h.offerTrigger ..).finishStep ..⟩
  · exact ⟨_, rfl, .atReadyStep _ _ _ fun _ _ _ h => h.finishStep ..⟩

/-- The commands that carry requests out. -/
theorem keeps_of_requestCommand (k : ReqKind) (s : State) : Answers (exec (requestCommand k) s) (Keeps s) := by
  cases k with
  | settingsApply => exact ⟨_, rfl, .carryOutReady _ _ fun _ _ h => h.applySettings⟩
  | listRun => exact ⟨_, rfl, .carryOutReady _ _ fun _ _ h => h.trigger ..⟩
  | listCut => exact ⟨_, rfl, .carryOutReady _ _ fun _ _ h => h.cutList _⟩
  | engineHold => exact ⟨_, rfl, .carryOutReady _ _ fun _ _ h => h.holdEngine _⟩
  | engineResume => exact ⟨_, rfl, .carryOutReady _ _ fun _ _ h => h.resumeEngine⟩
  | watchArm => exact ⟨_, rfl, .carryOutReady _ _ fun _ _ h => h.armWatch _⟩
  | watchDisarm => exact ⟨_, rfl, .carryOutReady _ _ fun _ _ h => h.disarmWatch _⟩
  | watchFeed => exact ⟨_, rfl, .carryOutReady _ _ fun _ _ h => h.feedWatch ..⟩
  | collectionClose => exact ⟨_, rfl, .carryOutReady _ _ fun _ _ h => h.closeCollection⟩
  | collectionRestart => exact ⟨_, rfl, .carryOutReady _ _ fun _ _ h => h.restartRequest⟩
  | timeSet => exact ⟨_, rfl, .carryOutReady _ _ fun _ _ h => h.setClock _⟩
  | dutySet => exact ⟨_, rfl, .carryOutReady _ _ fun _ _ h => h.setDutyMode _⟩
  | stationForget => exact ⟨_, rfl, .carryOutReady _ _ fun _ _ h => h.forgetStations _⟩
  | identProgram => exact ⟨_, rfl, .carryOutReady _ _ fun _ _ h => h.programIdent _⟩

/-! ## The bus commands -/

theorem commandFrameSent_keeps (s : State) : Answers (exec .commandFrameSent s) (Keeps s) := by
  refine ⟨_, rfl, (Keeps.refl s).whenReady ?_⟩
  have hsent : Keeps s s.countFrame := (Keeps.refl s).setCounts _
  split
  · exact hsent.setCtl _
  · exact hsent.setCtl _
  · exact .refl s

theorem broadcastSent_keeps (s : State) : Answers (exec .broadcastSent s) (Keeps s) := by
  refine ⟨_, rfl, (Keeps.refl s).whenReady ?_⟩
  have hsent : Keeps s s.countFrame := (Keeps.refl s).setCounts _
  split
  · exact hsent.enterIdle.busResult _
  · exact hsent.enterIdle.busResult _
  · exact (Keeps.refl s).visitSent _
  · exact hsent.enterIdle
  · exact .refl s

theorem rollCallFrameSent_keeps (s : State) : Answers (exec .rollCallFrameSent s) (Keeps s) := by
  refine ⟨_, rfl, (Keeps.refl s).whenReady ?_⟩
  have hsent : Keeps s s.countFrame := (Keeps.refl s).setCounts _
  split
  · exact hsent.setCtl _
  · exact .refl s

theorem rollCallSlot_keeps (s : State) (answer : SlotAnswer) : Answers (exec (.rollCallSlot answer) s) (Keeps s) := by
  refine ⟨_, rfl, (Keeps.refl s).whenReady ?_⟩
  split
  · exact (Keeps.refl s).passSlot ..
  all_goals exact .refl s

theorem replyEnd_keeps (s : State) (bits : List Bool) : Answers (exec (.replyEnd bits) s) (Keeps s) := by
  refine ⟨_, rfl, (Keeps.refl s).whenReady ?_⟩
  split
  · exact ((Keeps.refl s).judged ..).enterIdle.busResult _
  · exact (Keeps.refl s).blockReply ..
  all_goals exact (Keeps.refl s).strayEnds

theorem replyTimeout_keeps (s : State) : Answers (exec .replyTimeout s) (Keeps s) := by
  refine ⟨_, rfl, (Keeps.refl s).whenReady ?_⟩
  have hsilent (i : Fin 30) : Keeps s (s.silence i .transaction).countSilent := ((Keeps.refl s).silence ..).setCounts _
  split
  · exact (Keeps.refl s).whenDue _ ((hsilent _).enterIdle.busResult _)
  · exact (Keeps.refl s).whenDue _ ((hsilent _).endBlock ..)
  · exact .refl s

theorem drainEnd_keeps (s : State) : Answers (exec .drainEnd s) (Keeps s) := by
  refine ⟨_, rfl, (Keeps.refl s).whenReady ?_⟩
  split
  · exact (Keeps.refl s).whenDue _ (Keeps.refl s).enterIdle
  · exact .refl s

theorem settlingEnd_keeps (s : State) : Answers (exec .settlingEnd s) (Keeps s) := by
  refine ⟨_, rfl, (Keeps.refl s).whenReady ?_⟩
  split
  · exact (Keeps.refl s).whenDue _ ((Keeps.refl s).setCtl _)
  · exact .refl s

/-! ## The expiries and the inputs -/

theorem retrySpacingExpiry_keeps (s : State) : Answers (exec .retrySpacingExpiry s) (Keeps s) := by
  refine ⟨_, rfl, (Keeps.refl s).whenReady ?_⟩
  split
  · exact (Keeps.refl s).whenDue _ ((Keeps.refl s).handStep ..)
  · exact .refl s

theorem waitExpiry_keeps (s : State) : Answers (exec .waitExpiry s) (Keeps s) := by
  refine ⟨_, rfl, (Keeps.refl s).whenReady ?_⟩
  split
  · exact (Keeps.refl s).whenDue _ ((Keeps.refl s).finishStep ..)
  · exact .refl s

theorem identProgramEnd_keeps (s : State) (route : BitVec 16) (hut : BitVec 12) :
    Answers (exec (.identProgramEnd route hut) s) (Keeps s) := by
  refine ⟨_, rfl, (Keeps.refl s).whenReady ?_⟩
  split
  · exact (Keeps.refl s).whenDue _ ((Keeps.refl s).endProgramming ..)
  · exact .refl s

theorem watchTick_keeps (s : State) : Answers (exec .watchTick s) (Keeps s) :=
  ⟨_, rfl, (Keeps.refl s).whenReady ((Keeps.refl s).whenDue _
    (((Keeps.refl s).setTime _).foldl _ _ fun _ n h => h.checkFresh n))⟩

theorem freshnessExpiry_keeps (s : State) (n : Fin 64) : Answers (exec (.freshnessExpiry n) s) (Keeps s) :=
  ⟨_, rfl, (Keeps.refl s).whenReady ((Keeps.refl s).whenDue _
    (.ite (((Keeps.refl s).setTime _).checkFresh n) (.refl s)))⟩

theorem rawLevelChange_keeps (s : State) (i : Fin 16) (high : Bool) : Answers (exec (.rawLevelChange i high) s) (Keeps s) :=
  have h := (Keeps.refl s).setRaw i high
  ⟨_, rfl, h.whenReady (.ite h (.ite (h.tachRaw i) (h.contactRaw i)))⟩

theorem tachActiveEdge_keeps (s : State) (i : Fin 16) (n : Nat) : Answers (exec (.tachActiveEdge i n) s) (Keeps s) :=
  have h : Keeps s ((s.elapse n).setRaw i (!(s.settings.inputs[i]).activeLow)) := ((Keeps.refl s).setTime _).setRaw i _
  ⟨_, rfl, h.whenReady (.ite h (.ite (h.tachEdge i) (h.contactRaw i)))⟩

theorem debounceWindowExpiry_keeps (s : State) (i : Fin 16) : Answers (exec (.debounceWindowExpiry i) s) (Keeps s) := by
  refine ⟨_, rfl, (Keeps.refl s).whenReady ?_⟩
  split
  · exact (Keeps.refl s).whenDue _ ((Keeps.refl s).endWindow i)
  all_goals exact .refl s

theorem firstWindowExpiry_keeps (s : State) (i : Fin 16) : Answers (exec (.firstWindowExpiry i) s) (Keeps s) := by
  refine ⟨_, rfl, (Keeps.refl s).whenReady ?_⟩
  split
  · exact (Keeps.refl s).whenDue _ (((Keeps.refl s).endFirstWindow i).settleEvent i)
  all_goals exact .refl s

theorem endDelayExpiry_keeps (s : State) : Answers (exec .endDelayExpiry s) (Keeps s) := by
  refine ⟨_, rfl, (Keeps.refl s).whenReady ?_⟩
  split
  · exact (Keeps.refl s).whenDue _ (Keeps.refl s).visitEnding
  · exact .refl s

/-! ## The Duty Controller's commands -/

theorem rampTick_keeps (s : State) : Answers (exec .rampTick s) (Keeps s) :=
  ⟨_, rfl, (Keeps.refl s).whenReady ((Keeps.refl s).whenDue _
    (((Keeps.refl s).setTime _).foldl _ _ fun _ c h => h.tickChannel c))⟩

theorem burstStart_keeps (s : State) (c : Fin 4) : Answers (exec (.burstStart c) s) (Keeps s) := by
  refine ⟨_, rfl, (Keeps.refl s).whenReady ?_⟩
  have hdrop : Keeps s (s.setChannel c { s.duty.channels[c] with handed := false }) :=
    (Keeps.refl s).setChannel fun hd => hd.channel c
  dsimp only; split
  next hm =>
    split
    · exact (Keeps.refl s).beginEpisode hm.2.2
    next hw => exact (Keeps.refl s).nextBurst (fun _ => hm.2.2) (.inr hw)
    all_goals exact hdrop
  · exact hdrop

theorem burstExpiry_keeps (s : State) (c : Fin 4) : Answers (exec (.burstExpiry c) s) (Keeps s) := by
  refine ⟨_, rfl, (Keeps.refl s).whenReady ?_⟩
  split
  next due hb =>
    refine (Keeps.refl s).whenDue _ ((Keeps.refl s).setChannel fun hd => ?_)
    obtain ⟨hman, htgt, hout, hused, hnone, -, hoff⟩ := hd.channel c
    rw [hb] at hnone hoff
    exact ⟨hman, htgt, hout, hused, by simpa using hnone, nofun, fun ho => nomatch (hoff ho).2.2⟩
  all_goals exact .refl s

theorem spacingExpiry_keeps (s : State) (c : Fin 4) : Answers (exec (.spacingExpiry c) s) (Keeps s) := by
  refine ⟨_, rfl, (Keeps.refl s).whenReady ?_⟩
  split
  next due hb => exact (Keeps.refl s).whenDue _ ((Keeps.refl s).endSpacing hb)
  all_goals exact .refl s

/-- Every command of the blocks keeps the laws, the host's words, READY and the queue of commands. -/
theorem exec_keeps {c : Instr} (hc : blockCommand c = true) (s : State) : Answers (exec c s) (Keeps s) := by
  have h := Keeps.refl s
  cases c with
  | powerOn | brownOut | supplyRestored | memoryClearDone | hardResetAssert | hardResetRelease | softReset
  | deferredResetBegin | hostWordAccess => simp [blockCommand] at hc
  | read | blockRead | write | control | statusPoll | rollCall | sampleAll | clear | sampleLocal | stamp | mark | loop
  | wait | raise | close | chain | endStep => exact keeps_of_stepCommand (by decide) s
  | settingsApply => exact keeps_of_requestCommand .settingsApply s
  | listRun => exact keeps_of_requestCommand .listRun s
  | listCut => exact keeps_of_requestCommand .listCut s
  | engineHold => exact keeps_of_requestCommand .engineHold s
  | engineResume => exact keeps_of_requestCommand .engineResume s
  | watchArm => exact keeps_of_requestCommand .watchArm s
  | watchDisarm => exact keeps_of_requestCommand .watchDisarm s
  | watchFeed => exact keeps_of_requestCommand .watchFeed s
  | collectionClose => exact keeps_of_requestCommand .collectionClose s
  | collectionRestart => exact keeps_of_requestCommand .collectionRestart s
  | timeSet => exact keeps_of_requestCommand .timeSet s
  | dutySet => exact keeps_of_requestCommand .dutySet s
  | stationForget => exact keeps_of_requestCommand .stationForget s
  | identProgram => exact keeps_of_requestCommand .identProgram s
  | sweep v => exact ⟨_, rfl, h.whenReady h.requestSweep⟩
  | wakeClear v => exact ⟨_, rfl, h.whenReady (h.clearCauses _)⟩
  | registerWriteIgnored o v => exact ⟨_, rfl, h⟩
  | sweepTimerExpiry => exact ⟨_, rfl, h.whenReady (h.whenDue _ (h.setTime _).requestSweep)⟩
  | sweepSlot => exact ⟨_, rfl, h.whenReady h.sweepSlot⟩
  | identProgramEnd route hut => exact identProgramEnd_keeps s route hut
  | retrySpacingExpiry => exact retrySpacingExpiry_keeps s
  | waitExpiry => exact waitExpiry_keeps s
  | commandFrameSent => exact commandFrameSent_keeps s
  | broadcastSent => exact broadcastSent_keeps s
  | rollCallFrameSent => exact rollCallFrameSent_keeps s
  | rollCallSlot answer => exact rollCallSlot_keeps s answer
  | replyBegin => exact ⟨_, rfl, h.whenReady h.replyBegins⟩
  | replyEnd bits => exact replyEnd_keeps s bits
  | replyTimeout => exact replyTimeout_keeps s
  | strayFrame => exact ⟨_, rfl, h.whenReady h.strayEnds⟩
  | drainEnd => exact drainEnd_keeps s
  | settlingEnd => exact settlingEnd_keeps s
  | watchTick => exact watchTick_keeps s
  | freshnessExpiry n => exact freshnessExpiry_keeps s n
  | closeAgeExpiry => exact ⟨_, rfl, h.whenReady h.closeByAge⟩
  | rawLevelChange i high => exact rawLevelChange_keeps s i high
  | debounceWindowExpiry i => exact debounceWindowExpiry_keeps s i
  | firstWindowExpiry i => exact firstWindowExpiry_keeps s i
  | tachActiveEdge i n => exact tachActiveEdge_keeps s i n
  | stallIntervalExpiry i => exact ⟨_, rfl, h.whenReady (h.compareStall i)⟩
  | endDelayExpiry => exact endDelayExpiry_keeps s
  | rampTick => exact rampTick_keeps s
  | burstStart c => exact burstStart_keeps s c
  | burstExpiry c => exact burstExpiry_keeps s c
  | spacingExpiry c => exact spacingExpiry_keeps s c
  | timestampAdvance => exact ⟨_, rfl, h.whenReady h.advanceTime⟩
  | timeWrap => exact ⟨_, rfl, h.whenReady (.ite h.wrapTime h)⟩
  | surveyTimerExpiry o => exact ⟨_, rfl, h.whenReady ((h.beginSeries _).offerSeries ..)⟩

end State
end Sys2Proof.Machine
end

section
/-! PROOFS. What the resets keep, and the laws that every step keeps (chapter 10). -/

namespace Sys2Proof.Machine

/-! ## The built-in settings (R191) -/

theorem builtInSettings_geometry (s : State) : (s.setSettings builtInSettings).GeometryOk := by
  simp only [State.GeometryOk, State.setSettings_settings]
  decide

theorem builtInSettings_duties : State.DutySettingsOk builtInSettings := by
  unfold State.DutySettingsOk
  decide

namespace State

variable {s t u : State}

/-! ## The parts of the reset work (R191, R192) -/

/-- Settings come in force whose collection lies in its region. -/
theorem Holds.setSettings (h : Holds s t) {new : Settings} (hg : (t.setSettings new).GeometryOk) :
    Holds s (t.setSettings new) :=
  h.trans ⟨rfl, id, fun _ => hg.1, fun _ _ _ => rfl, fun _ => hg⟩

theorem Holds.setPower (h : Holds s t) (p : Power) : Holds s (t.setPower p) := { h with }

theorem Holds.setRefused (h : Holds s t) (n : Nat) : Holds s (t.setRefused n) := { h with }

/-- An operation that writes no word and changes no setting. -/
theorem Holds.of_mem (h : Holds s t) (hp : u.pending = t.pending) (hm : u.mem = t.mem) (hg : u.settings = t.settings) :
    Holds s u :=
  h.trans
    { pending := hp
      wf := by rw [hm]; exact id
      region := by rw [hg]; exact id
      host := fun _ a _ => by unfold peek; rw [hm]
      geometry := by unfold GeometryOk; rw [hg]; exact id }

theorem Holds.abandonWork (h : Holds s t) (c : ResetCause) : Holds s (t.abandonWork c) :=
  h.of_mem (by simp) (by simp) (by simp)

theorem Holds.resetSettings (h : Holds s t) : Holds s t.resetSettings := by
  unfold State.resetSettings; split
  · exact h
  · split
    next hgood => exact (h.setSettings (blockSettings_geometry hgood)).setRefused _
    · exact (h.setSettings (builtInSettings_geometry t)).setRefused _

theorem collReset_counts (s : State) : (s.setColl Coll.afterReset).CountLaw := by
  simp only [CountLaw, setColl_coll]
  decide

theorem Keeps.setCollReset (h : Keeps s t) : Keeps s (t.setColl Coll.afterReset) :=
  h.of_coll ((Sound.refl t).setColl _) (fun _ => collReset_counts t) rfl rfl rfl

theorem Keeps.resetEntry (h : Keeps s t) (c : ResetCause) (i : Fin 16) : Keeps s (resetEntry c t i) :=
  ((h.setInputAt i _).pokes fun _ _ h1 h2 => not_hostWord_of_inputWord (i := i) (by
    simp only [List.length_cons, List.length_nil] at h2; exact ⟨by omega, by omega⟩)).writeStatus i _

theorem Keeps.resetBlocks (h : Keeps s t) : Keeps s t.resetBlocks :=
  ((h.setWatches _).setCollReset.setBus _).foldl _ _ fun _ i hu => hu.resetEntry _ i

theorem Keeps.showChannel (h : Keeps s t) (c : Fin 4) : Keeps s (t.showChannel c) :=
  (h.pokeStatus (by omega) (by omega) _).pokeStatus (by omega) (by omega) _

theorem Sound.showAll (h : Sound s t) : Sound s t.showAll :=
  (((((h.show40.showTimestamp.showWrapCount.showSweepCount.showCompleted.showRunning.showQueue).pokesStatus (by decide)
    (by simp [countWords])).foldl _ _ fun _ i hu => hu.showStation i).writeColl.foldl _ _ fun _ c hu =>
      (hu.pokeStatus (by omega) (by omega) _).pokeStatus (by omega) (by omega) _)).showIdent

theorem Keeps.showAll (h : Keeps s t) : Keeps s t.showAll :=
  h.of_sound (Sound.refl t).showAll (by simp) (by simp) (by simp) (by simp)

theorem Sound.recoverSegment (h : Sound s t) (i : Nat) : Sound s (t.recoverSegment i) :=
  .ite (((((h.pokeRegion (Nat.le_add_right_of_le (base_le_segAddr t i)) _).pokeRegion
    (Nat.le_add_right_of_le (base_le_segAddr t i)) _).pokeRegion (base_le_segAddr t i) _).setColl _).raiseCause _) h

theorem Keeps.recoverSegment (h : Keeps s t) (i : Nat) : Keeps s (t.recoverSegment i) :=
  h.of_coll ((Sound.refl t).recoverSegment i)
    (CountLaw.of_balance (by dsimp only [State.recoverSegment]; split <;> rfl)) (by simp) (by simp) (by simp)

theorem Keeps.writeColl (h : Keeps s t) : Keeps s t.writeColl :=
  h.of_sound (Sound.refl t).writeColl (by simp) (by simp) (by simp) (by simp)

theorem Keeps.recover (h : Keeps s t) : Keeps s t.recover := by
  unfold State.recover
  exact (h.foldl _ _ fun _ i hu => hu.recoverSegment i).writeColl.offer _

theorem Keeps.settleAll (h : Keeps s t) : Keeps s t.settleAll :=
  h.foldl _ _ fun _ _ hu => .ite ((hu.settleInput ..).settleEvent _) hu

/-! ## The end of a reset (R195) -/

/-- The part at the end of a reset, before its mirrors are written: READY set, with every block's state as the reset leaves
it. -/
def restarted (s : State) : State := s.resetSettings.resetTime.resetBlocks.setReady

theorem finishReset_eq (s : State) :
    s.finishReset = (((List.finRange 64).foldl State.showWatch s.restarted.showAll).recover).settleAll := rfl

theorem keeps_finishReset (s : State) : Keeps s.restarted s.finishReset :=
  ((((Keeps.refl _).showAll).foldl _ _ fun _ n h => h.showWatch n).recover).settleAll

theorem Holds.setReady (h : Holds s t) : Holds s t.setReady := h.of_mem (by simp) (by simp) (by simp)

theorem keeps_resetBlocks (s : State) : Keeps s s.resetTime.resetBlocks := Keeps.resetBlocks ((Keeps.refl s).setTime _)

theorem Holds.restarted (h : Holds s t) : Holds s t.restarted :=
  (h.resetSettings.trans (keeps_resetBlocks _).toHolds).setReady

theorem Holds.finishReset (h : Holds s t) : Holds s t.finishReset := h.restarted.trans (keeps_finishReset t).toHolds

theorem setReady_line (s : State) : s.setReady.wake.line = s.setReady.lineAsserted := judge_line _

theorem finishReset_line (s : State) : s.finishReset.wake.line = s.finishReset.lineAsserted :=
  (keeps_finishReset s).line (setReady_line _)

theorem finishReset_power (s : State) : s.finishReset.power = { s.power with phase := .ready } := by
  rw [(keeps_finishReset s).power]
  simp [restarted, State.setReady]

theorem finishReset_ready (s : State) : s.finishReset.ready := by simp [State.ready, finishReset_power]

theorem finishReset_counts (s : State) : s.finishReset.CountLaw := by
  refine (keeps_finishReset s).count (CountLaw.of_eq ?_ (collReset_counts s))
  simp [restarted, State.resetBlocks]

theorem finishReset_engine (h : s.EngineLaws) : s.finishReset.EngineLaws :=
  (keeps_finishReset s).engine (.of_eq (by simp [restarted]) h)

theorem resetSettings_duties (h : DutySettingsOk s.settings) : DutySettingsOk s.resetSettings.settings := by
  unfold State.resetSettings; split
  · exact h
  · split
    · exact blockSettings_duties _
    · exact builtInSettings_duties

theorem finishReset_duty (h : s.DutyLaw) : s.finishReset.DutyLaw := by
  refine (keeps_finishReset s).duty ⟨?_, ?_⟩
  · simpa [restarted] using resetSettings_duties h.1
  · simpa [restarted] using h.2

/-! ## The reset commands -/

/-- The commands that begin a reset, or bring it to its end. -/
def resetCommands : List Instr :=
  [.powerOn, .brownOut, .supplyRestored, .memoryClearDone, .hardResetAssert, .hardResetRelease, .softReset,
    .deferredResetBegin]

/-- A property that the parts of the resets keep, but for the memory clearing. -/
structure KeptByResets (P : State → Prop) : Prop where
  power : ∀ s p, P s → P (s.setPower p)
  abandon : ∀ s c, P s → P (s.abandonWork c)
  finish : ∀ s, P s → P s.finishReset

section Commands

variable {P : State → Prop} (hP : KeptByResets P)
include hP

theorem KeptByResets.beginReset (h : P s) (phase : ResetPhase) (c : ResetCause) : P (s.beginReset phase c) :=
  hP.power _ _ (hP.abandon _ _ h)

theorem KeptByResets.resetWork (h : P s) : P s.resetWork := by
  have hwork : P (s.setResetPhase .working) := hP.power _ _ h
  unfold State.resetWork; dsimp only; split
  · exact hwork
  · exact hP.finish _ hwork

theorem KeptByResets.beginHard (h : P s) : P s.beginHard := by
  have hbegun := hP.beginReset h .hardHeld .hard
  unfold State.beginHard; dsimp only; split
  · exact hbegun
  · exact hP.resetWork hbegun

theorem KeptByResets.beginSoft (h : P s) : P s.beginSoft := hP.resetWork (hP.beginReset h _ _)

theorem KeptByResets.holdWork (h : P s) : P s.holdWork := by
  unfold State.holdWork; split
  · exact hP.beginReset h _ _
  all_goals exact hP.power _ _ h

theorem KeptByResets.memoryClearDone (hclear : ∀ s, P s → P s.clearMemory) (h : P s) :
    Answers (exec .memoryClearDone s) P := by
  refine ⟨_, rfl, ?_⟩
  dsimp only; split
  · split
    · exact hP.power _ _ (hclear s h)
    · exact hP.resetWork (hclear s h)
  · exact h

theorem KeptByResets.hardResetAssert (h : P s) : Answers (exec .hardResetAssert s) P := by
  refine ⟨_, rfl, ?_⟩
  have hpin : P (s.setPin true) := hP.power _ _ h
  dsimp only; split
  · split
    · exact hP.power _ _ hpin
    · exact hP.beginHard hpin
  · exact hP.holdWork hpin
  all_goals exact hpin

theorem KeptByResets.hardResetRelease (h : P s) : Answers (exec .hardResetRelease s) P := by
  refine ⟨_, rfl, ?_⟩
  have hpin : P (s.setPin false) := hP.power _ _ h
  dsimp only; split
  · exact hP.resetWork hpin
  · exact hP.resetWork hpin
  all_goals exact hpin

theorem KeptByResets.softReset (h : P s) : Answers (exec .softReset s) P := by
  refine ⟨_, rfl, ?_⟩
  split
  · split
    · exact h
    · split
      · exact hP.power _ _ h
      · exact hP.beginSoft h
  · exact hP.resetWork h
  all_goals exact h

theorem KeptByResets.deferredResetBegin (h : P s) : Answers (exec .deferredResetBegin s) P := by
  refine ⟨_, rfl, ?_⟩
  unfold State.whenReady; split
  · dsimp only; split
    · exact h
    · split
      · exact hP.beginHard h
      · exact hP.beginSoft h
      · exact h
  · exact h

/-- A property that the parts of the resets keep is kept by every command of theirs. -/
theorem KeptByResets.exec {c : Instr} (hc : c ∈ resetCommands)
    (hclear : c = .memoryClearDone → ∀ s, P s → P s.clearMemory) (h : P s) : Answers (exec c s) P := by
  simp only [resetCommands, List.mem_cons, List.not_mem_nil, or_false] at hc
  rcases hc with rfl | rfl | rfl | rfl | rfl | rfl | rfl | rfl
  · exact ⟨_, rfl, hP.beginReset h _ _⟩
  · exact ⟨_, rfl, hP.beginReset h _ _⟩
  · exact ⟨_, rfl, by split; exacts [hP.power _ _ h, h]⟩
  · exact hP.memoryClearDone (hclear rfl) h
  · exact hP.hardResetAssert h
  · exact hP.hardResetRelease h
  · exact hP.softReset h
  · exact hP.deferredResetBegin h

end Commands

/-- A command is one of a block's, one of the resets', or a host access to exchange memory. -/
theorem command_cases (c : Instr) :
    blockCommand c = true ∨ c ∈ resetCommands ∨ ∃ a access, c = .hostWordAccess a access := by
  cases c with
  | hostWordAccess a access => exact .inr (.inr ⟨a, access, rfl⟩)
  | powerOn | brownOut | supplyRestored | memoryClearDone | hardResetAssert | hardResetRelease | softReset
  | deferredResetBegin => exact .inr (.inl (by simp [resetCommands]))
  | _ => exact .inl rfl

/-- A host access gives the host a word, or writes one. -/
theorem exec_hostWordAccess (a : BitVec 15) (access : HostAccess) (s : State) :
    Answers (exec (.hostWordAccess a access) s) fun t =>
      (∃ v, t = s.setHostData v) ∨ (∃ v, access = .write v ∧ s.ready ∧ t = s.poke a.toNat v) ∨ t = s := by
  refine ⟨_, rfl, ?_⟩
  cases access with
  | read => split <;> exact .inl ⟨_, rfl⟩
  | write v =>
    split
    next hr => exact .inr (.inl ⟨v, rfl, hr, rfl⟩)
    · exact .inr (.inr rfl)

/-! ## What a step keeps -/

/-- A property of every field but the queue of commands, kept by every command, is kept by every step. -/
theorem step_keeps {P : State → Prop} (hpending : ∀ {s} q, P s → P (s.setPending q)) (htime : ∀ {s} v, P s → P (s.setTime v))
    (hexec : ∀ c s, P s → Answers (exec c s) P) (hs : P s) (h : step s = .next t) : P t := by
  unfold step at h; split at h
  · cases h
    exact htime _ hs
  next c rest _ =>
    obtain ⟨u, hu, hPu⟩ := hexec c _ (hpending rest hs)
    rw [hu] at h
    cases h
    exact hPu

/-- A property of neither memory nor the word given to the host, that the blocks keep and the parts of the resets keep. -/
theorem exec_keeps_of_parts {P : State → Prop} (hblocks : ∀ s t, Keeps s t → P s → P t) (hresets : KeptByResets P)
    (hclear : ∀ s, P s → P s.clearMemory) (hdata : ∀ s v, P s → P (s.setHostData v)) (hpoke : ∀ s a v, P s → P (s.poke a v))
    (c : Instr) (s : State) (h : P s) : Answers (exec c s) P := by
  rcases command_cases c with hc | hc | ⟨a, access, rfl⟩
  · obtain ⟨t, ht, hk⟩ := exec_keeps hc s
    exact ⟨t, ht, hblocks s t hk h⟩
  · exact hresets.exec hc (fun _ => hclear) h
  · obtain ⟨t, ht, ⟨v, rfl⟩ | ⟨v, -, -, rfl⟩ | rfl⟩ := exec_hostWordAccess a access s
    · exact ⟨_, ht, hdata _ _ h⟩
    · exact ⟨_, ht, hpoke _ _ _ h⟩
    · exact ⟨_, ht, h⟩

theorem abandonWork_engine (s : State) (c : ResetCause) :
    (s.abandonWork c).engine = { mode := .idle, queue := [], ctx := none, holds := 0, cuts := 0, completed := 0 } := rfl

theorem abandonWork_channel (s : State) (c : ResetCause) (n : Fin 4) :
    ((s.abandonWork c).duty.channels[n]) = (s.duty.channels[n]).afterReset c := by
  simp [State.abandonWork]

theorem afterReset_law {ch : Channel} (h : ch.Law) (c : ResetCause) : (ch.afterReset c).Law := by
  obtain ⟨hman, htgt, hout, -, -, -, hoff⟩ := h
  unfold Channel.afterReset; split
  · exact ⟨hman, htgt, hout, Nat.zero_le _, by simp, nofun, fun ho => ⟨(hoff ho).1, (hoff ho).2.1, rfl⟩⟩
  · exact ⟨Nat.zero_le _, le_rfl, le_rfl, Nat.zero_le _, by simp [resetChannel], nofun, nofun⟩

theorem abandonWork_duty (h : s.DutyLaw) (c : ResetCause) : (s.abandonWork c).DutyLaw := by
  refine ⟨by simpa using h.1, fun n => ?_⟩
  rw [abandonWork_channel]
  exact afterReset_law (h.channel n) c

theorem clearMemory_mem (s : State) : s.clearMemory.mem = writeWords [] 0 builtInBlock := by
  simp [State.clearMemory, State.pokes]

theorem clearMemory_settings (s : State) : s.clearMemory.settings = builtInSettings := by
  simp [State.clearMemory]

theorem clearMemory_counts (h : s.CountLaw) : s.clearMemory.CountLaw := .of_eq (by simp) h

theorem clearMemory_engine (h : s.EngineLaws) : s.clearMemory.EngineLaws := .of_eq (by simp) h

theorem clearMemory_duty (h : s.DutyLaw) : s.clearMemory.DutyLaw := by
  refine ⟨by rw [clearMemory_settings]; exact builtInSettings_duties, ?_⟩
  simpa using h.2

theorem clearMemory_geometry (s : State) : s.clearMemory.GeometryOk := by
  have h := builtInSettings_geometry s
  rw [GeometryOk, setSettings_settings] at h
  rwa [GeometryOk, clearMemory_settings]

theorem clearMemory_wf (s : State) : Memory.wf s.clearMemory.mem := by
  rw [clearMemory_mem]
  exact writeWords_wf 0 builtInBlock empty_wf

theorem resets_keepCounts : KeptByResets CountLaw where
  power _ _ := id
  abandon s c := CountLaw.of_eq (by simp)
  finish s _ := finishReset_counts s

theorem resets_keepEngine : KeptByResets EngineLaws where
  power _ _ := id
  abandon s c _ := .of_rest (by rw [QueueLaw, abandonWork_engine]; exact ⟨List.nodup_nil, trivial⟩)
    (.inr (by rw [abandonWork_engine]; exact ⟨rfl, rfl⟩)) (by rw [abandonWork_engine])
  finish _ := finishReset_engine

theorem resets_keepDuty : KeptByResets DutyLaw where
  power _ _ := id
  abandon _ c h := abandonWork_duty h c
  finish _ := finishReset_duty

theorem resets_keepHolds (s : State) : KeptByResets (Holds s) where
  power _ _ h := h.setPower _
  abandon _ c h := h.abandonWork c
  finish _ h := h.finishReset

theorem resets_keepMemory : KeptByResets fun s => Memory.wf s.mem where
  power _ _ := id
  abandon s c h := ((Holds.refl s).abandonWork c).wf h
  finish s := (Holds.refl s).finishReset.wf

theorem resets_keepGeometry : KeptByResets GeometryOk where
  power _ _ := id
  abandon s c h := ((Holds.refl s).abandonWork c).geometry h
  finish s := (Holds.refl s).finishReset.geometry

theorem resets_keepPending (q : List Instr) : KeptByResets fun s => s.pending = q where
  power _ _ := id
  abandon s c h := by simpa using h
  finish s h := by simpa using h

theorem exec_keepsHost {c : Instr} {s : State} (hw : ∀ a v, c ≠ .hostWordAccess a (.write v)) (hm : c ≠ .memoryClearDone) :
    Answers (exec c s) (Holds s) := by
  rcases command_cases c with hc | hc | ⟨a, access, rfl⟩
  · obtain ⟨t, ht, hk⟩ := exec_keeps hc s
    exact ⟨t, ht, hk.toHolds⟩
  · exact (resets_keepHolds s).exec hc (fun e => absurd e hm) (Holds.refl s)
  · obtain ⟨t, ht, ⟨v, rfl⟩ | ⟨v, e, -, rfl⟩ | rfl⟩ := exec_hostWordAccess a access s
    · exact ⟨_, ht, ((Sound.refl s).setHostData v).toHolds⟩
    · exact absurd (congrArg _ e) (hw a v)
    · exact ⟨_, ht, .refl _⟩

theorem exec_keepsPending (c : Instr) (s : State) : Answers (exec c s) fun t => t.pending = s.pending :=
  exec_keeps_of_parts (fun _ _ hk h => hk.pending.trans h) (resets_keepPending s.pending)
    (fun t h => (clearMemory_frame t).1.trans h) (fun _ _ => id) (fun _ _ _ => id) c s rfl

end State
end Sys2Proof.Machine

open Sys2Proof.Machine in
/-- Settles O2: the blocks' commands, the parts of the resets and the host's accesses each keep the queue. -/
theorem everyCommandAnswersNext : Obligations.EveryCommandAnswersNext := State.exec_keepsPending

open Sys2Proof.Machine in
/-- Settles O3: every operation writes whole words, and every settings taken have passed the tests of fields 34 to 36. -/
theorem stepKeepsMemoryAndGeometry : Obligations.StepKeepsMemoryAndGeometry := fun _ _ h =>
  ⟨fun hs => State.step_keeps (P := fun s => Memory.wf s.mem) (fun _ => id) (fun _ => id)
      (State.exec_keeps_of_parts (fun _ _ k => k.wf) State.resets_keepMemory (fun s _ => s.clearMemory_wf) (fun _ _ => id)
        fun _ a v h => State.poke_wf h a v) hs h,
    fun hs => State.step_keeps (fun _ => id) (fun _ => id)
      (State.exec_keeps_of_parts (fun _ _ k => k.geometry) State.resets_keepGeometry (fun s _ => s.clearMemory_geometry) (fun _ _ => id)
        fun _ _ _ => id) hs h⟩

open Sys2Proof.Machine in
/-- Settles O5: each offer counts once as offered and once as written or dropped, and a reset clears the three counts. -/
theorem stepKeepsRecordBalance : Obligations.StepKeepsRecordBalance := fun _ _ hs h =>
  State.step_keeps (fun _ => id) (fun _ => id)
      (State.exec_keeps_of_parts (fun _ _ k => k.count) State.resets_keepCounts (fun _ => State.clearMemory_counts) (fun _ _ => id)
        fun _ _ _ => id) hs h

open Sys2Proof.Machine in
/-- Settles O6: an entry is placed only where its list stands in no other, and heads start until a list runs or none waits. -/
theorem stepKeepsQueueAndEngine : Obligations.StepKeepsQueueAndEngine := fun _ _ hq he h =>
  State.step_keeps (P := State.EngineLaws) (fun _ => id) (fun _ => id)
      (State.exec_keeps_of_parts (fun _ _ k => k.engine) State.resets_keepEngine (fun _ => State.clearMemory_engine) (fun _ _ => id)
        fun _ _ _ => id) ⟨hq, he⟩ h

open Sys2Proof.Machine in
/-- Settles O7: each operation gives a channel a state with its ranges, and the settings' duties are bytes. -/
theorem stepKeepsDutyRanges : Obligations.StepKeepsDutyRanges := fun _ _ hs h =>
  State.step_keeps (fun _ => id) (fun _ => id)
      (State.exec_keeps_of_parts (fun _ _ k => k.duty) State.resets_keepDuty (fun _ => State.clearMemory_duty) (fun _ _ => id)
        fun _ _ _ => id) hs h

open Sys2Proof.Machine in
/-- Settles O10: the blocks write the status block, their own words of the tables and the collection region alone. -/
theorem partKeepsHostWords : Obligations.PartKeepsHostWords := fun _ _ _ hb hw hm h => by
  obtain ⟨u, hu, hk⟩ := State.exec_keepsHost hw hm
  cases hu.symm.trans h
  exact hk.host hb
end

section
/-! PROOFS. Commands that find their block in a reset, or an interval that has not ended: they change nothing (R164, R190). The
step and the registers. -/

namespace Sys2Proof.Machine.State

variable {s t : State}

theorem whenReady_of_not_ready (h : ¬ s.ready) (f : State → State) : s.whenReady f = s := if_neg h

theorem whenReady_eq_self {f : State → State} (h : f s = s) : s.whenReady f = s := by
  unfold State.whenReady; split
  · exact h
  · rfl

theorem next_whenReady {f : State → State} (h : f s = s) :
    (Host.Outcome.next (s.whenReady f) : Host.Outcome State Fault Refusal) = .next s :=
  congrArg _ (whenReady_eq_self h)

/-- In a reset, a command that does not act then changes nothing (R190). -/
theorem exec_of_not_ready {c : Instr} (hc : actsInReset c = false) (h : ¬ s.ready) : exec c s = .next s := by
  have hidle (f : State → State) : (Host.Outcome.next (s.whenReady f) : Host.Outcome State Fault Refusal) = .next s :=
    congrArg _ (whenReady_of_not_ready h f)
  cases c with
  | powerOn | brownOut | supplyRestored | memoryClearDone | hardResetAssert | hardResetRelease | softReset
  | rawLevelChange | tachActiveEdge | hostWordAccess => simp [actsInReset] at hc
  | registerWriteIgnored => rfl
  | _ => exact hidle _

/-- The pins go on showing what is on them (R125). -/
theorem exec_rawLevelChange_of_not_ready (h : ¬ s.ready) (i : Fin 16) (high : Bool) :
    exec (.rawLevelChange i high) s = .next (s.setRaw i high) :=
  congrArg Host.Outcome.next (whenReady_of_not_ready (s := s.setRaw i high) h _)

theorem exec_tachActiveEdge_of_not_ready (h : ¬ s.ready) (i : Fin 16) (n : Nat) :
    exec (.tachActiveEdge i n) s = .next ((s.elapse n).setRaw i (!(s.settings.inputs[i]).activeLow)) :=
  congrArg Host.Outcome.next
    (whenReady_of_not_ready (s := (s.elapse n).setRaw i (!(s.settings.inputs[i]).activeLow)) h _)

/-! ## Expiries named before the interval's end (R164) -/

section Early

variable {m : Moment} (hm : s.now < m)
include hm

theorem whenDue_early (f : State → State) : s.whenDue m f = s := whenDue_of_lt s f hm

theorem surveyTimerExpiry_early (o : SurveyOffer) (hs : s.time.series[o.timer] = [])
    (hd : s.time.surveyDue[o.timer] = some m) : exec (.surveyTimerExpiry o) s = .next s := by
  refine next_whenReady ?_
  have hbegin : s.beginSeries o.timer = s := by
    unfold State.beginSeries
    rw [hs, hd]
    exact whenDue_early hm _
  have hseries : s.time.series.set o.timer [] = s.time.series := by
    rw [← hs]
    simp
  rw [hbegin, State.offerSeries, hs]
  simp only [List.drop_nil, List.take_nil, List.foldl_nil, hseries]
  rfl

theorem closeAgeExpiry_early (i : Fin 16) (start : Moment) (hc : s.coll.st = .filling i start)
    (hd : start + 100000 * s.settings.closeAge = m) : exec .closeAgeExpiry s = .next s := by
  refine next_whenReady ?_
  unfold State.closeByAge
  rw [hc]
  refine if_neg fun h => ?_
  have hlate : start + 100000 * s.settings.closeAge ≤ s.now := by simpa [seconds, Nat.mul_comm] using h.2
  exact absurd hm (Nat.not_lt.mpr (hd ▸ hlate))

theorem replyTimeout_early
    (hc : (∃ tr, s.bus.ctl = .awaiting tr (some m)) ∨ ∃ b n ws, s.bus.ctl = .streaming b n ws (some m)) :
    exec .replyTimeout s = .next s := by
  refine next_whenReady ?_
  obtain ⟨tr, hc⟩ | ⟨b, n, ws, hc⟩ := hc <;> rw [hc] <;> exact whenDue_early hm _

theorem waitExpiry_early (e : Ctx) (he : s.engine.ctx = some e) (hp : e.phase = .waiting m) :
    exec .waitExpiry s = .next s := by
  obtain ⟨list, source, endRecord, addr, executed, mark, cut, start, lastDone, phase⟩ := e
  subst hp
  exact next_whenReady (by rw [he]; exact whenDue_early hm _)

theorem retrySpacingExpiry_early (e : Ctx) (st : ReadStep) (n : Nat) (he : s.engine.ctx = some e)
    (hp : e.phase = .spacing st n m) : exec .retrySpacingExpiry s = .next s := by
  obtain ⟨list, source, endRecord, addr, executed, mark, cut, start, lastDone, phase⟩ := e
  subst hp
  exact next_whenReady (by rw [he]; exact whenDue_early hm _)

theorem stallIntervalExpiry_early (i : Fin 16) (start : Moment) (hf : (s.inputs[i]).stallFrom = some start)
    (hd : start + 1000 * (s.settings.inputs[i]).stallTime = m) : exec (.stallIntervalExpiry i) s = .next s := by
  refine next_whenReady ?_
  dsimp only [State.compareStall]
  rw [hf]
  refine if_neg fun h => ?_
  have hlate : start + 1000 * (s.settings.inputs[i]).stallTime ≤ s.now := by simpa [tens, Nat.mul_comm] using h.2.2
  exact absurd hm (Nat.not_lt.mpr (hd ▸ hlate))

theorem endDelayExpiry_early (hd : s.visit.endDue = some m) : exec .endDelayExpiry s = .next s := by
  refine next_whenReady ?_
  rw [hd]
  split
  next due _ he => cases he; exact whenDue_early hm _
  · rfl

end Early

end Sys2Proof.Machine.State

open Sys2Proof.Machine State in
/-- Settles O17: in a reset `whenReady` leaves the state, and before an interval's end `whenDue` does. -/
theorem eventsOutOfTheirTimeChangeNothing : Obligations.EventsOutOfTheirTimeChangeNothing := by
  intro c s
  refine ⟨fun h => ⟨fun hc => exec_of_not_ready hc h, exec_rawLevelChange_of_not_ready h, exec_tachActiveEdge_of_not_ready h⟩,
    fun m hm => ?_⟩
  · have hrun := whenDue_early hm
    refine ⟨?_, ?_, ?_, surveyTimerExpiry_early hm, closeAgeExpiry_early hm, replyTimeout_early hm, fun n hn => ?_,
      fun hn => ?_, waitExpiry_early hm, fun e st n => retrySpacingExpiry_early hm e st n,
      fun i => ⟨fun hw => ?_, fun hw => ?_, stallIntervalExpiry_early hm i⟩, endDelayExpiry_early hm,
      fun ch => ⟨fun hb => ?_, fun hb => ?_⟩, fun p route hut hp hd => ?_⟩
    · rintro rfl
      exact next_whenReady (hrun _)
    · rintro rfl
      exact next_whenReady (hrun _)
    · rintro rfl
      exact ⟨next_whenReady (hrun _), fun n => next_whenReady (hrun _)⟩
    · exact next_whenReady (by rw [hn]; exact hrun _)
    · exact next_whenReady (by rw [hn]; exact hrun _)
    · exact next_whenReady (by rw [hw]; exact hrun _)
    · exact next_whenReady (by rw [hw]; exact hrun _)
    · exact next_whenReady (by rw [hb]; exact hrun _)
    · exact next_whenReady (by rw [hb]; exact hrun _)
    · subst hd
      exact next_whenReady (by rw [hp]; exact hrun _)
end

section
/-! PROOFS. The beginning of a reset, the wake line and the law of resets (R190–R195). -/

namespace Sys2Proof.Machine.State

variable {s t : State}

/-- Two states are one where all their fields are. -/
theorem eq_of_fields
    (h : t.pending = s.pending ∧ t.mem = s.mem ∧ t.hostData = s.hostData ∧ t.power = s.power ∧ t.settings = s.settings ∧
      t.refused = s.refused ∧ t.time = s.time ∧ t.wake = s.wake ∧ t.ident = s.ident ∧ t.req = s.req ∧ t.engine = s.engine ∧
      t.bus = s.bus ∧ t.watches = s.watches ∧ t.coll = s.coll ∧ t.inputs = s.inputs ∧ t.visit = s.visit ∧ t.duty = s.duty ∧
      t.freeIdx = s.freeIdx) : t = s := by
  cases s; cases t
  simp only at h
  obtain ⟨rfl, rfl, rfl, rfl, rfl, rfl, rfl, rfl, rfl, rfl, rfl, rfl, rfl, rfl, rfl, rfl, rfl, rfl⟩ := h
  rfl

/-! ## The beginning of a reset (R190) -/

theorem abandonWork_busForgotten (s : State) (c : ResetCause) : BusForgotten (s.abandonWork c).bus :=
  ⟨fun i => by simp [State.abandonWork, resetStation], rfl⟩

theorem channelFreed_afterReset (ch : Channel) (c : ResetCause) : ChannelFreed c (ch.afterReset c) := by
  unfold Channel.afterReset; split
  next hc => exact ⟨rfl, rfl, rfl, rfl, fun h => absurd hc h⟩
  next hc => exact ⟨rfl, rfl, rfl, rfl, fun _ => ⟨rfl, rfl, rfl, rfl⟩⟩

theorem beginReset_channel (s : State) (p : ResetPhase) (c : ResetCause) (n : Fin 4) :
    ((s.beginReset p c).duty.channels[n]) = (s.duty.channels[n]).afterReset c := s.abandonWork_channel c n

theorem beginReset_abandoned (s : State) (p : ResetPhase) (c : ResetCause) : (s.beginReset p c).WorkAbandoned :=
  ⟨rfl, rfl, ⟨rfl, rfl, rfl, rfl, abandonWork_busForgotten s c⟩, ⟨rfl, rfl, rfl⟩,
    ⟨rfl, fun n => by rw [beginReset_channel]; exact channelFreed_afterReset _ c⟩, rfl⟩

/-- A reset begins (R190). -/
theorem beginReset_begun (s : State) (p : ResetPhase) (c : ResetCause) :
    s.ResetBegun (s.beginReset p c) p c s.power.pin :=
  ⟨rfl, rfl, beginReset_abandoned s p c, fun hc n => by rw [beginReset_channel, Channel.afterReset, if_pos hc],
    eq_of_fields (by simp [State.beginReset, State.abandonWork])⟩

theorem setPin_begun {p : ResetPhase} {c : ResetCause} (pin : Bool) :
    s.ResetBegun ((s.setPin pin).beginReset p c) p c pin := by
  obtain ⟨hpower, hwake, hwork, hsoft, hrest⟩ := beginReset_begun (s.setPin pin) p c
  exact ⟨hpower, hwake, hwork, hsoft, hrest⟩

theorem resetWork_of_second (h : s.secondCauseNext = true) : s.resetWork = s.setResetPhase .working := by
  unfold State.resetWork
  exact if_pos h

theorem resetWork_of_none (h : s.secondCauseNext = false) :
    s.resetWork = (s.setResetPhase .working).finishReset := by
  unfold State.resetWork
  exact if_neg (by rw [show (s.setResetPhase .working).secondCauseNext = s.secondCauseNext from rfl, h]; exact nofun)

theorem setResetPhase_begun {p q : ResetPhase} {c : ResetCause} {pin : Bool} (h : s.ResetBegun t p c pin) :
    s.ResetBegun (t.setResetPhase q) q c pin := by
  obtain ⟨hpower, hwake, ⟨hengine, hreq, hbus, hvisit, hduty, hident⟩, hsoft, hrest⟩ := h
  refine ⟨by rw [setResetPhase, setPower_power, hpower], hwake, ⟨hengine, hreq, hbus, hvisit, hduty, hident⟩, hsoft, ?_⟩
  rw [hrest]
  rfl

/-! ## The wake line (R190, R194) -/

theorem LineLaw.of_released (hr : ¬ s.ready) (hw : s.wake = { pending := 0, line := false }) : s.LineLaw := by
  unfold LineLaw
  rwa [if_neg hr]

theorem LineLaw.of_judged (hr : s.ready) (hl : s.wake.line = s.lineAsserted) : s.LineLaw := by
  unfold LineLaw
  rwa [if_pos hr]

theorem LineLaw.released (h : s.LineLaw) (hr : ¬ s.ready) : s.wake = { pending := 0, line := false } := by
  unfold LineLaw at h
  rwa [if_neg hr] at h

theorem LineLaw.judged (h : s.LineLaw) (hr : s.ready) : s.wake.line = s.lineAsserted := by
  unfold LineLaw at h
  rwa [if_pos hr] at h

theorem LineLaw.setPower (h : s.LineLaw) {p : Power} (hp : p.phase = s.power.phase) : (s.setPower p).LineLaw := by
  by_cases hr : s.ready
  · exact .of_judged (hp.trans hr) (h.judged hr)
  · exact .of_released (fun hr' => hr (hp.symm.trans hr')) (h.released hr)

theorem LineLaw.of_finishReset (h : t = s.finishReset) : t.LineLaw :=
  .of_judged (by rw [h]; exact s.finishReset_ready) (by rw [h]; exact s.finishReset_line)

theorem beginReset_line (s : State) {p : ResetPhase} (hp : p ≠ .ready) (c : ResetCause) : (s.beginReset p c).LineLaw :=
  .of_released hp rfl

theorem setResetPhase_line (hw : s.wake = { pending := 0, line := false }) {p : ResetPhase} (hp : p ≠ .ready) :
    (s.setResetPhase p).LineLaw := .of_released hp hw

theorem resetWork_line (hw : s.wake = { pending := 0, line := false }) : s.resetWork.LineLaw := by
  cases h : s.secondCauseNext
  · exact .of_finishReset (resetWork_of_none h)
  · rw [resetWork_of_second h]
    exact setResetPhase_line hw (by decide)

theorem beginHard_line (s : State) : s.beginHard.LineLaw := by
  unfold State.beginHard; dsimp only; split
  · exact beginReset_line s (by decide) _
  · exact resetWork_line rfl

theorem beginSoft_line (s : State) : s.beginSoft.LineLaw := resetWork_line rfl

theorem holdWork_line (hw : s.wake = { pending := 0, line := false }) : s.holdWork.LineLaw := by
  unfold State.holdWork; split
  · exact beginReset_line s (by decide) _
  all_goals exact setResetPhase_line hw (by decide)

theorem ready_of_phase {p : ResetPhase} (h : s.power.phase = p) (hp : p ≠ .ready) : ¬ s.ready := fun hr => hp (h.symm.trans hr)

theorem memoryClearDone_line (h : s.LineLaw) : Answers (exec .memoryClearDone s) LineLaw := by
  refine ⟨_, rfl, ?_⟩
  dsimp only; split
  next hp =>
    have hw : s.clearMemory.wake = { pending := 0, line := false } := by
      rw [(clearMemory_frame s).2.2.2.2.1]
      exact h.released (ready_of_phase hp nofun)
    split
    · exact setResetPhase_line hw (by decide)
    · exact resetWork_line hw
  · exact h

theorem hardResetAssert_line (h : s.LineLaw) : Answers (exec .hardResetAssert s) LineLaw := by
  refine ⟨_, rfl, ?_⟩
  have hpin : (s.setPin true).LineLaw := h.setPower rfl
  dsimp only; split
  · split
    · exact hpin.setPower rfl
    · exact beginHard_line _
  next hp => exact holdWork_line (h.released (ready_of_phase hp nofun))
  all_goals exact hpin

theorem hardResetRelease_line (h : s.LineLaw) : Answers (exec .hardResetRelease s) LineLaw := by
  refine ⟨_, rfl, ?_⟩
  have hpin : (s.setPin false).LineLaw := h.setPower rfl
  dsimp only; split
  next hp => exact resetWork_line (h.released (ready_of_phase hp nofun))
  next hp => exact resetWork_line (h.released (ready_of_phase hp nofun))
  all_goals exact hpin

theorem softReset_line (h : s.LineLaw) : Answers (exec .softReset s) LineLaw := by
  refine ⟨_, rfl, ?_⟩
  split
  · split
    · exact h
    · split
      · exact h.setPower rfl
      · exact beginSoft_line s
  next hp => exact resetWork_line (h.released (ready_of_phase hp nofun))
  all_goals exact h

theorem deferredResetBegin_line (h : s.LineLaw) : Answers (exec .deferredResetBegin s) LineLaw := by
  refine ⟨_, rfl, ?_⟩
  unfold State.whenReady; split
  · dsimp only; split
    · exact h
    · split
      · exact beginHard_line s
      · exact beginSoft_line s
      · exact h
  · exact h

theorem resetCommand_line {c : Instr} (hc : c ∈ resetCommands) (h : s.LineLaw) : Answers (exec c s) LineLaw := by
  simp only [resetCommands, List.mem_cons, List.not_mem_nil, or_false] at hc
  rcases hc with rfl | rfl | rfl | rfl | rfl | rfl | rfl | rfl
  · exact ⟨_, rfl, beginReset_line s (by decide) _⟩
  · exact ⟨_, rfl, beginReset_line s (by decide) _⟩
  · refine ⟨_, rfl, ?_⟩
    split
    next hp => exact .of_released nofun (h.released (ready_of_phase hp nofun))
    · exact h
  · exact memoryClearDone_line h
  · exact hardResetAssert_line h
  · exact hardResetRelease_line h
  · exact softReset_line h
  · exact deferredResetBegin_line h

/-- In a reset a block's command moves no more than the pins and the elapsed time (R125, R190). -/
theorem block_of_not_ready {c : Instr} (hc : blockCommand c = true) (hr : ¬ s.ready) :
    Answers (exec c s) fun t => t = { s with inputs := t.inputs, time := t.time } := by
  cases ha : actsInReset c
  · exact ⟨s, exec_of_not_ready ha hr, rfl⟩
  · cases c with
    | rawLevelChange i high => exact ⟨_, exec_rawLevelChange_of_not_ready hr i high, rfl⟩
    | tachActiveEdge i n => exact ⟨_, exec_tachActiveEdge_of_not_ready hr i n, rfl⟩
    | powerOn | brownOut | supplyRestored | memoryClearDone | hardResetAssert | hardResetRelease | softReset
    | hostWordAccess => simp [blockCommand] at hc
    | _ => simp [actsInReset] at ha

theorem LineLaw.of_eq (hp : t.power = s.power) (hw : t.wake = s.wake) (hg : t.settings = s.settings)
    (hd : t.duty = s.duty) (h : s.LineLaw) : t.LineLaw := by
  unfold LineLaw State.ready lineAsserted maskInForce at *
  rwa [hp, hw, hg, hd]

theorem exec_keepsLine (c : Instr) (s : State) (h : s.LineLaw) : Answers (exec c s) LineLaw := by
  rcases command_cases c with hc | hc | ⟨a, access, rfl⟩
  · by_cases hr : s.ready
    · obtain ⟨t, ht, hk⟩ := exec_keeps hc s
      exact ⟨t, ht, .of_judged (by rw [State.ready, hk.power]; exact hr) (hk.line (h.judged hr))⟩
    · obtain ⟨t, ht, he⟩ := block_of_not_ready hc hr
      refine ⟨t, ht, ?_⟩
      rw [he]
      exact .of_eq rfl rfl rfl rfl h
  · exact resetCommand_line hc h
  · obtain ⟨t, ht, ⟨v, rfl⟩ | ⟨v, -, -, rfl⟩ | rfl⟩ := exec_hostWordAccess a access s
    all_goals exact ⟨_, ht, .of_eq rfl rfl rfl rfl h⟩

/-! ## The law of resets (R190, R191) -/

/-- What memory and settings are once the memory clearing is done (R191). -/
def Cleared (s : State) : Prop := s.mem = writeWords [] 0 builtInBlock ∧ s.settings = builtInSettings ∧ s.refused = 0

/-- What the law of resets says of a part in reset, but for the command that comes next. -/
structure InReset (s : State) : Prop where
  work : s.WorkAbandoned
  deferred : s.power.deferred = none
  hard : s.power.phase = .hardHeld → s.power.cause = .hard
  cold : s.power.phase = .supplyLow ∨ s.power.phase = .clearing ∨ s.power.phase = .clearedHeld → s.power.cause.cold = true
  cleared : s.power.phase = .clearedHeld ∨ (s.power.phase = .working ∧ s.power.cause.cold = true) → s.Cleared

theorem ResetLaw.of_ready (h : s.ready) : s.ResetLaw := fun hr => absurd h hr

theorem InReset.law (h : s.InReset) (hw : s.power.phase = .working → s.secondCauseNext = true) : s.ResetLaw := fun _ =>
  ⟨h.work, h.deferred, h.hard, h.cold, hw, h.cleared⟩

theorem ResetLaw.inReset (h : s.ResetLaw) (hr : ¬ s.ready) : s.InReset := by
  obtain ⟨hwork, hdeferred, hhard, hcold, -, hcleared⟩ := h hr
  exact ⟨hwork, hdeferred, hhard, hcold, hcleared⟩

theorem beginReset_law (s : State) {p : ResetPhase} {c : ResetCause} (hhard : p = .hardHeld → c = .hard)
    (hcold : p = .supplyLow ∨ p = .clearing → c.cold = true) (hp : p ≠ .clearedHeld) (hw : p ≠ .working) :
    (s.beginReset p c).ResetLaw :=
  InReset.law
    { work := beginReset_abandoned s p c
      deferred := rfl
      hard := hhard
      cold := fun h => hcold (h.imp_right fun h => h.resolve_right hp)
      cleared := fun h => absurd h (not_or.mpr ⟨hp, fun h => hw h.1⟩) } fun h => absurd h hw

/-- The work of a reset whose blocks are abandoned, and whose memory is cleared where the reset clears it. -/
theorem resetWork_law (hwork : s.WorkAbandoned) (hdeferred : s.power.deferred = none)
    (hcleared : s.power.cause.cold = true → s.Cleared) : s.resetWork.ResetLaw := by
  cases h : s.secondCauseNext
  · rw [resetWork_of_none h]
    exact .of_ready (finishReset_ready _)
  · rw [resetWork_of_second h]
    exact InReset.law
      { work := hwork
        deferred := hdeferred
        hard := nofun
        cold := fun h => by rcases h with h | h | h <;> exact nomatch h
        cleared := fun h => hcleared (h.resolve_left nofun).2 } fun _ => h

theorem beginHard_law (s : State) : s.beginHard.ResetLaw := by
  unfold State.beginHard; dsimp only; split
  · exact beginReset_law s (fun _ => rfl) (fun h => by rcases h with h | h <;> exact nomatch h) nofun nofun
  · exact resetWork_law (beginReset_abandoned s _ _) rfl nofun

theorem beginSoft_law (s : State) : s.beginSoft.ResetLaw := resetWork_law (beginReset_abandoned s _ _) rfl nofun

/-- The reset input's level is no part of the law. -/
theorem InReset.setPin (h : s.InReset) (pin : Bool) : (s.setPin pin).InReset := { h with }

theorem setResetPhase_hard_law (h : s.InReset) (hc : s.power.cause = .hard) :
    (s.setResetPhase .hardHeld).ResetLaw :=
  InReset.law
    { work := h.work
      deferred := h.deferred
      hard := fun _ => hc
      cold := fun hp => by rcases hp with hp | hp | hp <;> exact nomatch hp
      cleared := fun hp => by rcases hp with hp | ⟨hp, -⟩ <;> exact nomatch hp } nofun

theorem setResetPhase_cleared_law (hwork : s.WorkAbandoned) (hdeferred : s.power.deferred = none)
    (hc : s.power.cause.cold = true) (hcleared : s.Cleared) : (s.setResetPhase .clearedHeld).ResetLaw :=
  InReset.law
    { work := hwork
      deferred := hdeferred
      hard := nofun
      cold := fun _ => hc
      cleared := fun _ => hcleared } nofun

theorem clearMemory_cleared (s : State) : s.clearMemory.Cleared :=
  ⟨s.clearMemory_mem, s.clearMemory_settings, by simp [State.clearMemory]⟩

theorem clearMemory_abandoned (h : s.WorkAbandoned) : s.clearMemory.WorkAbandoned := by
  unfold WorkAbandoned at *
  simpa using h

theorem holdWork_law (h : s.InReset) (hp : s.power.phase = .working) : s.holdWork.ResetLaw := by
  unfold State.holdWork; split
  · exact beginReset_law s (fun _ => rfl) (fun h => by rcases h with h | h <;> exact nomatch h) nofun nofun
  next hc => exact setResetPhase_hard_law h hc
  next hc =>
    have hcold : s.power.cause.cold = true := by rw [hc]; rfl
    exact setResetPhase_cleared_law h.work h.deferred hcold (h.cleared (.inr ⟨hp, hcold⟩))
  next hc =>
    have hcold : s.power.cause.cold = true := by rw [hc]; rfl
    exact setResetPhase_cleared_law h.work h.deferred hcold (h.cleared (.inr ⟨hp, hcold⟩))

/-- What the law says of the state that a command finds: it stands in the queue no longer, and the reset work is met by the
causes of R190's table alone (log 19). -/
structure MetInReset (c : Instr) (s : State) : Prop extends InReset s where
  met : s.power.phase = .working → c = .hardResetAssert ∨ c = .brownOut ∨ c = .softReset

theorem MetInReset.unchanged {c : Instr} (h : MetInReset c s) (hc : c ≠ .hardResetAssert ∧ c ≠ .brownOut ∧ c ≠ .softReset) :
    s.ResetLaw :=
  h.law fun hp => by
    rcases h.met hp with rfl | rfl | rfl
    · exact absurd rfl hc.1
    · exact absurd rfl hc.2.1
    · exact absurd rfl hc.2.2

theorem supplyRestored_law (h : ¬ s.ready → MetInReset .supplyRestored s) : Answers (exec .supplyRestored s) ResetLaw := by
  refine ⟨_, rfl, ?_⟩
  split
  next hp =>
    have hin := h (ready_of_phase hp nofun)
    exact InReset.law
      { work := hin.work
        deferred := hin.deferred
        hard := nofun
        cold := fun _ => hin.cold (.inl hp)
        cleared := fun hp => by rcases hp with hp | ⟨hp, -⟩ <;> exact nomatch hp } nofun
  · exact fun hr => (h hr).unchanged ⟨nofun, nofun, nofun⟩ hr

theorem memoryClearDone_law (h : ¬ s.ready → MetInReset .memoryClearDone s) : Answers (exec .memoryClearDone s) ResetLaw := by
  refine ⟨_, rfl, ?_⟩
  dsimp only; split
  next hp =>
    have hin := h (ready_of_phase hp nofun)
    have hpower := (clearMemory_frame s).2.2.1
    have hdeferred : s.clearMemory.power.deferred = none := by rw [hpower]; exact hin.deferred
    have hwork := clearMemory_abandoned hin.work
    split
    · exact setResetPhase_cleared_law hwork hdeferred (by rw [hpower]; exact hin.cold (.inr (.inl hp))) s.clearMemory_cleared
    · exact resetWork_law hwork hdeferred fun _ => s.clearMemory_cleared
  · exact fun hr => (h hr).unchanged ⟨nofun, nofun, nofun⟩ hr

theorem hardResetAssert_law (h : ¬ s.ready → MetInReset .hardResetAssert s) : Answers (exec .hardResetAssert s) ResetLaw := by
  refine ⟨_, rfl, ?_⟩
  dsimp only; split
  next hp =>
    split
    · exact .of_ready hp
    · exact beginHard_law _
  next hp => exact holdWork_law ((h (ready_of_phase hp nofun)).toInReset.setPin true) hp
  all_goals
    next hp =>
      exact ((h (ready_of_phase hp nofun)).toInReset.setPin true).law fun hw => nomatch hp.symm.trans hw

theorem hardResetRelease_law (h : ¬ s.ready → MetInReset .hardResetRelease s) :
    Answers (exec .hardResetRelease s) ResetLaw := by
  refine ⟨_, rfl, ?_⟩
  dsimp only; split
  next hp =>
    have hin := h (ready_of_phase hp nofun)
    exact resetWork_law hin.work hin.deferred fun hcold => by
      rw [show (s.setPin false).power.cause = s.power.cause from rfl, hin.hard hp] at hcold
      exact nomatch hcold
  next hp =>
    have hin := h (ready_of_phase hp nofun)
    exact resetWork_law hin.work hin.deferred fun _ => hin.cleared (.inl hp)
  next hp => exact .of_ready hp
  next hp => exact ((h (ready_of_phase hp nofun)).toInReset.setPin false).law fun hw => nomatch hp.symm.trans hw
  next hp => exact ((h (ready_of_phase hp nofun)).toInReset.setPin false).law fun hw => nomatch hp.symm.trans hw
  next hp =>
    rcases (h (ready_of_phase hp nofun)).met hp with e | e | e <;> exact nomatch e

theorem softReset_law (h : ¬ s.ready → MetInReset .softReset s) : Answers (exec .softReset s) ResetLaw := by
  refine ⟨_, rfl, ?_⟩
  split
  next hp =>
    split
    · exact .of_ready hp
    · split
      · exact .of_ready hp
      · exact beginSoft_law s
  next hp =>
    have hin := h (ready_of_phase hp nofun)
    exact resetWork_law hin.work hin.deferred fun hcold => hin.cleared (.inr ⟨hp, hcold⟩)
  all_goals
    next hp => exact (h (ready_of_phase hp nofun)).toInReset.law fun hw => nomatch hp.symm.trans hw

theorem deferredResetBegin_law (h : ¬ s.ready → MetInReset .deferredResetBegin s) :
    Answers (exec .deferredResetBegin s) ResetLaw := by
  refine ⟨_, rfl, ?_⟩
  unfold State.whenReady; split
  next hr =>
    dsimp only; split
    · exact .of_ready hr
    · split
      · exact beginHard_law s
      · exact beginSoft_law s
      · exact .of_ready hr
  next hr => exact (h hr).unchanged ⟨nofun, nofun, nofun⟩

theorem resetCommand_law {c : Instr} (hc : c ∈ resetCommands) (h : ¬ s.ready → MetInReset c s) :
    Answers (exec c s) ResetLaw := by
  simp only [resetCommands, List.mem_cons, List.not_mem_nil, or_false] at hc
  rcases hc with rfl | rfl | rfl | rfl | rfl | rfl | rfl | rfl
  · exact ⟨_, rfl, beginReset_law s nofun (fun _ => rfl) nofun nofun⟩
  · exact ⟨_, rfl, beginReset_law s nofun (fun _ => rfl) nofun nofun⟩
  · exact supplyRestored_law h
  · exact memoryClearDone_law h
  · exact hardResetAssert_law h
  · exact hardResetRelease_law h
  · exact softReset_law h
  · exact deferredResetBegin_law h

theorem ne_of_block {c d : Instr} (hc : blockCommand c = true) (hd : blockCommand d = false) : c ≠ d := fun e => by
  rw [e, hd] at hc
  exact nomatch hc

theorem exec_keepsResetLaw {c : Instr} (h : ¬ s.ready → MetInReset c s) : Answers (exec c s) ResetLaw := by
  rcases command_cases c with hc | hc | ⟨a, access, rfl⟩
  · by_cases hr : s.ready
    · obtain ⟨t, ht, hk⟩ := exec_keeps hc s
      exact ⟨t, ht, .of_ready (by rw [State.ready, hk.power]; exact hr)⟩
    · obtain ⟨t, ht, he⟩ := block_of_not_ready hc hr
      refine ⟨t, ht, ?_⟩
      have hlaw := (h hr).unchanged ⟨ne_of_block hc rfl, ne_of_block hc rfl, ne_of_block hc rfl⟩
      rw [he]
      exact hlaw
  · exact resetCommand_law hc h
  · obtain ⟨t, ht, ⟨v, rfl⟩ | ⟨v, -, hr, rfl⟩ | rfl⟩ := exec_hostWordAccess a access s
    · exact ⟨_, ht, fun hr => (h hr).unchanged ⟨nofun, nofun, nofun⟩ hr⟩
    · exact ⟨_, ht, .of_ready hr⟩
    · exact ⟨_, ht, fun hr => (h hr).unchanged ⟨nofun, nofun, nofun⟩ hr⟩

end Sys2Proof.Machine.State
end

section
/-! PROOFS. The laws of the wake line and of resets, the step, the beginning of resets and the registers. -/

namespace Sys2Proof.Machine.State

variable {s t : State}

theorem reset_geometry : State.reset.GeometryOk := by unfold GeometryOk; decide

theorem reset_duty : State.reset.DutyLaw := by
  refine ⟨builtInSettings_duties, fun c => ?_⟩
  have hchannel : State.reset.duty.channels[c] = resetChannel := by simp [State.reset]
  simp only [hchannel, resetChannel]
  simp

theorem reset_line : State.reset.LineLaw := .of_judged rfl (by decide)

/-- What the step finds of the law of resets: the command it takes off the queue is the cause that met the work. -/
theorem ResetLaw.met {c : Instr} {rest : List Instr} (h : s.ResetLaw) (hq : s.pending = c :: rest)
    (hr : ¬ (s.setPending rest).ready) : MetInReset c (s.setPending rest) where
  toInReset := { h.inReset hr with }
  met hp := by
    obtain ⟨-, -, -, -, hsecond, -⟩ := h hr
    have hnext := hsecond hp
    unfold secondCauseNext at hnext
    rw [hq] at hnext
    split at hnext <;> simp_all

theorem step_keepsResetLaw (h : s.ResetLaw) (ht : step s = .next t) : t.ResetLaw := by
  unfold step at ht; split at ht
  · cases ht
    exact h
  next c rest hq =>
    obtain ⟨u, hu, hlaw⟩ := exec_keepsResetLaw (h.met hq)
    rw [hu] at ht
    cases ht
    exact hlaw

/-! ## A second cause meets the work of a reset (R190, log 19) -/

theorem beginReset_secondCauseNext (s : State) (p : ResetPhase) (c : ResetCause) :
    (s.beginReset p c).secondCauseNext = s.secondCauseNext := by
  simp [secondCauseNext]

theorem beginSoft_met (h : s.secondCauseNext = true) : s.ResetBegun s.beginSoft .working .soft s.power.pin := by
  unfold State.beginSoft
  rw [resetWork_of_second ((beginReset_secondCauseNext ..).trans h)]
  have h := beginReset_begun s .working .soft
  exact setResetPhase_begun h

theorem beginHard_held (h : s.power.pin = true) : s.beginHard = s.beginReset .hardHeld .hard := by
  unfold State.beginHard
  exact if_pos h

theorem beginHard_released (h : s.power.pin = false) : s.beginHard = (s.beginReset .hardHeld .hard).resetWork := by
  unfold State.beginHard
  exact if_neg (by rw [show (s.beginReset .hardHeld .hard).power.pin = s.power.pin from rfl, h]; exact nofun)

theorem beginHard_met (hp : s.power.pin = false) (h : s.secondCauseNext = true) :
    s.ResetBegun s.beginHard .working .hard false := by
  rw [beginHard_released hp, resetWork_of_second ((beginReset_secondCauseNext ..).trans h), ← hp]
  have h := beginReset_begun s .hardHeld .hard
  exact setResetPhase_begun h

theorem hardResetAssert_ready (hr : s.ready) (hc : s.req.current = none) :
    exec .hardResetAssert s = .next ((s.setPin true).beginReset .hardHeld .hard) := by
  have hphase : (s.setPin true).power.phase = .ready := hr
  have hcurrent : ¬ (s.setPin true).req.current.isSome := by simp [State.setPin, hc]
  refine congrArg Host.Outcome.next ?_
  dsimp only
  rw [hphase]
  dsimp only
  rw [if_neg hcurrent]
  exact beginHard_held rfl

theorem hardResetRelease_waiting (hp : s.power.phase = .hardHeld ∨ s.power.phase = .clearedHeld) :
    exec .hardResetRelease s = .next (s.setPin false).resetWork := by
  refine congrArg Host.Outcome.next ?_
  have hphase : (s.setPin false).power.phase = s.power.phase := rfl
  dsimp only
  rcases hp with hp | hp <;> rw [hphase, hp]

theorem softReset_ready (hr : s.ready) (hd : s.power.deferred = none) (hc : s.req.current = none) :
    exec .softReset s = .next s.beginSoft := by
  refine congrArg Host.Outcome.next ?_
  rw [show s.power.phase = .ready from hr, hd, hc]
  rfl

theorem softReset_working (hp : s.power.phase = .working) : exec .softReset s = .next s.resetWork := by
  refine congrArg Host.Outcome.next ?_
  rw [hp]

theorem deferredResetBegin_ready (hr : s.ready) (hc : s.req.current = none) :
    exec .deferredResetBegin s =
      .next (match s.power.deferred with | some .hard => s.beginHard | some .soft => s.beginSoft | none => s) := by
  refine congrArg Host.Outcome.next ?_
  rw [whenReady_of_ready _ hr, hc]
  rfl

theorem hardResetAssert_working (hp : s.power.phase = .working) :
    exec .hardResetAssert s = .next (s.setPin true).holdWork := by
  refine congrArg Host.Outcome.next ?_
  dsimp only
  rw [show (s.setPin true).power.phase = s.power.phase from rfl, hp]

theorem hardResetAssert_held
    (hp : s.power.phase = .supplyLow ∨ s.power.phase = .clearing ∨ s.power.phase = .clearedHeld ∨ s.power.phase = .hardHeld) :
    exec .hardResetAssert s = .next (s.setPin true) := by
  refine congrArg Host.Outcome.next ?_
  dsimp only
  rcases hp with hp | hp | hp | hp <;> rw [show (s.setPin true).power.phase = s.power.phase from rfl, hp]

end Sys2Proof.Machine.State

open Sys2Proof.Machine State in
/-- Settles O1: the two branches of the step. -/
theorem stepRunsFrontCommand : Obligations.StepRunsFrontCommand := by
  refine fun c rest s => ⟨fun h => ?_, fun h => ?_⟩
  · unfold step
    rw [h]
    rfl
  · unfold step
    split
    · rfl
    next hq => exact nomatch h.symm.trans hq

open Sys2Proof.Machine State in
/-- Settles O4: every change of the causes or of the mask judges the line, and a reset releases it. -/
theorem stepKeepsWakeLineJudged : Obligations.StepKeepsWakeLineJudged := fun _ _ hs h =>
  step_keeps (fun _ hl => hl) (fun _ hl => hl) exec_keepsLine hs h

open Sys2Proof.Machine State in
/-- Settles O8: in a reset the commands of R190's table alone move more than pins and time, and each leaves the blocks at
rest. -/
theorem stepKeepsResetLaw : Obligations.StepKeepsResetLaw := fun _ _ hs h => step_keepsResetLaw hs h

open Sys2Proof.Machine State in
/-- Settles O9: the laws of the state right after a power-on reset, by evaluation of its few fields. -/
theorem lawsHoldAtReset : Obligations.LawsHoldAtReset :=
  ⟨reset_mem_wf, reset_line, by unfold CountLaw; decide, ⟨List.nodup_nil, trivial⟩, ⟨by decide, fun _ => rfl⟩, reset_duty,
    reset_geometry, .of_ready rfl⟩

open Sys2Proof.Machine State in
/-- Settles O12: each beginning by `beginReset_begun`, and a second cause by where it stands in the queue. -/
theorem resetsBegin : Obligations.ResetsBegin := by
  intro s
  refine ⟨⟨_, rfl, beginReset_begun s _ _⟩, ⟨_, rfl, beginReset_begun s _ _⟩,
    fun hr hc => ⟨_, hardResetAssert_ready hr hc, setPin_begun true⟩, fun hn => ⟨fun hr hd hc => ?_, fun hp => ?_, fun hr hc => ?_⟩,
    fun hp => ⟨fun hc => ?_, fun hc => ?_, fun hc => ?_, fun hn => ?_⟩, fun hp => hardResetAssert_held hp⟩
  · exact ⟨_, softReset_ready hr hd hc, beginSoft_met hn⟩
  · rw [hardResetRelease_waiting hp, resetWork_of_second (s := s.setPin false) hn]
    rfl
  · refine ⟨fun hd => ⟨_, deferredResetBegin_ready hr hc, ?_⟩, fun hd hpin => ⟨_, deferredResetBegin_ready hr hc, ?_⟩⟩
    · rw [hd]
      exact beginSoft_met hn
    · rw [hd]
      exact beginHard_met hpin hn
  · refine ⟨_, hardResetAssert_working hp, ?_⟩
    unfold State.holdWork
    rw [show (s.setPin true).power.cause = s.power.cause from rfl, hc]
    exact setPin_begun true
  · rw [hardResetAssert_working hp]
    unfold State.holdWork
    rw [show (s.setPin true).power.cause = s.power.cause from rfl, hc]
    rfl
  · rw [hardResetAssert_working hp]
    unfold State.holdWork
    rw [show (s.setPin true).power.cause = s.power.cause from rfl]
    cases h : s.power.cause <;> first | rfl | (rw [h] at hc; exact nomatch hc)
  · rw [softReset_working hp, resetWork_of_second hn]
    unfold State.setResetPhase
    rw [← hp]
    rfl

open Sys2Proof.Machine State in
/-- Settles O16: the registers and the Memory Port act by one branch on READY each. -/
theorem registersAndPortServeTheHost : Obligations.RegistersAndPortServeTheHost := by
  intro v s
  have hasked : s.requestSweep =
      s.setReq (if s.req.sweep = none then { s.req with sweep := some 0 } else { s.req with sweepPending := true }) := by
    unfold State.requestSweep
    cases h : s.req.sweep <;> rfl
  refine ⟨fun hr => ⟨?_, ?_, fun hd => ?_, fun a => ⟨?_, ?_⟩⟩, fun _ => rfl, fun hr => ⟨?_, ?_, fun hp => ?_, ?_, ?_, ?_, fun a => ⟨?_, ?_⟩⟩⟩
  · exact congrArg Host.Outcome.next (whenReady_of_ready _ hr)
  · exact congrArg Host.Outcome.next ((whenReady_of_ready _ hr).trans hasked)
  · refine congrArg Host.Outcome.next ((whenReady_of_ready _ hr).trans ((whenDue_of_le s _ hd).trans ?_))
    unfold State.requestSweep
    cases h : s.req.sweep <;> rw [setTime_req, h] <;> rfl
  · exact congrArg Host.Outcome.next (if_pos hr)
  · exact ⟨s.poke a.toNat v, congrArg Host.Outcome.next (if_pos hr), peek_poke_same _ _ _ a.isLt, poke_keepsWords _ _ _, rfl⟩
  · exact congrArg Host.Outcome.next (whenReady_of_not_ready hr _)
  · exact congrArg Host.Outcome.next (whenReady_of_not_ready hr _)
  · refine congrArg Host.Outcome.next ?_
    cases h : s.power.phase <;> first | rfl | exact absurd h hr | exact absurd h hp
  · exact if_neg hr
  · exact if_neg hr
  · exact if_neg hr
  · exact congrArg Host.Outcome.next (if_neg hr)
  · exact congrArg Host.Outcome.next (if_neg hr)
end

section
/-! PROOFS. The frames that a command begins: a write-type frame with the visit state OFF (R27, R137). -/

namespace Sys2Proof.Machine.State

variable {s t u : State}

/-- The controller sends the frame of a unit of work. -/
def SendsWork (c : BusCtl) : Prop := ∃ w n, c = .sending (.work w n)

/-- No frame of a unit of work has begun from `s` to `t`. -/
def BeginsNone (s t : State) : Prop := t.bus.ctl = s.bus.ctl ∨ ¬ SendsWork t.bus.ctl

/-- A write-type frame that has begun from `s` to `t` is begun with the visit state OFF (R137). -/
def BeginsHeld (s t : State) : Prop :=
  BeginsNone s t ∨ t.visit.state = .off ∨ ∀ w n, t.bus.ctl = .sending (.work w n) → w.writeType = false

theorem BeginsNone.refl (s : State) : BeginsNone s s := .inl rfl

theorem BeginsNone.held (h : BeginsNone s t) : BeginsHeld s t := .inl h

theorem BeginsNone.of_ctl (h : BeginsNone s t) (hc : u.bus.ctl = t.bus.ctl) : BeginsNone s u := by
  unfold BeginsNone at *; rwa [hc]

theorem BeginsNone.of_bus (h : BeginsNone s t) (hb : u.bus = t.bus) : BeginsNone s u := h.of_ctl (by rw [hb])

theorem BeginsNone.offer (h : BeginsNone s t) (r : Record) : BeginsNone s (t.offer r) := h.of_bus (by simp)
theorem BeginsNone.raiseCause (h : BeginsNone s t) (c : WakeCause) : BeginsNone s (t.raiseCause c) := h.of_bus (by simp)
theorem BeginsNone.offerVisit (h : BeginsNone s t) (e : VisitEvent) : BeginsNone s (t.offerVisit e) := h.of_bus (by simp)
theorem BeginsNone.cancelPending (h : BeginsNone s t) : BeginsNone s t.cancelPending := h.of_ctl rfl
theorem BeginsNone.offerTriggerTo (h : BeginsNone s t) (l : Option (Fin 32)) (src : Source) :
    BeginsNone s (t.offerTriggerTo l src) := h.of_bus (by simp)

theorem BeginsNone.ite {p : Prop} [Decidable p] (ht : BeginsNone s t) (hu : BeginsNone s u) :
    BeginsNone s (if p then t else u) := by split <;> assumption

theorem BeginsHeld.ite {p : Prop} [Decidable p] (ht : BeginsHeld s t) (hu : BeginsHeld s u) :
    BeginsHeld s (if p then t else u) := by split <;> assumption

theorem BeginsNone.foldl {α : Type} (h : BeginsNone s t) (f : State → α → State) (l : List α)
    (hf : ∀ u a, BeginsNone s u → BeginsNone s (f u a)) : BeginsNone s (l.foldl f t) := by
  induction l generalizing t with
  | nil => exact h
  | cons a l ih => exact ih (hf _ _ h)

theorem setCtl_ctl (s : State) (c : BusCtl) : (s.setCtl c).bus.ctl = c := by simp [State.setCtl]

theorem setCtl_bus (s : State) (c : BusCtl) : (s.setCtl c).bus = { s.bus with ctl := c } := by simp [State.setCtl]

theorem setStation_bus (s : State) (i : Fin 30) (x : Station) :
    (s.setStation i x).bus = { s.bus with stations := s.bus.stations.set i x } := by simp [State.setStation]

theorem setCounts_bus (s : State) (c : BusCounts) : (s.setCounts c).bus = { s.bus with counts := c } := by
  simp [State.setCounts]

/-- The controller goes to a state in which it sends no work. -/
theorem BeginsNone.setCtl (t : State) {c : BusCtl} (hc : ¬ SendsWork c) : BeginsNone s (t.setCtl c) :=
  .inr (by rwa [setCtl_ctl])

theorem not_sendsWork_visit (b : VisitBroadcast) : ¬ SendsWork (.sending (.visit b)) := fun ⟨_, _, h⟩ => nomatch h

theorem BeginsNone.setStation (h : BeginsNone s t) (i : Fin 30) (x : Station) : BeginsNone s (t.setStation i x) :=
  h.of_ctl (by rw [setStation_bus])

theorem BeginsNone.setCounts (h : BeginsNone s t) (c : BusCounts) : BeginsNone s (t.setCounts c) :=
  h.of_ctl (by rw [setCounts_bus])

theorem BeginsNone.reportStation (h : BeginsNone s t) (i : Fin 30) (old : StationState) (c : Nat) :
    BeginsNone s (t.reportStation i old c) := h.of_bus (by simp)

theorem BeginsNone.heard (h : BeginsNone s t) (i : Fin 30) (how : Exchange) : BeginsNone s (t.heard i how) := by
  have hset := h.setStation i
    { t.bus.stations[i] with state := .present, silences := 0, lastReply := t.time.timestamp }
  dsimp only [State.heard]; split
  · cases how
    · exact (hset.of_bus (by simp)).reportStation ..
    · exact hset.reportStation ..
  · exact hset

theorem BeginsNone.silence (h : BeginsNone s t) (i : Fin 30) (how : Exchange) : BeginsNone s (t.silence i how) :=
  .ite ((h.setStation ..).reportStation ..) (h.setStation ..)

theorem BeginsNone.attend (h : BeginsNone s t) (i : Fin 30) : BeginsNone s (t.attend i) :=
  .ite h ((h.setStation ..).offerTriggerTo ..)

theorem BeginsNone.statusByte (h : BeginsNone s t) (i : Fin 30) (b : Nat) : BeginsNone s (t.statusByte i b) :=
  .ite ((h.setStation ..).attend i) ((h.setStation ..).setStation ..)

theorem BeginsNone.reexamine (h : BeginsNone s t) (i : Fin 30) : BeginsNone s (t.reexamine i) :=
  .ite ((h.setStation ..).reportStation ..) h

theorem BeginsNone.judged (h : BeginsNone s t) (a : Awaited) (bits : List Bool) : BeginsNone s (t.judged a bits).1 := by
  unfold State.judged; split
  · exact (h.setStation ..).setCounts _
  · exact ((h.of_bus (u := t.offer _) (by simp)).setStation ..).setCounts _
  · have hheard : BeginsNone s (t.heard a.station .transaction).countGood := (h.heard ..).setCounts _
    exact .ite (.ite (hheard.statusByte ..) hheard) (.ite (hheard.attend _) hheard)

/-! ## Taking what waits (R52, R74) -/

theorem BeginsNone.startDrain (t : State) : BeginsNone s t.startDrain :=
  .setCtl t fun ⟨_, _, h⟩ => nomatch h

/-- A visit broadcast that waits is taken before any work. -/
theorem BeginsNone.takePending (h : BeginsNone s t) {b : VisitBroadcast} (hp : t.bus.visitPending = some b) :
    BeginsNone s t.takeWaiting := by
  unfold State.takeWaiting; split
  · rw [hp]
    exact .ite (.startDrain t) (.setCtl _ (not_sendsWork_visit b))
  all_goals exact h

theorem BeginsNone.makePending (h : BeginsNone s t) (b : VisitBroadcast) : BeginsNone s (t.makePending b) :=
  BeginsNone.takePending (b := b) (h.of_ctl rfl) rfl

theorem BeginsHeld.busResult (h : BeginsHeld s t) (r : BusResult) : BeginsHeld s (t.busResult r) := by
  unfold BeginsHeld BeginsNone at *
  simpa using h

/-- A write-type unit is sent only with the visit state OFF (R27). -/
theorem BeginsNone.takeWork (h : BeginsNone s t) (w : Work) : BeginsHeld s (t.takeWork w) := by
  unfold State.takeWork; split
  · exact (BeginsNone.startDrain _).held
  · split
    · exact h.held.busResult _
    next hvisit =>
      split
      · exact h.held.busResult _
      · refine .inr ?_
        rcases not_and_or.mp hvisit with hw | hv
        · refine .inr fun w' n hctl => ?_
          rw [setCtl_ctl] at hctl
          cases hctl
          simpa using hw
        · exact .inl (by simpa using hv)

theorem BeginsNone.setWaiting (h : BeginsNone s t) (w : Option Work) : BeginsNone s (t.setWaiting w) := h.of_ctl rfl

theorem BeginsNone.takeWaiting (h : BeginsNone s t) : BeginsHeld s t.takeWaiting := by
  cases hp : t.bus.visitPending with
  | some b => exact (h.takePending hp).held
  | none =>
    unfold State.takeWaiting; split
    · rw [hp]
      dsimp only; split
      · exact (h.setWaiting none).takeWork _
      · exact h.held
    all_goals exact h.held

theorem BeginsHeld.enterIdle (t : State) : BeginsHeld s t.enterIdle :=
  (BeginsNone.setCtl t fun ⟨_, _, h⟩ => nomatch h).takeWaiting

theorem BeginsNone.handStep (h : BeginsNone s t) (step : BusStep) (w : Work) : BeginsHeld s (t.handStep step w) :=
  ((h.of_bus (u := t.setPhase (.bus step)) (by simp)).setWaiting _).takeWaiting

theorem BeginsHeld.endBlock (t : State) (e : BlockEnding) (ws : List Nat) : BeginsHeld s (t.endBlock e ws) := by
  unfold State.endBlock; split
  · exact (BeginsNone.startDrain t).held.busResult _
  · exact (BeginsNone.startDrain t).held.busResult _
  · exact (BeginsNone.startDrain t).held.busResult _
  all_goals exact (BeginsHeld.enterIdle t).busResult _

theorem BeginsNone.blockReply (h : BeginsNone s t) (b : BlockRead) (n : Nat) (ws : List Nat) (bits : List Bool) :
    BeginsHeld s (t.blockReply b n ws bits) := by
  have hend (e : BlockEnding) (ws : List Nat) : BeginsHeld s ((t.judged b.awaits bits).1.endBlock e ws) := .endBlock _ e ws
  have hjudged := (h.judged b.awaits bits).held
  dsimp only [State.blockReply]; split
  · exact hend ..
  · exact hend ..
  · exact hend ..
  · exact hend ..
  · exact .ite (hend ..) (.ite (hend ..) (.ite (hend ..) (BeginsNone.setCtl _ fun ⟨_, _, h⟩ => nomatch h).held))
  all_goals exact hjudged

theorem BeginsNone.strayBegins (h : BeginsNone s t) : BeginsNone s t.strayBegins := by
  dsimp only [State.strayBegins]; split
  · exact .setCtl _ fun ⟨_, _, h⟩ => nomatch h
  · exact .setCtl _ fun ⟨_, _, h⟩ => nomatch h
  · exact h.of_ctl rfl
  · exact h.of_ctl rfl
  all_goals exact h

theorem BeginsNone.strayEnds (h : BeginsNone s t) : BeginsNone s t.strayEnds := by
  have hquiet : BeginsNone s (t.setBus { t.bus with strayArriving := false }) := h.of_ctl rfl
  have hend : BeginsNone s ((t.setBus { t.bus with strayArriving := false }).countStray) := hquiet.setCounts _
  dsimp only [State.strayEnds]; split
  · exact .setCtl _ fun ⟨_, _, h⟩ => nomatch h
  · exact .setCtl _ fun ⟨_, _, h⟩ => nomatch h
  · exact hend
  · exact hend
  all_goals exact h

theorem BeginsNone.replyBegins (h : BeginsNone s t) : BeginsNone s t.replyBegins := by
  unfold State.replyBegins; split
  · exact .setCtl _ fun ⟨_, _, h⟩ => nomatch h
  · exact .setCtl _ fun ⟨_, _, h⟩ => nomatch h
  all_goals exact h.strayBegins

theorem BeginsHeld.passSlot (s t : State) (i : Fin 30) (p a : Word) (r : SlotReading) :
    BeginsHeld s (t.passSlot i p a r) := by
  dsimp only [State.passSlot]; split
  · exact (BeginsNone.setCtl _ fun ⟨_, _, h⟩ => nomatch h).held
  · exact (BeginsHeld.enterIdle _).busResult _

/-! ## The visit machine and the inputs (chapter 6) -/

theorem BeginsNone.setVisitState (h : BeginsNone s t) (v : Visit) : BeginsNone s (t.setVisitState v) := h.of_bus (by simp)

theorem BeginsNone.visitBegin (h : BeginsNone s t) (i : Fin 16) (st : Stamp) : BeginsNone s (t.visitBegin i st) :=
  ((((h.setVisitState _).offerVisit _).raiseCause _).offerTriggerTo _ _).makePending _

theorem BeginsNone.visitEnding (h : BeginsNone s t) : BeginsNone s t.visitEnding := (h.setVisitState _).makePending _

theorem BeginsNone.visitAbort (h : BeginsNone s t) : BeginsNone s t.visitAbort :=
  (h.cancelPending.setVisitState _).offerVisit _

theorem BeginsNone.visitActive (h : BeginsNone s t) (i : Fin 16) (st : Stamp) : BeginsNone s (t.visitActive i st) := by
  unfold State.visitActive; split
  · exact h.visitBegin i st
  · exact h
  · exact h
  · exact h.setVisitState _
  · exact h.cancelPending.setVisitState _

theorem BeginsNone.visitInactive (h : BeginsNone s t) : BeginsNone s t.visitInactive := by
  unfold State.visitInactive; split
  · exact h
  · exact h
  · exact h
  · exact h.visitAbort
  · exact .ite h.visitEnding (h.setVisitState _)

theorem BeginsNone.visitForcedEnd (h : BeginsNone s t) : BeginsNone s t.visitForcedEnd := by
  unfold State.visitForcedEnd; split
  · exact h
  · exact h
  · exact h.visitAbort
  · exact h.visitEnding
  · exact h.visitEnding

theorem BeginsNone.visitReport (h : BeginsNone s t) (b : VisitBroadcast) : BeginsNone s (t.visitReport b) := by
  unfold State.visitReport; split
  · exact h.makePending _
  · exact h.setVisitState _
  · exact h
  · exact h
  · exact h
  · exact h
  · exact h
  · exact h.makePending _
  · exact h.makePending _
  · exact ((h.setVisitState _).offerVisit _).raiseCause _

theorem BeginsNone.contactEdge (h : BeginsNone s t) (i : Fin 16) (active : Bool) : BeginsNone s (t.contactEdge i active) := by
  dsimp only [State.contactEdge]
  have hcount := h.of_bus (u := t.countEdge i active) (by simp)
  have hrecord := BeginsNone.ite (p := (t.settings.inputs[i]).recordEdges.has active = true)
    (hcount.offer (edgeRecord i active t.time.timestamp)) hcount
  have hwake := BeginsNone.ite (p := (t.settings.inputs[i]).wakeEdges.has active = true) (hrecord.raiseCause .edge) hrecord
  have htrigger := BeginsNone.ite (p := (t.settings.inputs[i]).triggerEdge.has active = true)
    (hwake.offerTriggerTo (t.settings.inputs[i]).triggerList .edge) hwake
  exact .ite (.ite (htrigger.visitActive ..) htrigger.visitInactive) htrigger

theorem BeginsNone.settleEvent (h : BeginsNone s t) (i : Fin 16) : BeginsNone s (t.settleEvent i) := by
  unfold State.settleEvent; split
  · exact h.visitActive i _
  · exact h

theorem BeginsNone.contactRaw (h : BeginsNone s t) (i : Fin 16) : BeginsNone s (t.contactRaw i) :=
  .ite ((h.of_bus (u := t.beginFirstWindow i) (by simp)).settleEvent i)
    (.ite (h.of_bus (by simp)) (.ite (h.contactEdge ..) (h.of_bus (by simp))))

theorem BeginsNone.endWindow (h : BeginsNone s t) (i : Fin 16) : BeginsNone s (t.endWindow i) :=
  .ite (h.of_bus (by simp)) (h.contactEdge ..)

theorem BeginsNone.applyBus (h : BeginsNone s t) (old : Settings) : BeginsNone s (t.applyBus old) :=
  .ite (h.foldl _ _ fun _ i hu => hu.reexamine i) h

theorem BeginsNone.applySettleEvent (h : BeginsNone s t) (old : Settings) : BeginsNone s (t.applySettleEvent old) := by
  unfold State.applySettleEvent; split
  · exact .ite (h.settleEvent _) h
  · exact h

theorem BeginsNone.applyInputs (h : BeginsNone s t) (old : Settings) : BeginsNone s (t.applyInputs old) := by
  have hinputs := (h.foldl (State.applyEnable old) (List.finRange 16) fun _ i hu => hu.of_bus (by simp)).foldl
    (State.applyStallTime old) (List.finRange 16) fun _ i hu => hu.of_bus (by simp)
  exact BeginsNone.applySettleEvent (.ite hinputs.visitForcedEnd hinputs) old

theorem BeginsNone.applyCollection (h : BeginsNone s t) (old : Settings) : BeginsNone s (t.applyCollection old) :=
  h.of_bus (by simp)

theorem BeginsNone.applyChannels (h : BeginsNone s t) (old : Settings) : BeginsNone s (t.applyChannels old) :=
  h.of_bus (by simp)

theorem BeginsNone.recomputeShed (h : BeginsNone s t) (c : ShedCause) : BeginsNone s (t.recomputeShed c) :=
  h.of_bus (by simp)

theorem BeginsNone.acceptSettings (h : BeginsNone s t) (new : Settings) : BeginsNone s (t.acceptSettings new) := by
  have htaken : BeginsNone s (t.setSettings new).judge := h.of_ctl rfl
  have happlied := (((htaken.applyCollection t.settings).applyBus t.settings).applyInputs t.settings).applyChannels t.settings
  exact (happlied.of_bus (u := State.applyTimers _ t.settings) (by simp)).recomputeShed _

theorem BeginsNone.applySettings (h : BeginsNone s t) : BeginsNone s t.applySettings.1 := by
  dsimp only [State.applySettings]; split
  · exact h
  · split
    · exact h
    · exact h.acceptSettings _

theorem BeginsNone.forgetStations (h : BeginsNone s t) (l : List (Fin 30)) : BeginsNone s (t.forgetStations l).1 :=
  h.foldl _ _ fun _ _ hu => hu.setStation ..

theorem BeginsNone.carryOut (h : BeginsNone s t) (k : ReqKind) {work : Taken → State → Carried}
    (hwork : ∀ r u, BeginsNone s u → BeginsNone s (work r u).1) : BeginsNone s (t.carryOut k work) := by
  have htaken : BeginsNone s (if t.postedKind = some k then t.sweepSlot else t) := .ite (h.of_bus (by simp)) h
  have hcomplete {u : State} (hu : BeginsNone s u) (slot : Fin 16) (w : Bool) (r : Result) (v : Word) :
      BeginsNone s (u.completeSlot slot w r v).endExamination := hu.of_bus (by simp)
  have hend {u : State} (hu : BeginsNone s u) : BeginsNone s u.endExamination := hu.of_bus (by simp)
  dsimp only [State.carryOut]; split
  · split
    · split
      · exact hcomplete (hwork _ _ htaken) ..
      · exact hend (hwork _ _ htaken)
    · exact htaken
  · exact htaken

/-! ## Every command -/

theorem BeginsNone.whenReady (h : BeginsNone s t) {f : State → State} (hf : BeginsNone s (f t)) :
    BeginsNone s (t.whenReady f) := .ite hf h

theorem BeginsNone.whenDue (h : BeginsNone s t) (m : Moment) {f : State → State} (hf : BeginsNone s (f t)) :
    BeginsNone s (t.whenDue m f) := .ite hf h

theorem BeginsHeld.whenReady {f : State → State} (hf : BeginsHeld s (f s)) : BeginsHeld s (s.whenReady f) :=
  .ite hf (BeginsNone.refl s).held

theorem BeginsHeld.whenDue {m : Moment} {f : State → State} (hf : BeginsHeld s (f s)) : BeginsHeld s (s.whenDue m f) :=
  .ite hf (BeginsNone.refl s).held

/-- The step commands: those of the bus hand their work, and the others leave the bus. -/
theorem BeginsHeld.atStep {α : Type} (k : StepKind) (fields : Ctx → Word → Word → Word → Option α)
    {body : α → Ctx → State → State} (hbody : ∀ f c u, BeginsNone s u → BeginsHeld s (body f c u)) :
    BeginsHeld s (s.whenReady (State.atStep k fields body)) := by
  refine .whenReady ?_
  have hstands := BeginsNone.refl s
  unfold State.atStep; split
  · split
    · split
      · exact (hstands.of_bus (by simp)).held
      · split
        · split
          · exact (hstands.of_bus (by simp)).held
          · exact hbody _ _ _ (hstands.of_bus (by simp))
        · exact hstands.held
    · exact hstands.held
  · exact hstands.held

theorem BeginsHeld.carryOutReady (s : State) (k : ReqKind) {work : Taken → State → Carried}
    (hwork : ∀ r u, BeginsNone s u → BeginsNone s (work r u).1) : BeginsHeld s (s.whenReady fun s => s.carryOut k work) :=
  .whenReady ((BeginsNone.refl s).carryOut k hwork).held

theorem beginsHeld_stepCommand {c : Instr} (hc : c ∈ stepCommands) (s : State) : Answers (exec c s) (BeginsHeld s) := by
  simp only [stepCommands, List.mem_cons, List.not_mem_nil, or_false] at hc
  rcases hc with rfl | rfl | rfl | rfl | rfl | rfl | rfl | rfl | rfl | rfl | rfl | rfl | rfl | rfl | rfl | rfl | rfl
  · exact ⟨_, rfl, .atStep _ _ fun _ _ _ h => h.handStep ..⟩
  · exact ⟨_, rfl, .atStep _ _ fun _ _ _ h => h.handStep ..⟩
  · exact ⟨_, rfl, .atStep _ _ fun _ _ _ h => h.handStep ..⟩
  · exact ⟨_, rfl, .atStep _ _ fun _ _ _ h => h.handStep ..⟩
  · exact ⟨_, rfl, .atStep _ _ fun _ _ _ h => h.handStep ..⟩
  · exact ⟨_, rfl, .atStep _ _ fun _ _ _ h => h.handStep ..⟩
  · exact ⟨_, rfl, .atStep _ _ fun _ _ _ h => h.handStep ..⟩
  · exact ⟨_, rfl, .atStep _ _ fun _ _ _ h => h.handStep ..⟩
  · exact ⟨_, rfl, .atStep _ _ fun _ _ _ h => (h.of_bus (by simp)).held⟩
  · exact ⟨_, rfl, .atStep _ _ fun _ _ _ h => (h.of_bus (by simp)).held⟩
  · exact ⟨_, rfl, .atStep _ _ fun _ _ _ h => (h.of_bus (by simp)).held⟩
  · exact ⟨_, rfl, .atStep _ _ fun _ _ _ h => (h.of_bus (by simp)).held⟩
  · exact ⟨_, rfl, .atStep _ _ fun _ _ _ h => (h.of_bus (by simp)).held⟩
  · exact ⟨_, rfl, .atStep _ _ fun _ _ _ h => (h.of_bus (by simp)).held⟩
  · exact ⟨_, rfl, .atStep _ _ fun _ _ _ h => by split <;> exact (h.of_bus (by simp)).held⟩
  · exact ⟨_, rfl, .atStep _ _ fun _ _ _ h => (h.of_bus (by simp)).held⟩
  · exact ⟨_, rfl, .atStep _ _ fun _ _ _ h => (h.of_bus (by simp)).held⟩

theorem beginsHeld_requestCommand (k : ReqKind) (s : State) : Answers (exec (requestCommand k) s) (BeginsHeld s) := by
  cases k with
  | settingsApply => exact ⟨_, rfl, .carryOutReady _ _ fun _ _ h => h.applySettings⟩
  | stationForget => exact ⟨_, rfl, .carryOutReady _ _ fun _ _ h => h.forgetStations _⟩
  | listRun => exact ⟨_, rfl, .carryOutReady _ _ fun r u h => h.of_bus (u := (u.trigger r.list .requested).1) (by simp)⟩
  | _ => exact ⟨_, rfl, .carryOutReady _ _ fun _ _ h => h.of_bus (by simp)⟩

theorem beginsHeld_broadcastSent (s : State) : Answers (exec .broadcastSent s) (BeginsHeld s) := by
  refine ⟨_, rfl, .whenReady ?_⟩
  split
  · exact (BeginsHeld.enterIdle _).busResult _
  · exact (BeginsHeld.enterIdle _).busResult _
  · exact ((BeginsNone.setCounts (.setCtl s fun ⟨_, _, h⟩ => nomatch h) _).visitReport _).takeWaiting
  · exact .enterIdle _
  · exact (BeginsNone.refl s).held

/-- A write-type frame that a block's command begins is begun with the visit state OFF (R137). -/
theorem block_beginsHeld {c : Instr} (hc : blockCommand c = true) (s : State) : Answers (exec c s) (BeginsHeld s) := by
  have h := BeginsNone.refl s
  cases c with
  | powerOn | brownOut | supplyRestored | memoryClearDone | hardResetAssert | hardResetRelease | softReset
  | deferredResetBegin | hostWordAccess => simp [blockCommand] at hc
  | read | blockRead | write | control | statusPoll | rollCall | sampleAll | clear | sampleLocal | stamp | mark | loop
  | wait | raise | close | chain | endStep => exact beginsHeld_stepCommand (by decide) s
  | settingsApply => exact beginsHeld_requestCommand .settingsApply s
  | listRun => exact beginsHeld_requestCommand .listRun s
  | listCut => exact beginsHeld_requestCommand .listCut s
  | engineHold => exact beginsHeld_requestCommand .engineHold s
  | engineResume => exact beginsHeld_requestCommand .engineResume s
  | watchArm => exact beginsHeld_requestCommand .watchArm s
  | watchDisarm => exact beginsHeld_requestCommand .watchDisarm s
  | watchFeed => exact beginsHeld_requestCommand .watchFeed s
  | collectionClose => exact beginsHeld_requestCommand .collectionClose s
  | collectionRestart => exact beginsHeld_requestCommand .collectionRestart s
  | timeSet => exact beginsHeld_requestCommand .timeSet s
  | dutySet => exact beginsHeld_requestCommand .dutySet s
  | stationForget => exact beginsHeld_requestCommand .stationForget s
  | identProgram => exact beginsHeld_requestCommand .identProgram s
  | broadcastSent => exact beginsHeld_broadcastSent s
  | retrySpacingExpiry =>
    refine ⟨_, rfl, .whenReady ?_⟩
    split
    · exact .whenDue (h.handStep ..)
    · exact h.held
  | commandFrameSent =>
    refine ⟨_, rfl, .whenReady ?_⟩
    split
    · exact (BeginsNone.setCtl _ fun ⟨_, _, h⟩ => nomatch h).held
    · exact (BeginsNone.setCtl _ fun ⟨_, _, h⟩ => nomatch h).held
    · exact h.held
  | rollCallFrameSent =>
    refine ⟨_, rfl, .whenReady ?_⟩
    split
    · exact (BeginsNone.setCtl _ fun ⟨_, _, h⟩ => nomatch h).held
    · exact h.held
  | rollCallSlot answer =>
    refine ⟨_, rfl, .whenReady ?_⟩
    split
    · exact .passSlot ..
    all_goals exact h.held
  | replyEnd bits =>
    refine ⟨_, rfl, .whenReady ?_⟩
    split
    · exact (BeginsHeld.enterIdle _).busResult _
    · exact h.blockReply ..
    all_goals exact h.strayEnds.held
  | replyTimeout =>
    refine ⟨_, rfl, .whenReady ?_⟩
    split
    · exact .whenDue ((BeginsHeld.enterIdle _).busResult _)
    · exact .whenDue (.endBlock ..)
    · exact h.held
  | drainEnd =>
    refine ⟨_, rfl, .whenReady ?_⟩
    split
    · exact .whenDue (.enterIdle s)
    · exact h.held
  | settlingEnd =>
    refine ⟨_, rfl, .whenReady ?_⟩
    split
    · exact .whenDue (BeginsNone.setCtl _ fun ⟨_, _, h⟩ => nomatch h).held
    · exact h.held
  | replyBegin => exact ⟨_, rfl, .whenReady h.replyBegins.held⟩
  | strayFrame => exact ⟨_, rfl, .whenReady h.strayEnds.held⟩
  | rawLevelChange i high =>
    have hraw : BeginsNone s (s.setRaw i high) := h.of_ctl rfl
    refine ⟨_, rfl, (hraw.whenReady ?_).held⟩
    dsimp only; split
    · exact hraw
    · split
      · exact hraw.of_bus (by simp)
      · exact hraw.contactRaw i
  | tachActiveEdge i n =>
    have hraw : BeginsNone s ((s.elapse n).setRaw i (!(s.settings.inputs[i]).activeLow)) := h.of_ctl rfl
    refine ⟨_, rfl, (hraw.whenReady ?_).held⟩
    dsimp only; split
    · exact hraw
    · split
      · exact hraw.of_bus (by simp)
      · exact hraw.contactRaw i
  | debounceWindowExpiry i =>
    refine ⟨_, rfl, .whenReady ?_⟩
    split
    · exact .whenDue (h.endWindow i).held
    all_goals exact h.held
  | firstWindowExpiry i =>
    refine ⟨_, rfl, .whenReady ?_⟩
    split
    · exact .whenDue ((h.of_bus (u := s.endFirstWindow i) (by simp)).settleEvent i).held
    all_goals exact h.held
  | endDelayExpiry =>
    refine ⟨_, rfl, .whenReady ?_⟩
    split
    · exact .whenDue h.visitEnding.held
    · exact h.held
  | identProgramEnd route hut =>
    refine ⟨_, rfl, .whenReady ?_⟩
    split
    · exact .whenDue (h.of_bus (by simp)).held
    · exact h.held
  | waitExpiry =>
    refine ⟨_, rfl, .whenReady ?_⟩
    split
    · exact .whenDue (h.of_bus (by simp)).held
    · exact h.held
  | burstStart c =>
    refine ⟨_, rfl, .whenReady ?_⟩
    dsimp only; split
    · split <;> exact (h.of_bus (by simp)).held
    · exact (h.of_bus (by simp)).held
  | burstExpiry c =>
    refine ⟨_, rfl, .whenReady ?_⟩
    split
    · exact .whenDue (h.of_bus (by simp)).held
    all_goals exact h.held
  | spacingExpiry c =>
    refine ⟨_, rfl, .whenReady ?_⟩
    split
    · exact .whenDue (h.of_bus (by simp)).held
    all_goals exact h.held
  | freshnessExpiry n => exact ⟨_, rfl, .whenReady (.whenDue (.ite (h.of_bus (by simp)).held h.held))⟩
  | timeWrap => exact ⟨_, rfl, .whenReady (.ite (h.of_bus (by simp)).held h.held)⟩
  | sweepTimerExpiry | watchTick | rampTick => exact ⟨_, rfl, .whenReady (.whenDue (h.of_bus (by simp)).held)⟩
  | registerWriteIgnored => exact ⟨_, rfl, h.held⟩
  | sweep | wakeClear | sweepSlot | closeAgeExpiry | stallIntervalExpiry | timestampAdvance | surveyTimerExpiry =>
    exact ⟨_, rfl, .whenReady (h.of_bus (by simp)).held⟩

/-! ## The resets -/

theorem BeginsNone.settleInput (h : BeginsNone s t) (i : Fin 16) (tached : Bool) : BeginsNone s (t.settleInput i tached) :=
  h.of_bus (by simp)

theorem BeginsNone.settleAll (h : BeginsNone s t) : BeginsNone s t.settleAll :=
  h.foldl _ _ fun _ _ hu => .ite ((hu.settleInput ..).settleEvent _) hu

theorem not_sendsWork_settling (m : Option Moment) : ¬ SendsWork (.settling m) := fun ⟨_, _, h⟩ => nomatch h

theorem resetBlocks_ctl (s : State) : s.resetBlocks.bus.ctl = .settling (some (s.now + millis 15)) := by
  simp [State.resetBlocks, State.now]

theorem BeginsNone.finishReset (s t : State) : BeginsNone s t.finishReset := by
  have hblocks : BeginsNone s t.restarted := .inr (by
    rw [restarted, (setReady_frame _).2.2.2.2.2.2.2.2.2.1, resetBlocks_ctl]
    exact not_sendsWork_settling _)
  rw [finishReset_eq]
  exact (hblocks.of_bus (u := State.recover _) (by simp)).settleAll

theorem resets_beginNone (s : State) : KeptByResets (BeginsNone s) where
  power _ _ h := h.of_ctl rfl
  abandon _ _ _ := .inr (not_sendsWork_settling _)
  finish t _ := .finishReset s t

/-- A write-type frame that a command begins is begun with the visit state OFF (R137). -/
theorem exec_beginsHeld (c : Instr) (s : State) : Answers (exec c s) (BeginsHeld s) := by
  rcases command_cases c with hc | hc | ⟨a, access, rfl⟩
  · exact block_beginsHeld hc s
  · obtain ⟨t, ht, h⟩ := (resets_beginNone s).exec hc (fun _ u h => h.of_bus (by simp)) (.refl s)
    exact ⟨t, ht, h.held⟩
  · obtain ⟨t, ht, ⟨v, rfl⟩ | ⟨v, -, -, rfl⟩ | rfl⟩ := exec_hostWordAccess a access s
    all_goals exact ⟨_, ht, .inl (.inl rfl)⟩

end Sys2Proof.Machine.State

open Sys2Proof.Machine State in
/-- Settles O11: work is taken at one place alone, which reads the visit state first, and what follows there moves neither the
bus nor the visit. -/
theorem visitHoldsWriteFrames : Obligations.VisitHoldsWriteFrames := by
  intro c s t w n hexec hctl hw hne
  obtain ⟨u, hu, h⟩ := exec_beginsHeld c s
  cases hu.symm.trans hexec
  rcases h with (h | h) | h | h
  · exact absurd h.symm hne
  · exact absurd ⟨w, n, hctl⟩ h
  · exact h
  · exact absurd hw (by rw [h w n hctl]; exact nofun)
end

section
/-! PROOFS. The channels of the Duty Controller: what leaves them, and what moves an output (R149, R159). -/

namespace Sys2Proof.Machine.State

variable {s t u : State}

/-! ## Operations that leave the channels -/

section Channels

variable (s : State)

@[simp] theorem setShed_channels (l : ShedLevel) : (s.setShed l).duty.channels = s.duty.channels := by rw [setShed_duty]

@[simp] theorem recomputeShed_channels (c : ShedCause) : (s.recomputeShed c).duty.channels = s.duty.channels := by
  simp only [State.recomputeShed]; (repeat' split) <;> simp

@[simp] theorem gradeChange_channels (n : Fin 64) (old : Grade) (d : WatchDef) (c : GradeCause) :
    (s.gradeChange n old d c).duty.channels = s.duty.channels := by
  simp only [State.gradeChange]; (repeat' split) <;> simp

@[simp] theorem regrade_channels (n : Fin 64) (w : Watch) (d : WatchDef) (c : GradeCause) :
    (s.regrade n w d c).duty.channels = s.duty.channels := by
  simp only [State.regrade]; (repeat' split) <;> simp

@[simp] theorem definitionFault_channels (n : Fin 64) (d : WatchDef) :
    (s.definitionFault n d).duty.channels = s.duty.channels := by
  simp only [State.definitionFault]; split <;> simp

@[simp] theorem evaluate_channels (n : Fin 64) (d : WatchDef) (e : Int) (raw : Option Int) :
    (s.evaluate n d e raw).duty.channels = s.duty.channels := by simp [State.evaluate]

@[simp] theorem deliver_channels (n : Fin 64) (wide : Bool) (v : Nat) :
    (s.deliver n wide v).1.duty.channels = s.duty.channels := by
  simp only [State.deliver]; (repeat' split) <;> simp

@[simp] theorem shedNotice_channels (n : Fin 64) (c : ShedCause) : (s.shedNotice n c).duty.channels = s.duty.channels := by
  simp only [State.shedNotice]; split <;> simp

@[simp] theorem armWatch_channels (n : Fin 64) : (s.armWatch n).1.duty.channels = s.duty.channels := by
  simp only [State.armWatch]; split <;> simp

@[simp] theorem disarmWatch_channels (n : Fin 64) : (s.disarmWatch n).1.duty.channels = s.duty.channels := by
  simp [State.disarmWatch]

@[simp] theorem feedWatch_channels (n : Fin 64) (v : Int) : (s.feedWatch n v).1.duty.channels = s.duty.channels := by
  simp only [State.feedWatch]; (repeat' split) <;> simp

@[simp] theorem checkFresh_channels (n : Fin 64) : (s.checkFresh n).duty.channels = s.duty.channels := by
  simp only [State.checkFresh]; split <;> simp

@[simp] theorem deliverTo_channels (w : Option (Fin 64)) (o : StepOutcome) (wide : Bool) (v : Nat) :
    (s.deliverTo w o wide v).1.duty.channels = s.duty.channels := by
  simp only [State.deliverTo]; (repeat' split) <;> simp

@[simp] theorem readComplete_channels (st : ReadStep) (o : StepOutcome) (v : Nat) :
    (s.readComplete st o v).duty.channels = s.duty.channels := by
  simp only [State.readComplete]; (repeat' split) <;> simp

@[simp] theorem readResult_channels (st : ReadStep) (n : Nat) (o : StepOutcome) (v : Nat) :
    (s.readResult st n o v).duty.channels = s.duty.channels := by
  simp only [State.readResult]; split <;> simp

@[simp] theorem stepResult_channels (step : BusStep) (r : BusResult) :
    (s.stepResult step r).duty.channels = s.duty.channels := by
  simp only [State.stepResult]; (repeat' split) <;> simp

@[simp] theorem busResult_channels (r : BusResult) : (s.busResult r).duty.channels = s.duty.channels := by
  simp only [State.busResult]; (repeat' split) <;> simp

@[simp] theorem takeWork_channels (w : Work) : (s.takeWork w).duty.channels = s.duty.channels := by
  simp only [State.takeWork]; (repeat' split) <;> simp

@[simp] theorem takeWaiting_channels : s.takeWaiting.duty.channels = s.duty.channels := by
  simp only [State.takeWaiting]; (repeat' split) <;> simp

@[simp] theorem enterIdle_channels : s.enterIdle.duty.channels = s.duty.channels := by simp [State.enterIdle]

@[simp] theorem handWork_channels (w : Work) : (s.handWork w).duty.channels = s.duty.channels := by simp [State.handWork]

@[simp] theorem makePending_channels (b : VisitBroadcast) : (s.makePending b).duty.channels = s.duty.channels := by
  simp [State.makePending]

@[simp] theorem transactionReply_channels (tr : Transaction) (bits : List Bool) :
    (s.transactionReply tr bits).duty.channels = s.duty.channels := by simp [State.transactionReply]

@[simp] theorem endBlock_channels (e : BlockEnding) (ws : List Nat) : (s.endBlock e ws).duty.channels = s.duty.channels := by
  simp only [State.endBlock]; split <;> simp

@[simp] theorem blockReply_channels (b : BlockRead) (n : Nat) (ws : List Nat) (bits : List Bool) :
    (s.blockReply b n ws bits).duty.channels = s.duty.channels := by
  simp only [State.blockReply]; (repeat' split) <;> simp

@[simp] theorem visitBegin_channels (i : Fin 16) (st : Stamp) : (s.visitBegin i st).duty.channels = s.duty.channels := by
  simp [State.visitBegin]

@[simp] theorem visitEnding_channels : s.visitEnding.duty.channels = s.duty.channels := by simp [State.visitEnding]

@[simp] theorem visitActive_channels (i : Fin 16) (st : Stamp) : (s.visitActive i st).duty.channels = s.duty.channels := by
  simp only [State.visitActive]; split <;> simp

@[simp] theorem visitInactive_channels : s.visitInactive.duty.channels = s.duty.channels := by
  simp only [State.visitInactive]; (repeat' split) <;> simp

@[simp] theorem visitForcedEnd_channels : s.visitForcedEnd.duty.channels = s.duty.channels := by
  simp only [State.visitForcedEnd]; split <;> simp

@[simp] theorem visitReport_channels (b : VisitBroadcast) : (s.visitReport b).duty.channels = s.duty.channels := by
  simp only [State.visitReport]; split <;> simp

@[simp] theorem contactEdge_channels (i : Fin 16) (active : Bool) :
    (s.contactEdge i active).duty.channels = s.duty.channels := by
  simp only [State.contactEdge]; (repeat' split) <;> simp

@[simp] theorem endWindow_channels (i : Fin 16) : (s.endWindow i).duty.channels = s.duty.channels := by
  simp only [State.endWindow]; split <;> simp

@[simp] theorem settleEvent_channels (i : Fin 16) : (s.settleEvent i).duty.channels = s.duty.channels := by
  simp only [State.settleEvent]; split <;> simp

@[simp] theorem contactRaw_channels (i : Fin 16) : (s.contactRaw i).duty.channels = s.duty.channels := by
  simp only [State.contactRaw]; (repeat' split) <;> simp

@[simp] theorem passSlot_channels (i : Fin 30) (p a : Word) (r : SlotReading) :
    (s.passSlot i p a r).duty.channels = s.duty.channels := by
  simp only [State.passSlot]; split <;> simp

@[simp] theorem visitSent_channels (b : VisitBroadcast) : (s.visitSent b).duty.channels = s.duty.channels := by
  simp [State.visitSent]

@[simp] theorem handStep_channels (step : BusStep) (w : Work) : (s.handStep step w).duty.channels = s.duty.channels := by
  simp [State.handStep]

@[simp] theorem sampleLocal_channels (st : LocalStep) (a : Nat) : (s.sampleLocal st a).duty.channels = s.duty.channels := by
  simp only [State.sampleLocal]; (repeat' split) <;> simp

@[simp] theorem cutRun_channels (r : Taken) (c : Ctx) : (s.cutRun r c).duty.channels = s.duty.channels := by
  simp only [State.cutRun]; split <;> simp

@[simp] theorem cutList_channels (r : Taken) : (s.cutList r).1.duty.channels = s.duty.channels := by
  simp only [State.cutList]; (repeat' split) <;> simp

end Channels

/-! ## Outputs that stand, and outputs that a burst moves -/

/-- Every output stands. -/
def OutputsStand (s t : State) : Prop := ∀ c : Fin 4, (t.duty.channels[c]).output = (s.duty.channels[c]).output

/-- An output that has changed is 255, in the burst that moved it. -/
def MovedByBurst (s t : State) : Prop :=
  ∀ c : Fin 4, (t.duty.channels[c]).output = (s.duty.channels[c]).output ∨
    ((t.duty.channels[c]).output = 255 ∧ ∃ due, (t.duty.channels[c]).burst = .burst due)

theorem OutputsStand.refl (s : State) : OutputsStand s s := fun _ => rfl

theorem OutputsStand.trans (h : OutputsStand s t) (k : OutputsStand t u) : OutputsStand s u := fun c => (k c).trans (h c)

theorem OutputsStand.of_channels (h : OutputsStand s t) (hc : u.duty.channels = t.duty.channels) : OutputsStand s u := fun c => by
  rw [hc]; exact h c

theorem OutputsStand.moved (h : OutputsStand s t) : MovedByBurst s t := fun c => .inl (h c)

theorem setChannel_same (s : State) (c : Fin 4) (ch : Channel) : (s.setChannel c ch).duty.channels[c] = ch := by
  rw [setChannel_duty, withChannel_same]

theorem setChannel_other (s : State) {c d : Fin 4} (ch : Channel) (h : d ≠ c) :
    (s.setChannel c ch).duty.channels[d] = s.duty.channels[d] := by
  rw [setChannel_duty, withChannel_other _ _ h]

/-- One channel takes a state with the output it had. -/
theorem OutputsStand.setChannel (h : OutputsStand s t) {c : Fin 4} {ch : Channel}
    (ho : ch.output = (t.duty.channels[c]).output) : OutputsStand s (t.setChannel c ch) := fun d => by
  by_cases hd : d = c
  · subst hd
    rw [setChannel_same, ho]
    exact h d
  · rw [setChannel_other _ _ hd]
    exact h d

/-- A clear notice leaves every output (R155). -/
theorem OutputsStand.clearChannel (h : OutputsStand s t) (c : Fin 4) : OutputsStand s (t.clearChannel c) := fun d => by
  rw [clearChannel_duty]
  by_cases hd : d = c
  · subst hd
    rw [withChannel_same]
    exact h d
  · rw [withChannel_other _ _ hd]
    exact h d

theorem OutputsStand.foldl {α : Type} (h : OutputsStand s t) (f : State → α → State) (l : List α)
    (hf : ∀ u a, OutputsStand s u → OutputsStand s (f u a)) : OutputsStand s (l.foldl f t) := by
  induction l generalizing t with
  | nil => exact h
  | cons a l ih => exact ih (hf _ _ h)

theorem OutputsStand.ite {p : Prop} [Decidable p] (ht : OutputsStand s t) (hu : OutputsStand s u) :
    OutputsStand s (if p then t else u) := by split <;> assumption

theorem OutputsStand.clearNotice (h : OutputsStand s t) (i : Fin 16) : OutputsStand s (t.clearNotice i) :=
  h.foldl _ _ fun _ c hu => .ite (hu.clearChannel c) hu

theorem OutputsStand.settleInput (h : OutputsStand s t) (i : Fin 16) (tached : Bool) :
    OutputsStand s (t.settleInput i tached) := by
  dsimp only [State.settleInput]
  refine .ite (OutputsStand.clearNotice ?_ i) ?_
  all_goals (repeat' split) <;> exact h.of_channels (by simp)

theorem OutputsStand.disableInput (h : OutputsStand s t) (i : Fin 16) (tached : Bool) :
    OutputsStand s (t.disableInput i tached) := by
  dsimp only [State.disableInput]
  refine .ite (OutputsStand.clearNotice ?_ i) ?_
  all_goals (repeat' split) <;> exact h.of_channels (by simp)

theorem OutputsStand.tachEdge (h : OutputsStand s t) (i : Fin 16) : OutputsStand s (t.tachEdge i) := by
  dsimp only [State.tachEdge]; split
  · exact .ite (OutputsStand.clearNotice (h.of_channels (by simp)) i) (h.of_channels (by simp))
  · exact h.of_channels (by simp)

/-! ### Stalls, and what an apply makes of them (R151, R152, R156) -/

/-- An output that has changed is 255, in a burst of a channel whose tach input stands stalled. -/
def MovedByStall (s t : State) : Prop :=
  ∀ c : Fin 4, (t.duty.channels[c]).output = (s.duty.channels[c]).output ∨
    ((t.duty.channels[c]).output = 255 ∧ (∃ due, (t.duty.channels[c]).burst = .burst due) ∧
      (t.duty.channels[c]).mode ≠ .off ∧ ∃ i, t.tachOf c = some i ∧ (t.inputs[i]).stalled = true)

theorem OutputsStand.movedByStall (h : OutputsStand s t) : MovedByStall s t := fun c => .inl (h c)

theorem MovedByStall.moved (h : MovedByStall s t) : MovedByBurst s t := fun c =>
  (h c).imp id fun ⟨h255, hburst, _⟩ => ⟨h255, hburst⟩

/-- An operation that leaves the channels and their tach inputs, and ends no stall. -/
theorem MovedByStall.of_channels (h : MovedByStall s t) (hc : u.duty.channels = t.duty.channels)
    (hg : u.settings = t.settings) (hi : ∀ i : Fin 16, (t.inputs[i]).stalled = true → (u.inputs[i]).stalled = true) :
    MovedByStall s u := fun c => by
  rw [hc]
  refine (h c).imp id fun ⟨h255, hburst, hmode, i, htach, hstalled⟩ => ⟨h255, hburst, hmode, i, ?_, hi i hstalled⟩
  rwa [tachOf, hg]

theorem MovedByStall.foldl {α : Type} (h : MovedByStall s t) (f : State → α → State) (l : List α)
    (hf : ∀ u a, MovedByStall s u → MovedByStall s (f u a)) : MovedByStall s (l.foldl f t) := by
  induction l generalizing t with
  | nil => exact h
  | cons a l ih => exact ih (hf _ _ h)

theorem MovedByStall.ite {p : Prop} [Decidable p] (ht : MovedByStall s t) (hu : MovedByStall s u) :
    MovedByStall s (if p then t else u) := by split <;> assumption

theorem beginEpisode_same (s : State) (c : Fin 4) :
    ((s.beginEpisode c).duty.channels[c]) =
      { s.duty.channels[c] with used := 1, burst := .burst (s.now + seconds 2), output := 255, handed := false } := by
  have h : (s.beginEpisode c).duty = (s.setChannel c
      { s.duty.channels[c] with used := 1, burst := .burst (s.now + seconds 2), output := 255, handed := false }).duty := by
    simp [State.beginEpisode]
  rw [h, setChannel_same]

theorem beginEpisode_other (s : State) {c d : Fin 4} (hd : d ≠ c) :
    ((s.beginEpisode c).duty.channels[d]) = s.duty.channels[d] := by
  have h : (s.beginEpisode c).duty = (s.setChannel c
      { s.duty.channels[c] with used := 1, burst := .burst (s.now + seconds 2), output := 255, handed := false }).duty := by
    simp [State.beginEpisode]
  rw [h, setChannel_other _ _ hd]

/-- A stall notice moves no output but by the burst of a new episode. -/
theorem MovedByStall.stallChannel (h : MovedByStall s t) {c : Fin 4} {i : Fin 16} (ht : t.tachOf c = some i)
    (hi : (t.inputs[i]).stalled = true) : MovedByStall s (t.stallChannel c) := fun d => by
  have htach (e : Fin 4) : (t.stallChannel c).tachOf e = t.tachOf e := by simp [tachOf]
  have hinputs : (t.stallChannel c).inputs = t.inputs := by simp
  rw [htach, hinputs]
  dsimp only [State.stallChannel]
  by_cases hd : d = c
  · subst hd
    split
    next hb =>
      refine .inr ⟨?_, ⟨_, congrArg Channel.burst (beginEpisode_same _ d)⟩, ?_, i, ht, hi⟩
      · rw [beginEpisode_same]
      · rw [beginEpisode_same, setChannel_same]
        exact hb.2.2
    · rw [setChannel_same]
      exact h d
  · split
    · rw [beginEpisode_other _ hd, setChannel_other _ _ hd]
      exact h d
    · rw [setChannel_other _ _ hd]
      exact h d

theorem MovedByStall.notify (h : MovedByStall s t) {i : Fin 16} (hi : (t.inputs[i]).stalled = true) (l : List (Fin 4)) :
    MovedByStall s (l.foldl (fun s c => if s.tachOf c = some i then s.stallChannel c else s) t) := by
  induction l generalizing t with
  | nil => exact h
  | cons c l ih =>
    rw [List.foldl_cons]
    split
    next ht => exact ih (h.stallChannel ht hi) (by simpa using hi)
    · exact ih h hi

theorem setInputAt_same (s : State) (i : Fin 16) (x : Input) : (s.setInputAt i x).inputs[i] = x := by
  simp [State.setInputAt]

theorem setInputAt_other (s : State) {i j : Fin 16} (x : Input) (h : j ≠ i) :
    (s.setInputAt i x).inputs[j] = s.inputs[j] := by
  have hne : i.val ≠ j.val := fun e => h (Fin.ext e.symm)
  simp [State.setInputAt, Fin.getElem_fin, Vector.getElem_set_ne _ _ hne]

theorem putPeriod_inputs (s : State) (i : Fin 16) (x : Input) : (s.putPeriod i x).inputs = (s.setInputAt i x).inputs := by
  simp [State.putPeriod, State.refreshStatus, State.writeStatus]

theorem MovedByStall.stallInput (h : MovedByStall s t) (i : Fin 16) : MovedByStall s (t.stallInput i) := by
  refine MovedByStall.notify (h.of_channels (by simp) (by simp) fun j hj => ?_) ?_ _
  · rw [putPeriod_inputs]
    by_cases hji : j = i
    · rw [hji, setInputAt_same]
    · rwa [setInputAt_other _ _ hji]
  · rw [putPeriod_inputs, setInputAt_same]

theorem MovedByStall.compareStall (h : MovedByStall s t) (i : Fin 16) : MovedByStall s (t.compareStall i) := by
  dsimp only [State.compareStall]; split
  · exact .ite (h.stallInput i) h
  · exact h

/-- A channel that takes another tach input keeps its output, or stands in a burst of a stalled input's episode. -/
theorem MovedByStall.retachChannel (h : MovedByStall s t) (c : Fin 4) : MovedByStall s (t.retachChannel c) := fun d => by
  have htach (e : Fin 4) : (t.retachChannel c).tachOf e = t.tachOf e := by simp [tachOf]
  have hinputs : (t.retachChannel c).inputs = t.inputs := by simp
  rw [htach, hinputs]
  dsimp only [State.retachChannel]
  by_cases hd : d = c
  · subst hd
    split
    next hb =>
      obtain ⟨hstalled, -, hmode⟩ := hb
      refine .inr ⟨?_, ⟨_, congrArg Channel.burst (beginEpisode_same _ d)⟩, ?_, ?_⟩
      · rw [beginEpisode_same]
      · rw [beginEpisode_same, setChannel_same]
        exact hmode
      · cases ht : t.tachOf d with
        | none => simp [ht] at hstalled
        | some i => exact ⟨i, rfl, by simpa [ht] using hstalled⟩
    next hb =>
      rw [setChannel_same]
      refine (h d).imp id fun ⟨h255, _, hmode, i, ht, hi⟩ => absurd ⟨?_, ?_, hmode⟩ hb
      · simpa [ht] using hi
      · omega
  · split
    · rw [beginEpisode_other _ hd, setChannel_other _ _ hd]
      exact h d
    · rw [setChannel_other _ _ hd]
      exact h d

/-! ## The settings apply (R180) -/

theorem OutputsStand.applyEnable (h : OutputsStand s t) (old : Settings) (i : Fin 16) :
    OutputsStand s (applyEnable old t i) := .ite (h.settleInput i _) (.ite (h.disableInput i _) h)

theorem MovedByStall.applyStallTime (h : MovedByStall s t) (old : Settings) (i : Fin 16) :
    MovedByStall s (applyStallTime old t i) := .ite (h.compareStall i) h

theorem MovedByStall.of_inputs (h : MovedByStall s t) (hc : u.duty.channels = t.duty.channels)
    (hg : u.settings = t.settings) (hi : u.inputs = t.inputs) : MovedByStall s u :=
  h.of_channels hc hg fun i hs => by rwa [hi]

theorem MovedByStall.visitForcedEnd (h : MovedByStall s t) : MovedByStall s t.visitForcedEnd :=
  h.of_inputs (by simp) (by simp) (by simp)

theorem MovedByStall.settleEvent (h : MovedByStall s t) (i : Fin 16) : MovedByStall s (t.settleEvent i) :=
  h.of_inputs (by simp) (by simp) (by simp)

theorem MovedByStall.applySettleEvent (h : MovedByStall s t) (old : Settings) : MovedByStall s (t.applySettleEvent old) := by
  unfold State.applySettleEvent; split
  · exact .ite (h.settleEvent _) h
  · exact h

theorem MovedByStall.applyInputs (h : OutputsStand s t) (old : Settings) : MovedByStall s (t.applyInputs old) := by
  have henabled := h.foldl (State.applyEnable old) (List.finRange 16) fun _ i hu => hu.applyEnable old i
  have hinputs := henabled.movedByStall.foldl (State.applyStallTime old) (List.finRange 16) fun _ i hu =>
    hu.applyStallTime old i
  exact MovedByStall.applySettleEvent (.ite hinputs.visitForcedEnd hinputs) old

theorem MovedByStall.applyChannels (h : MovedByStall s t) (old : Settings) : MovedByStall s (t.applyChannels old) :=
  h.foldl _ _ fun _ c hu => .ite (hu.retachChannel c) hu

theorem MovedByStall.applyTimers (h : MovedByStall s t) (old : Settings) : MovedByStall s (t.applyTimers old) :=
  h.of_inputs (by simp) (by simp) (by simp)

theorem MovedByStall.recomputeShed (h : MovedByStall s t) (c : ShedCause) : MovedByStall s (t.recomputeShed c) :=
  h.of_inputs (by simp) (by simp) (by simp)

theorem OutputsStand.applyBus (h : OutputsStand s t) (old : Settings) : OutputsStand s (t.applyBus old) :=
  h.of_channels (by simp)

theorem OutputsStand.applyCollection (h : OutputsStand s t) (old : Settings) : OutputsStand s (t.applyCollection old) :=
  h.of_channels (by simp)

theorem acceptSettings_moved (s : State) (new : Settings) : MovedByBurst s (s.acceptSettings new) := by
  have htaken : OutputsStand s (s.setSettings new).judge := fun _ => rfl
  have hinputs := MovedByStall.applyInputs ((htaken.applyCollection s.settings).applyBus s.settings) s.settings
  exact (((hinputs.applyChannels s.settings).applyTimers s.settings).recomputeShed .settings).moved

/-! ## Every command -/

theorem MovedByBurst.of_channels (h : MovedByBurst s t) (hc : u.duty.channels = t.duty.channels) : MovedByBurst s u := fun c => by
  rw [hc]; exact h c

theorem MovedByBurst.refl (s : State) : MovedByBurst s s := fun _ => .inl rfl

theorem MovedByBurst.ite {p : Prop} [Decidable p] (ht : MovedByBurst s t) (hu : MovedByBurst s u) :
    MovedByBurst s (if p then t else u) := by split <;> assumption

theorem MovedByBurst.whenReady {f : State → State} (hf : MovedByBurst s (f s)) : MovedByBurst s (s.whenReady f) :=
  .ite hf (.refl s)

theorem MovedByBurst.whenDue {m : Moment} {f : State → State} (hf : MovedByBurst s (f s)) : MovedByBurst s (s.whenDue m f) :=
  .ite hf (.refl s)

theorem MovedByBurst.of_same (hc : t.duty.channels = s.duty.channels) : MovedByBurst s t := (MovedByBurst.refl s).of_channels hc

/-- The next burst of a channel, or the first of its episode, is all that moves its output. -/
theorem MovedByBurst.setChannel {c : Fin 4} {ch : Channel}
    (ho : ch.output = (s.duty.channels[c]).output ∨ ch.output = 255 ∧ ∃ due, ch.burst = .burst due) :
    MovedByBurst s (s.setChannel c ch) := fun d => by
  by_cases hd : d = c
  · subst hd
    rw [setChannel_same]
    exact ho
  · rw [setChannel_other _ _ hd]
    exact .inl rfl

theorem MovedByBurst.beginEpisode (s : State) (c : Fin 4) : MovedByBurst s (s.beginEpisode c) :=
  (MovedByBurst.setChannel (c := c)
    (ch := { s.duty.channels[c] with used := 1, burst := .burst (s.now + seconds 2), output := 255, handed := false })
    (.inr ⟨rfl, _, rfl⟩)).of_channels (by simp [State.beginEpisode])

theorem MovedByBurst.nextBurst (s : State) (c : Fin 4) : MovedByBurst s (s.nextBurst c) := .setChannel (.inr ⟨rfl, _, rfl⟩)

theorem MovedByBurst.endSpacing (s : State) (c : Fin 4) : MovedByBurst s (s.endSpacing c) := by
  dsimp only [State.endSpacing]; split
  · exact .ite (.nextBurst s c) (.setChannel (.inl rfl))
  · exact (MovedByBurst.setChannel (c := c) (ch := { s.duty.channels[c] with burst := .failed }) (.inl rfl)).of_channels
      (by simp)

theorem MovedByBurst.atStep {α : Type} (k : StepKind) (fields : Ctx → Word → Word → Word → Option α)
    {body : α → Ctx → State → State} (hbody : ∀ f c u, (body f c u).duty.channels = u.duty.channels) :
    MovedByBurst s (s.whenReady (State.atStep k fields body)) := by
  refine .whenReady (.of_same ?_)
  unfold State.atStep; split
  · split
    · split
      · simp
      · split
        · split
          · simp
          · rw [hbody]
            simp
        · rfl
    · rfl
  · rfl

/-- The Duty Controller after a request is carried out: it stands, or is as the request's work leaves it. -/
theorem carryOut_duty (s : State) (k : ReqKind) (work : Taken → State → Carried) :
    (s.carryOut k work).duty = s.duty ∨
      ∃ r u, u.duty = s.duty ∧ (s.carryOut k work).duty = (work r u).1.duty := by
  dsimp only [State.carryOut]
  have hsame : (if s.postedKind = some k then s.sweepSlot else s).duty = s.duty := by split <;> simp
  split
  next r _ =>
    split
    · refine .inr ⟨r, _, hsame, ?_⟩
      split <;> simp
    · exact .inl hsame
  · exact .inl hsame

theorem MovedByBurst.carryOut (s : State) (k : ReqKind) {work : Taken → State → Carried}
    (hwork : ∀ r u, MovedByBurst u (work r u).1) : MovedByBurst s (s.whenReady fun s => s.carryOut k work) := by
  refine .whenReady ?_
  obtain h | ⟨r, u, hu, h⟩ := s.carryOut_duty k work
  · exact .of_same (by rw [h])
  · intro c
    rw [h, ← hu]
    exact hwork r u c

theorem stepCommand_moved {c : Instr} (hc : c ∈ stepCommands) (s : State) : Answers (exec c s) (MovedByBurst s) := by
  simp only [stepCommands, List.mem_cons, List.not_mem_nil, or_false] at hc
  rcases hc with rfl | rfl | rfl | rfl | rfl | rfl | rfl | rfl | rfl | rfl | rfl | rfl | rfl | rfl | rfl | rfl | rfl
  case inr.inr.inr.inr.inr.inr.inr.inr.inr.inr.inr.inr.inr.inr.inl =>
    exact ⟨_, rfl, .atStep _ _ fun _ _ u => by split <;> simp⟩
  all_goals exact ⟨_, rfl, .atStep _ _ fun _ _ u => by simp⟩

theorem requestCommand_moved {k : ReqKind} (hk : k ≠ .dutySet) (s : State) :
    Answers (exec (requestCommand k) s) (MovedByBurst s) := by
  cases k with
  | settingsApply =>
    refine ⟨_, rfl, .carryOut _ _ fun _ u => ?_⟩
    dsimp only [State.applySettings]; split
    · exact .refl u
    · split
      · exact .refl u
      · exact acceptSettings_moved _ _
  | dutySet => exact absurd rfl hk
  | listRun => exact ⟨_, rfl, .carryOut _ _ fun r u => .of_same (t := (u.trigger r.list .requested).1) (by simp)⟩
  | _ => exact ⟨_, rfl, .carryOut _ _ fun _ _ => .of_same (by simp)⟩

theorem contactRaw_stands (h : OutputsStand s t) (i : Fin 16) : OutputsStand s (t.contactRaw i) := h.of_channels (by simp)

theorem tachRaw_stands (h : OutputsStand s t) (i : Fin 16) : OutputsStand s (t.tachRaw i) :=
  .ite (h.tachEdge i) (h.of_channels (by simp))

/-- Under every command of a block but DUTY_SET and RAMP_TICK an output moves by a burst alone. -/
theorem block_moved {c : Instr} (hc : blockCommand c = true) (hset : c ≠ .dutySet) (htick : c ≠ .rampTick) (s : State) :
    Answers (exec c s) (MovedByBurst s) := by
  cases c with
  | powerOn | brownOut | supplyRestored | memoryClearDone | hardResetAssert | hardResetRelease | softReset
  | deferredResetBegin | hostWordAccess => simp [blockCommand] at hc
  | dutySet => exact absurd rfl hset
  | rampTick => exact absurd rfl htick
  | read | blockRead | write | control | statusPoll | rollCall | sampleAll | clear | sampleLocal | stamp | mark | loop
  | wait | raise | close | chain | endStep => exact stepCommand_moved (by decide) s
  | settingsApply => exact requestCommand_moved (k := .settingsApply) nofun s
  | listRun => exact requestCommand_moved (k := .listRun) nofun s
  | listCut => exact requestCommand_moved (k := .listCut) nofun s
  | engineHold => exact requestCommand_moved (k := .engineHold) nofun s
  | engineResume => exact requestCommand_moved (k := .engineResume) nofun s
  | watchArm => exact requestCommand_moved (k := .watchArm) nofun s
  | watchDisarm => exact requestCommand_moved (k := .watchDisarm) nofun s
  | watchFeed => exact requestCommand_moved (k := .watchFeed) nofun s
  | collectionClose => exact requestCommand_moved (k := .collectionClose) nofun s
  | collectionRestart => exact requestCommand_moved (k := .collectionRestart) nofun s
  | timeSet => exact requestCommand_moved (k := .timeSet) nofun s
  | stationForget => exact requestCommand_moved (k := .stationForget) nofun s
  | identProgram => exact requestCommand_moved (k := .identProgram) nofun s
  | rawLevelChange i high =>
    have hraw : OutputsStand s (s.setRaw i high) := .refl s
    exact ⟨_, rfl, OutputsStand.moved (.ite (.ite hraw (.ite (tachRaw_stands hraw i) (contactRaw_stands hraw i))) hraw)⟩
  | tachActiveEdge i n =>
    have hraw : OutputsStand s ((s.elapse n).setRaw i (!(s.settings.inputs[i]).activeLow)) := .refl s
    exact ⟨_, rfl, OutputsStand.moved (.ite (.ite hraw (.ite (hraw.tachEdge i) (contactRaw_stands hraw i))) hraw)⟩
  | stallIntervalExpiry i => exact ⟨_, rfl, .whenReady (((OutputsStand.refl s).movedByStall.compareStall i).moved)⟩
  | burstStart c =>
    refine ⟨_, rfl, .whenReady ?_⟩
    have hdrop : MovedByBurst s (s.setChannel c { s.duty.channels[c] with handed := false }) := .setChannel (.inl rfl)
    dsimp only; split
    · split
      · exact .beginEpisode s c
      · exact .nextBurst s c
      all_goals exact hdrop
    · exact hdrop
  | burstExpiry c =>
    refine ⟨_, rfl, .whenReady ?_⟩
    split
    · exact .whenDue (.setChannel (.inl rfl))
    all_goals exact .refl s
  | spacingExpiry c =>
    refine ⟨_, rfl, .whenReady ?_⟩
    split
    · exact .whenDue (.endSpacing s c)
    all_goals exact .refl s
  | sweep | wakeClear | sweepSlot | closeAgeExpiry | replyBegin | strayFrame | timestampAdvance | surveyTimerExpiry =>
    exact ⟨_, rfl, .whenReady (.of_same (by simp))⟩
  | registerWriteIgnored => exact ⟨_, rfl, .refl s⟩
  | sweepTimerExpiry => exact ⟨_, rfl, .whenReady (.whenDue (.of_same (by simp)))⟩
  | watchTick =>
    have htick : OutputsStand s (s.setTime { s.time with watchDue := s.time.watchDue + seconds 1, checked := 0 }) := .refl s
    exact ⟨_, rfl, .whenReady (.whenDue
      (htick.foldl State.checkFresh _ fun _ _ hu => hu.of_channels (by simp)).moved)⟩
  | freshnessExpiry n => exact ⟨_, rfl, .whenReady (.whenDue (.ite (.of_same (by simp)) (.refl s)))⟩
  | timeWrap => exact ⟨_, rfl, .whenReady (.ite (.of_same (by simp)) (.refl s))⟩
  | identProgramEnd | retrySpacingExpiry | waitExpiry | drainEnd | settlingEnd | endDelayExpiry | debounceWindowExpiry
  | firstWindowExpiry =>
    refine ⟨_, rfl, .whenReady ?_⟩
    split
    · exact .whenDue (.of_same (by simp))
    all_goals exact .refl s
  | commandFrameSent | broadcastSent | rollCallFrameSent | rollCallSlot | replyEnd =>
    refine ⟨_, rfl, .whenReady ?_⟩
    split <;> exact .of_same (by simp)
  | replyTimeout =>
    refine ⟨_, rfl, .whenReady ?_⟩
    split
    · exact .whenDue (.of_same (by simp))
    · exact .whenDue (.of_same (by simp))
    · exact .refl s

/-! ## The resets (R159) -/

theorem OutputsStand.settleAll (h : OutputsStand s t) : OutputsStand s t.settleAll :=
  h.foldl _ _ fun u i hu => .ite ((hu.settleInput i (u.settings.inputs[i]).tach).of_channels (by simp)) hu

theorem finishReset_stands (s : State) : OutputsStand s s.finishReset := by
  have hblocks : OutputsStand s s.restarted := fun c => by simp [restarted]
  rw [finishReset_eq]
  exact (hblocks.of_channels (u := State.recover _) (by simp)).settleAll

theorem resetWork_stands (s : State) : OutputsStand s s.resetWork := by
  cases h : s.secondCauseNext
  · rw [resetWork_of_none h]
    exact finishReset_stands (s.setResetPhase .working)
  · rw [resetWork_of_second h]
    exact .refl s

theorem beginReset_soft_stands (s : State) (p : ResetPhase) : OutputsStand s (s.beginReset p .soft) := fun c => by
  rw [beginReset_channel]; rfl

theorem beginReset_full (s : State) (p : ResetPhase) {c : ResetCause} (hc : c ≠ .soft) (n : Fin 4) :
    ((s.beginReset p c).duty.channels[n]).output = 255 := by
  rw [beginReset_channel, Channel.afterReset, if_neg hc]; rfl

/-- Every output is 255 under a reset that is no soft one. -/
def OutputsFull (t : State) : Prop := t.power.cause ≠ .soft ∧ ∀ c : Fin 4, (t.duty.channels[c]).output = 255

theorem OutputsFull.beginReset (s : State) (p : ResetPhase) {c : ResetCause} (hc : c ≠ .soft) :
    OutputsFull (s.beginReset p c) := ⟨hc, beginReset_full s p hc⟩

theorem resetWork_cause (s : State) : s.resetWork.power.cause = s.power.cause := by
  cases h : s.secondCauseNext
  · rw [resetWork_of_none h, finishReset_power]
    rfl
  · rw [resetWork_of_second h]
    rfl

theorem OutputsFull.resetWork (h : OutputsFull s) : OutputsFull s.resetWork :=
  ⟨by rw [resetWork_cause]; exact h.1, fun c => (resetWork_stands s c).trans (h.2 c)⟩

theorem beginHard_full (s : State) : OutputsFull s.beginHard := by
  have hbegun := OutputsFull.beginReset s .hardHeld (c := .hard) nofun
  unfold State.beginHard; dsimp only; split
  · exact hbegun
  · exact hbegun.resetWork

theorem beginSoft_stands (s : State) : OutputsStand s s.beginSoft :=
  (beginReset_soft_stands s .working).trans (resetWork_stands _)

/-- The resets that put every output at 255. -/
def fullResets : List Instr := [.powerOn, .brownOut, .hardResetAssert, .deferredResetBegin]

theorem resetCommand_outputs {c : Instr} (hc : c ∈ resetCommands) (s : State) :
    Answers (exec c s) fun t => OutputsStand s t ∨ (OutputsFull t ∧ c ∈ fullResets) := by
  have hstands := OutputsStand.refl s
  simp only [resetCommands, List.mem_cons, List.not_mem_nil, or_false] at hc
  rcases hc with rfl | rfl | rfl | rfl | rfl | rfl | rfl | rfl
  · exact ⟨_, rfl, .inr ⟨.beginReset s _ nofun, by decide⟩⟩
  · exact ⟨_, rfl, .inr ⟨.beginReset s _ nofun, by decide⟩⟩
  · refine ⟨_, rfl, .inl ?_⟩
    split <;> exact hstands
  · refine ⟨_, rfl, .inl ?_⟩
    have hclear : OutputsStand s s.clearMemory := hstands.of_channels (by simp)
    dsimp only; split
    · split
      · exact hclear
      · exact hclear.trans (resetWork_stands _)
    · exact hstands
  · refine ⟨_, rfl, ?_⟩
    dsimp only; split
    · split
      · exact .inl hstands
      · exact .inr ⟨beginHard_full _, by decide⟩
    · unfold State.holdWork; split
      · exact .inr ⟨.beginReset _ _ nofun, by decide⟩
      all_goals exact .inl hstands
    all_goals exact .inl hstands
  · refine ⟨_, rfl, .inl ?_⟩
    dsimp only; split
    · exact resetWork_stands (s.setPin false)
    · exact resetWork_stands (s.setPin false)
    all_goals exact hstands
  · refine ⟨_, rfl, .inl ?_⟩
    split
    · split
      · exact hstands
      · split
        · exact hstands
        · exact beginSoft_stands s
    · exact resetWork_stands s
    all_goals exact hstands
  · refine ⟨_, rfl, ?_⟩
    unfold State.whenReady; split
    · dsimp only; split
      · exact .inl hstands
      · split
        · exact .inr ⟨beginHard_full s, by decide⟩
        · exact .inl (beginSoft_stands s)
        · exact .inl hstands
    · exact .inl hstands

/-! ## DUTY_SET and RAMP_TICK -/

/-- DUTY_SET moves an output by OFF alone (R146). -/
theorem dutySet_outputs (s : State) :
    Answers (exec .dutySet s) fun t => ∀ c : Fin 4,
      (t.duty.channels[c]).output = (s.duty.channels[c]).output ∨
        ((t.duty.channels[c]).output = 0 ∧ (t.duty.channels[c]).mode = .off) := by
  by_cases hr : s.ready
  · refine ⟨_, congrArg Host.Outcome.next (whenReady_of_ready _ hr), fun c => ?_⟩
    obtain h | ⟨r, u, hu, h⟩ := s.carryOut_duty .dutySet fun r s => s.setDutyMode r
    · rw [h]
      exact .inl rfl
    · rw [h, ← hu, State.setDutyMode]
      dsimp only
      by_cases hcr : c = r.channel
      · rw [hcr, setChannel_same]
        unfold dutyChannel; split
        · exact .inr ⟨rfl, rfl⟩
        · exact .inl rfl
        · exact .inl rfl
      · rw [setChannel_other _ _ hcr]
        exact .inl rfl
  · exact ⟨s, exec_of_not_ready rfl hr, fun _ => .inl rfl⟩

/-- A channel as a ramp tick leaves it (R147–R150). -/
def ticked (s : State) (c : Fin 4) : Channel :=
  { s.duty.channels[c] with
    target := s.targetDuty c
    output := s.tickedOutput c
    handed := (s.duty.channels[c]).handed ||
      decide (0 < s.tickedOutput c ∧ (s.duty.channels[c]).stalled ∧
        ((s.duty.channels[c]).burst = .none ∨ (s.duty.channels[c]).burst = .waiting) ∧
        (s.duty.channels[c]).mode ≠ .off) }

theorem tickChannel_duty (s : State) (c : Fin 4) : (s.tickChannel c).duty = s.withChannel c (s.ticked c) := setChannel_duty ..

/-- What a tick computes for a channel depends on that channel, and on no other. -/
theorem ticked_tickChannel_other (s : State) {c d : Fin 4} (h : d ≠ c) : (s.tickChannel c).ticked d = s.ticked d := by
  have hch : (s.tickChannel c).duty.channels[d] = s.duty.channels[d] := by
    rw [tickChannel_duty, withChannel_other _ _ h]
  have hshed : (s.tickChannel c).duty.shed = s.duty.shed := by rw [tickChannel_duty]; rfl
  have hset : (s.tickChannel c).settings = s.settings := by simp
  have hwatch : (s.tickChannel c).watches = s.watches := by simp
  have hsource : (s.tickChannel c).ratedSource d = s.ratedSource d := by unfold ratedSource; rw [hset, hwatch]
  have hasked : (s.tickChannel c).askedDuty d = s.askedDuty d := by dsimp only [askedDuty]; rw [hch, hset, hsource]
  have hcap : (s.tickChannel c).levelCap = s.levelCap := by unfold levelCap; rw [hshed, hset]
  have hlifted : (s.tickChannel c).capLifted d = s.capLifted d := by unfold capLifted; rw [hch, hsource]
  have htarget : (s.tickChannel c).targetDuty d = s.targetDuty d := by unfold targetDuty; rw [hch, hasked, hcap, hlifted]
  have houtput : (s.tickChannel c).tickedOutput d = s.tickedOutput d := by
    dsimp only [tickedOutput]
    rw [hch, hset, htarget]
  unfold ticked
  rw [hch, htarget, houtput]

theorem tickAll_not_mem (s : State) {l : List (Fin 4)} {c : Fin 4} (h : c ∉ l) :
    (l.foldl State.tickChannel s).duty.channels[c] = s.duty.channels[c] ∧
      (l.foldl State.tickChannel s).ticked c = s.ticked c := by
  induction l generalizing s with
  | nil => exact ⟨rfl, rfl⟩
  | cons d l ih =>
    obtain ⟨hcd, hl⟩ := not_or.mp (mt List.mem_cons.mpr h)
    obtain ⟨hch, htick⟩ := ih (s.tickChannel d) hl
    exact ⟨hch.trans (by rw [tickChannel_duty, withChannel_other _ _ hcd]), htick.trans (s.ticked_tickChannel_other hcd)⟩

theorem tickAll_mem (s : State) {l : List (Fin 4)} (hn : l.Nodup) {c : Fin 4} (h : c ∈ l) :
    (l.foldl State.tickChannel s).duty.channels[c] = s.ticked c := by
  induction l generalizing s with
  | nil => exact absurd h List.not_mem_nil
  | cons d l ih =>
    obtain ⟨hd, hl⟩ := List.nodup_cons.mp hn
    by_cases hcd : c = d
    · subst hcd
      rw [List.foldl_cons, (tickAll_not_mem _ hd).1, tickChannel_duty, withChannel_same]
    · rw [List.foldl_cons, ih _ hl ((List.mem_cons.mp h).resolve_left hcd), s.ticked_tickChannel_other hcd]

/-- A ramp tick gives every channel its target and moves its output. -/
theorem tickChannels_channel (s : State) (c : Fin 4) : s.tickChannels.duty.channels[c] = s.ticked c :=
  tickAll_mem s (List.nodup_finRange 4) (List.mem_finRange c)

/-- The base and the timers are no part of what a tick computes. -/
theorem ticked_setTime (s : State) (v : TimeBase) (c : Fin 4) : (s.setTime v).ticked c = s.ticked c := rfl

theorem rampTick_ready (hr : s.ready) (hd : s.time.rampDue ≤ s.now) :
    exec .rampTick s = .next (s.setTime { s.time with rampDue := s.time.rampDue + millis 100 }).tickChannels :=
  congrArg Host.Outcome.next ((whenReady_of_ready _ hr).trans (whenDue_of_le s _ hd))

/-- The move of R149: toward the target, no farther, and by the step unless the target is nearer. -/
theorem rampTo_step (step output target : Nat) :
    rampTo step output target ≤ output + step ∧ output ≤ rampTo step output target + step ∧
      (rampTo step output target = target ∨ rampTo step output target = output + step ∨
        output = rampTo step output target + step) := by
  unfold rampTo; split <;> omega

theorem tickedOutput_of_burst {c : Fin 4} {due : Moment} (h : (s.duty.channels[c]).burst = .burst due) :
    s.tickedOutput c = 255 := by
  simp only [tickedOutput, h]

theorem tickedOutput_of_no_burst {c : Fin 4} (h : ∀ due, (s.duty.channels[c]).burst ≠ .burst due) :
    s.tickedOutput c =
      if (s.settings.channels[c]).ramp then
        rampTo (s.settings.channels[c]).step (s.duty.channels[c]).output (s.targetDuty c)
      else s.targetDuty c := by
  dsimp only [tickedOutput]; split
  next due hb => exact absurd hb (h due)
  all_goals rfl

end Sys2Proof.Machine.State

open Sys2Proof.Machine State in
/-- Settles O59: a tick by its own computation, and every other command by what it does to the channels: a burst, OFF, or the
beginning of a reset that is no soft one. -/
theorem outputsMoveOnlyByTheirRules : Obligations.OutputsMoveOnlyByTheirRules := by
  intro cmd s t c hready hexec
  refine ⟨fun hcmd => ?_, fun hcmd hmoved => ?_⟩
  · subst hcmd
    obtain ⟨hr, hd⟩ := hready.resolve_right (not_not_intro rfl)
    cases (rampTick_ready hr hd).symm.trans hexec
    dsimp only
    rw [tickChannels_channel, ticked_setTime]
    refine ⟨fun due hb => tickedOutput_of_burst hb, fun hb hramp => ?_, fun hb hramp => ?_⟩
    · simp only [ticked, tickedOutput_of_no_burst hb, hramp]
      rfl
    · simp only [ticked, tickedOutput_of_no_burst hb, hramp, if_true]
      exact ⟨(rampTo_between ..).1, (rampTo_between ..).2, rampTo_step ..⟩
  · rcases command_cases cmd with hc | hc | ⟨a, access, rfl⟩
    · by_cases hset : cmd = .dutySet
      · subst hset
        obtain ⟨u, hu, h⟩ := dutySet_outputs s
        cases hu.symm.trans hexec
        obtain ⟨h0, hoff⟩ := (h c).resolve_left hmoved
        exact .inl ⟨h0, hoff, rfl⟩
      · obtain ⟨u, hu, h⟩ := block_moved hc hset hcmd s
        cases hu.symm.trans hexec
        exact .inr (.inl ((h c).resolve_left hmoved))
    · obtain ⟨u, hu, h⟩ := resetCommand_outputs hc s
      cases hu.symm.trans hexec
      obtain ⟨hfull, hcmds⟩ := h.resolve_left fun h => hmoved (h c)
      simp only [fullResets, List.mem_cons, List.not_mem_nil, or_false] at hcmds
      exact .inr (.inr ⟨hfull.2 c, hfull.1, hcmds⟩)
    · obtain ⟨u, hu, ⟨v, rfl⟩ | ⟨v, -, -, rfl⟩ | rfl⟩ := exec_hostWordAccess a access s
      all_goals
        cases hu.symm.trans hexec
        exact absurd rfl hmoved
end

section
/-! PROOFS. The offer rule where the filling segment has room (R105–R107, R112): one record, and several one behind
another. -/

namespace Sys2Proof.Machine.State

variable {s t u : State} {i : Fin 16} {r : Record} {n : Nat}

/-! ## Where a record lies -/

/-- The room for a record lies in the collection region, behind the segment's header. -/
theorem RoomFor.bounds (h : s.RoomFor i n) :
    0x2000 ≤ s.segAddr i.val ∧ s.segAddr i.val + 5 + s.coll.used + n ≤ Config.memoryWords := by
  obtain ⟨⟨hbase, -, -, -, hend⟩, hi, -, hroom⟩ := h
  have hseg : (i.val + 1) * s.settings.size ≤ s.settings.count * s.settings.size := Nat.mul_le_mul_right _ hi
  rw [Nat.add_mul, Nat.one_mul] at hseg
  simp only [segAddr, Config.memoryWords]
  omega

/-- A record and its mirrors lie in the collection region and in three words of the status block. -/
theorem RecordWord.place (h : s.RoomFor i n) {a : Nat} (ha : s.RecordWord i n a) :
    0x2000 ≤ a ∨ a = 0x9B ∨ a = 0xA0 ∨ a = 0xA1 := by
  obtain ⟨hlow, -⟩ := h.bounds
  unfold RecordWord at ha
  omega

theorem not_recordWord (h : s.RoomFor i n) {a : Nat} (hlow : a < 0x2000) (h9B : a ≠ 0x9B) (hA0 : a ≠ 0xA0)
    (hA1 : a ≠ 0xA1) : ¬ s.RecordWord i n a := fun ha => by
  have := RecordWord.place h ha
  omega

/-- Room for more words is room for fewer. -/
theorem RoomFor.mono {m : Nat} (h : s.RoomFor i n) (hm : m ≤ n) : s.RoomFor i m := by
  obtain ⟨hg, hi, hst, hroom⟩ := h
  exact ⟨hg, hi, hst, by omega⟩

theorem roomFor_congr (hc : t.coll = s.coll) (hs : t.settings = s.settings) : t.RoomFor i n ↔ s.RoomFor i n := by
  simp [RoomFor, GeometryOk, hc, hs]

theorem recordWord_congr (hc : t.coll = s.coll) (hs : t.settings = s.settings) (a : Nat) :
    t.RecordWord i n a ↔ s.RecordWord i n a := by
  simp [RecordWord, segAddr, hc, hs]

theorem recorded_congr (hc : t.coll = s.coll) (hs : t.settings = s.settings)
    (ht : t.time.timestamp = s.time.timestamp) : t.Recorded u i r ↔ s.Recorded u i r := by
  simp [Recorded, segAddr, collAfter, hc, hs, ht]

/-! ## One record -/

/-- Frames compose through a change that leaves memory alone. -/
theorem KeepsWords.through {s t t' u : State} {p q : Nat → Prop} (h : s.KeepsWords t p) (hm : t'.mem = t.mem)
    (k : t'.KeepsWords u q) : s.KeepsWords u fun a => p a ∨ q a :=
  h.trans fun a ha => (k a ha).trans (by simp only [peek, hm])

theorem putRecord_keepsWords (s : State) (i : Fin 16) (r : Record) :
    s.KeepsWords (s.putRecord i r) fun a =>
      (s.segAddr i.val + 5 + s.coll.used ≤ a ∧ a < s.segAddr i.val + 5 + s.coll.used + r.length) ∨
        a = s.segAddr i.val + 1 ∨ a = 0x9B := by
  unfold putRecord
  refine (((s.pokes_keepsWords _ _).trans (poke_keepsWords _ _ _)).through (setColl_mem ..)
    (showFilling_keepsWords _)).mono ?_
  simp only [List.length_cons, Record.length]
  omega

theorem putRecord_coll (s : State) (i : Fin 16) (r : Record) :
    (s.putRecord i r).coll =
      { s.coll with recs := s.coll.recs + 1, used := s.coll.used + r.length, written := s.coll.written + 1 } := rfl

/-- A record written whole, the record count and words used behind it, with their mirror (R106, R107). -/
theorem putRecord_words (s : State) (i : Fin 16) (r : Record) (hlow : 0x2000 ≤ s.segAddr i.val)
    (hend : s.segAddr i.val + 5 + s.coll.used + r.length ≤ Config.memoryWords) :
    (∀ j < r.length, (s.putRecord i r).peek (s.segAddr i.val + 5 + s.coll.used + j) =
      (r.header :: s.time.timestamp :: r.payload).getD j 0) ∧
      (s.putRecord i r).peek (s.segAddr i.val + 1) = segWord1 (s.coll.recs + 1) (s.coll.used + r.length) 0 ∧
      (s.putRecord i r).peek 0x9B = pack [(14, s.coll.recs + 1), (15, s.coll.used + r.length)] := by
  have hlen : (r.header :: s.time.timestamp :: r.payload).length = r.length := by
    simp only [List.length_cons, Record.length]; omega
  refine ⟨fun j hj => ?_, ?_, peek_poke_same _ _ _ (by decide)⟩
  · refine (peek_poke_other _ _ _ _ (by omega)).trans ((peek_poke_other _ _ _ _ (by omega)).trans ?_)
    rw [s.peek_pokes_same _ j _ (by omega) (by omega), List.getD_eq_getElem _ _ (by omega)]
  · exact (peek_poke_other _ _ _ _ (by omega)).trans (peek_poke_same _ _ _ (by omega))

theorem offer_of_filling (h : s.RoomFor i r.length) :
    s.offer r = ((s.setColl { s.coll with offered := s.coll.offered + 1 }).putRecord i r).showColl s.coll := by
  obtain ⟨⟨-, -, -, -, -⟩, -, ⟨start, hst⟩, hroom⟩ := h
  have hfits : r.length + s.coll.used ≤ s.settings.size - 5 := by omega
  have hplace : (s.setColl { s.coll with offered := s.coll.offered + 1 }).placeRecord r =
      (s.setColl { s.coll with offered := s.coll.offered + 1 }).putRecord i r := by
    simp [placeRecord, hst, hfits]
  rw [offer, hplace]

/-- Behind a record, records written and offered are mirrored (R106, R112). -/
theorem showColl_of_recorded {old : Coll} (h : t.coll =
    { old with recs := old.recs + 1, used := old.used + n, offered := old.offered + 1, written := old.written + 1 }) :
    t.showColl old = (t.pokeIf 0xA1 old.written (old.written + 1)).pokeIf 0xA0 old.offered (old.offered + 1) := by
  simp [showColl, h, collWords, fillIndex, pokeChanged, pokeIf]

theorem offer_keepsWords (h : s.RoomFor i r.length) : s.KeepsWords (s.offer r) (s.RecordWord i r.length) := by
  rw [offer_of_filling h, showColl_of_recorded rfl]
  have hput := putRecord_keepsWords (s.setColl { s.coll with offered := s.coll.offered + 1 }) i r
  refine ((hput.trans (pokeIf_keepsWords _ _ _ _)).trans (pokeIf_keepsWords _ _ _ _)).mono ?_
  rintro a ((h1 | h1) | h1)
  · exact h1.elim .inl fun h1 => .inr (h1.elim .inl fun h1 => .inr (.inl h1))
  · exact .inr (.inr (.inr (.inr h1)))
  · exact .inr (.inr (.inr (.inl h1)))

theorem offer_coll (h : s.RoomFor i r.length) : (s.offer r).coll = s.collAfter r.length := by
  rw [offer_of_filling h]
  simp [putRecord_coll, collAfter]

theorem offer_wake (h : s.RoomFor i r.length) : (s.offer r).wake = s.wake := by
  rw [offer_of_filling h]
  simp [putRecord]

/-- Where the filling segment has room, a record offered changes nothing but memory and the counts. -/
theorem offer_eq (h : s.RoomFor i r.length) :
    s.offer r = { s with mem := (s.offer r).mem, coll := s.collAfter r.length } :=
  eq_of_fields (by simp [offer_coll h, offer_wake h])

theorem offer_recorded (h : s.RoomFor i r.length) : s.Recorded (s.offer r) i r := by
  obtain ⟨hlow, hend⟩ := h.bounds
  obtain ⟨hrec, hhead, hmirror⟩ :=
    putRecord_words (s.setColl { s.coll with offered := s.coll.offered + 1 }) i r hlow hend
  have hkeep (a : Nat) (h0 : a ≠ 0xA0) (h1 : a ≠ 0xA1) :
      (s.offer r).peek a = ((s.setColl { s.coll with offered := s.coll.offered + 1 }).putRecord i r).peek a := by
    rw [offer_of_filling h, showColl_of_recorded rfl, peek_pokeIf_other _ _ _ _ _ h0, peek_pokeIf_other _ _ _ _ _ h1]
  refine ⟨fun j hj => ?_, ?_, ?_, offer_coll h⟩
  · exact (hkeep _ (by omega) (by omega)).trans (hrec j hj)
  · exact (hkeep _ (by omega) (by omega)).trans hhead
  · exact (hkeep _ (by omega) (by omega)).trans hmirror

/-- A record offered in a state that shares the collection, the settings and the timestamp of `s`. -/
theorem offer_from (hc : u.coll = s.coll) (hs : u.settings = s.settings) (ht : u.time.timestamp = s.time.timestamp)
    (h : s.RoomFor i r.length) :
    s.Recorded (u.offer r) i r ∧ u.KeepsWords (u.offer r) (s.RecordWord i r.length) ∧
      u.offer r = { u with mem := (u.offer r).mem, coll := s.collAfter r.length } := by
  have hu := (roomFor_congr hc hs).2 h
  refine ⟨(recorded_congr hc hs ht).1 (offer_recorded hu),
    (offer_keepsWords hu).mono fun a => (recordWord_congr hc hs a).1, ?_⟩
  have := offer_eq hu
  rwa [show u.collAfter r.length = s.collAfter r.length by simp only [collAfter, hc]] at this

/-! ## Several records -/

theorem recordWords_append (s : State) (rs qs : List Record) :
    s.recordWords (rs ++ qs) = s.recordWords rs ++ s.recordWords qs := by simp [recordWords]

theorem recordWords_singleton (s : State) (r : Record) :
    s.recordWords [r] = r.header :: s.time.timestamp :: r.payload := by simp [recordWords]

theorem recordWords_singleton_length (s : State) (r : Record) : (s.recordWords [r]).length = r.length := by
  simp [recordWords_singleton, Record.length]; omega

theorem recordWords_congr (ht : t.time.timestamp = s.time.timestamp) (rs : List Record) :
    t.recordWords rs = s.recordWords rs := by simp [recordWords, ht]

/-- No record has been offered yet. -/
theorem RecordedAll.nil (hc : t.coll = s.coll) : s.RecordedAll t i [] := by
  simp [RecordedAll, recordWords, hc]

/-- A further record stands behind the records before it. The state `u` it is offered in may differ from the one the records
before it left in anything but their words and the counts. -/
theorem RecordedAll.snoc {rs : List Record} (hall : s.RecordedAll u i rs) (hs : u.settings = s.settings)
    (ht : u.time.timestamp = s.time.timestamp) (hroom : s.RoomFor i (s.recordWords (rs ++ [r])).length) :
    u.RoomFor i r.length ∧ s.RecordedAll (u.offer r) i (rs ++ [r]) ∧
      ∀ a, u.RecordWord i r.length a → s.RecordWords i (rs ++ [r]) a := by
  obtain ⟨hwords, -, hcoll⟩ := hall
  have hlen : (s.recordWords (rs ++ [r])).length = (s.recordWords rs).length + r.length := by
    rw [recordWords_append, List.length_append, recordWords_singleton_length]
  rw [hlen] at hroom
  obtain ⟨hlow, hend⟩ := hroom.bounds
  have hused : u.coll.used = s.coll.used + (s.recordWords rs).length := by rw [hcoll]
  have hseg (k : Nat) : u.segAddr k = s.segAddr k := by simp [segAddr, hs]
  have hu : u.RoomFor i r.length := by
    obtain ⟨hg, hi, hst, hfit⟩ := hroom
    exact ⟨by simpa [GeometryOk, hs] using hg, by rwa [hs], by rw [hcoll]; exact hst, by rw [hs, hused]; omega⟩
  obtain ⟨hrec, hhead, hmirror, hcoll'⟩ := offer_recorded hu
  have hkeeps := offer_keepsWords hu
  refine ⟨hu, ⟨fun j hj => ?_, fun _ => ⟨?_, ?_⟩, ?_⟩, fun a ha => ?_⟩
  · rw [recordWords_append]
    by_cases hjs : j < (s.recordWords rs).length
    · rw [hkeeps _ (by unfold RecordWord; rw [hseg, hused]; omega), hwords j hjs]
      simp [List.getD_eq_getElem?_getD, List.getElem?_append_left hjs]
    · obtain ⟨m, rfl⟩ := Nat.exists_eq_add_of_le (Nat.not_lt.mp hjs)
      have := hrec m (by omega)
      rw [hseg, hused, ht] at this
      rw [← Nat.add_assoc, Nat.add_assoc _ s.coll.used, this, recordWords_singleton]
      simp [List.getD_eq_getElem?_getD, List.getElem?_append_right]
  · rw [← hseg, hhead, hlen, hused, hcoll]
    simp [Nat.add_assoc]
  · rw [hmirror, hlen, hused, hcoll]
    simp [Nat.add_assoc]
  · rw [hcoll']
    simp [collAfter, hcoll, hlen, add_assoc, BitVec.ofNat_add]
  · refine ⟨by simp, ?_⟩
    unfold RecordWord at ha ⊢
    rw [hseg, hused] at ha
    omega

/-- One record is a list of one. -/
theorem recordedAll_singleton (h : s.Recorded t i r) : s.RecordedAll t i [r] := by
  obtain ⟨hrec, hhead, hmirror, hcoll⟩ := h
  refine ⟨?_, fun _ => ?_, ?_⟩
  · rw [recordWords_singleton_length, recordWords_singleton]; exact hrec
  · rw [recordWords_singleton_length]; exact ⟨hhead, hmirror⟩
  · rw [recordWords_singleton_length]; exact hcoll

theorem RecordWords.place {rs : List Record} (h : s.RoomForAll i rs) {a : Nat} (ha : s.RecordWords i rs a) :
    0x2000 ≤ a ∨ a = 0x9B ∨ a = 0xA0 ∨ a = 0xA1 := RecordWord.place (h ha.1) ha.2

theorem not_recordWords {rs : List Record} (h : s.RoomForAll i rs) {a : Nat} (hlow : a < 0x2000) (h9B : a ≠ 0x9B)
    (hA0 : a ≠ 0xA0) (hA1 : a ≠ 0xA1) : ¬ s.RecordWords i rs a := fun ha => by
  have := RecordWords.place h ha
  omega

end Sys2Proof.Machine.State
end

section
/-! PROOFS. The Duty Controller's ramp ticks and bursts (R147–R155), and the obligations O58 and O60. -/

namespace Sys2Proof.Machine.State

variable {s t u : State}

/-! ## Causes and mirrors -/

@[simp] theorem raiseCause_wake (s : State) (c : WakeCause) : (s.raiseCause c).wake = s.raised c := rfl

/-- What a cause makes of the Wake Unit depends on that unit, on the level and on the masks. -/
theorem raised_congr (hw : t.wake = s.wake) (hd : t.duty.shed = s.duty.shed) (hs : t.settings = s.settings)
    (c : WakeCause) : t.raised c = s.raised c := by
  have hm : t.maskInForce = s.maskInForce := by simp only [maskInForce, hd, hs]
  simp only [raised, hw, hm]

theorem setChannel_reshown (s : State) (c : Fin 4) (ch : Channel) : s.ChannelReshown (s.setChannel c ch) c := by
  have hlo : 0xA3 + 2 * c.val ≠ 0xA4 + 2 * c.val := by omega
  constructor
  · rw [Reshown, setChannel_same]
    unfold setChannel
    rw [peek_pokeIf_other _ _ _ _ _ hlo, peek_pokeIf_same _ _ _ _ (by simp only [Config.memoryWords]; omega)]
    rfl
  · rw [Reshown, setChannel_same]
    unfold setChannel
    rw [peek_pokeIf_same _ _ _ _ (by simp only [Config.memoryWords]; omega), peek_pokeIf_other _ _ _ _ _ hlo.symm]
    rfl

theorem setChannel_eq (s : State) (c : Fin 4) (ch : Channel) :
    s.setChannel c ch = { s with mem := (s.setChannel c ch).mem, duty := s.withChannel c ch } :=
  eq_of_fields (by simp [setChannel_duty])

/-- A mirror stands where its words and the channel stand. -/
theorem channelReshown_congr {c : Fin 4} (h : s.ChannelReshown t c) (hc : u.duty.channels[c] = t.duty.channels[c])
    (h3 : u.peek (0xA3 + 2 * c.val) = t.peek (0xA3 + 2 * c.val))
    (h4 : u.peek (0xA4 + 2 * c.val) = t.peek (0xA4 + 2 * c.val)) : s.ChannelReshown u c := by
  obtain ⟨hlo, hhi⟩ := h
  exact ⟨by rw [Reshown, h3, hc]; exact hlo, by rw [Reshown, h4, hc]; exact hhi⟩

theorem not_recordWord_channel {i : Fin 16} {n : Nat} (h : s.RoomFor i n) {c : Fin 4} {a : Nat} (ha : ChannelWord c a) :
    ¬ s.RecordWord i n a := by
  have hc := c.isLt
  unfold ChannelWord at ha
  exact not_recordWord h (by omega) (by omega) (by omega) (by omega)

theorem stallRecord_eq (c : Fin 4) (tach : Option (Fin 16)) (e : StallEvent) (used : Nat) :
    stallRecord c tach e used =
      { kind := .stall
        payload := [pack [(2, c.val), (4, match tach with | some i => i.val | none => 15), (2, e.code), (2, used)]] } := by
  cases tach <;> rfl

/-- A channel is given its state, and a record and the STALL cause report it. -/
theorem setChannel_reported {i : Fin 16} {r : Record} (s : State) (c : Fin 4) (ch : Channel)
    (h : s.RoomFor i r.length) (ht : t = ((s.setChannel c ch).offer r).raiseCause .stall) :
    s.ChannelReshown t c ∧ s.Recorded t i r ∧ s.KeepsWords t (fun a => ChannelWord c a ∨ s.RecordWord i r.length a) ∧
      t = { s with
        mem := t.mem, duty := s.withChannel c ch, coll := s.collAfter r.length, wake := s.raised .stall } := by
  obtain ⟨hrec, hkeep, heq⟩ := offer_from (u := s.setChannel c ch) (r := r) (by simp) (by simp) (by simp) h
  have hset := setChannel_reshown s c ch
  have hwords := (setChannel_keepsWords s c ch).trans hkeep
  have hsheq := setChannel_eq s c ch
  generalize s.setChannel c ch = v at *
  generalize v.offer r = w at *
  subst ht
  refine ⟨channelReshown_congr hset (by rw [show (w.raiseCause .stall).duty = w.duty from rfl, heq]) (hkeep _ (not_recordWord_channel h (.inl rfl)))
    (hkeep _ (not_recordWord_channel h (.inr rfl))), hrec, hwords, ?_⟩
  have hw : (w.raiseCause .stall).wake = s.raised .stall :=
    raised_congr (by rw [heq, hsheq]) (by rw [heq, hsheq]; rfl) (by rw [heq, hsheq]) _
  refine eq_of_fields (by rw [hw]; simp; rw [heq, hsheq]; simp)

end Sys2Proof.Machine.State

namespace Sys2Proof.Machine.State

variable {s t u : State}

/-! ## Ramp ticks (R147–R150) -/

theorem channelWord_other {c d : Fin 4} (h : d ≠ c) {a : Nat} (ha : ChannelWord c a) : ¬ ChannelWord d a := by
  have hv : d.val ≠ c.val := fun hv => h (Fin.ext hv)
  unfold ChannelWord at ha ⊢
  omega

/-- What is reshown against `t` is reshown against `s`, where the channel and its mirror stand in both. -/
theorem channelReshown_since {c : Fin 4} (h : t.ChannelReshown u c) (hc : t.duty.channels[c] = s.duty.channels[c])
    (hk : ∀ a, ChannelWord c a → t.peek a = s.peek a) : s.ChannelReshown u c := by
  obtain ⟨hlo, hhi⟩ := h
  rw [Reshown, hc, hk _ (.inl rfl)] at hlo
  rw [Reshown, hc, hk _ (.inr rfl)] at hhi
  exact ⟨hlo, hhi⟩

theorem tickAll_keepsWords (s : State) (l : List (Fin 4)) :
    s.KeepsWords (l.foldl tickChannel s) fun a => ∃ c ∈ l, ChannelWord c a := by
  induction l generalizing s with
  | nil => exact .refl s _
  | cons d l ih =>
    refine ((setChannel_keepsWords s d _).trans (ih (s.tickChannel d))).mono ?_
    rintro a (h | ⟨c, hc, h⟩)
    · exact ⟨d, List.mem_cons_self .., h⟩
    · exact ⟨c, List.mem_cons_of_mem _ hc, h⟩

theorem tickAll_reshown (s : State) {l : List (Fin 4)} (hn : l.Nodup) {c : Fin 4} (h : c ∈ l) :
    s.ChannelReshown (l.foldl tickChannel s) c := by
  induction l generalizing s with
  | nil => exact absurd h List.not_mem_nil
  | cons d l ih =>
    obtain ⟨hd, hl⟩ := List.nodup_cons.mp hn
    by_cases hcd : c = d
    · subst hcd
      have hrest := tickAll_keepsWords (s.tickChannel c) l
      have hout (a : Nat) (ha : ChannelWord c a) : ¬ ∃ d ∈ l, ChannelWord d a := by
        rintro ⟨d, hdl, hda⟩
        exact channelWord_other (fun heq : d = c => hd (heq ▸ hdl)) ha hda
      exact channelReshown_congr (setChannel_reshown s c (s.ticked c)) (tickAll_not_mem _ hd).1
        (hrest _ (hout _ (.inl rfl)))
        (hrest _ (hout _ (.inr rfl)))
    · refine channelReshown_since (ih (s.tickChannel d) hl ((List.mem_cons.mp h).resolve_left hcd)) ?_ fun a ha => ?_
      · rw [tickChannel_duty, withChannel_other _ _ hcd]
      · exact setChannel_keepsWords s d _ a (channelWord_other (Ne.symm hcd) ha)

theorem tickAll_shed (s : State) (l : List (Fin 4)) : (l.foldl tickChannel s).duty.shed = s.duty.shed := by
  induction l generalizing s with
  | nil => rfl
  | cons d l ih => rw [List.foldl_cons, ih, tickChannel_duty]; rfl

/-- A ramp tick changes nothing but the channels and their mirrors. -/
theorem tickChannels_eq (s : State) :
    s.tickChannels =
      { s with mem := s.tickChannels.mem, duty := { s.duty with channels := s.tickChannels.duty.channels } } := by
  have hshed : s.tickChannels.duty.shed = s.duty.shed := tickAll_shed s _
  have hduty : s.tickChannels.duty = { s.duty with channels := s.tickChannels.duty.channels } := by
    dsimp only
    rw [← hshed]
  exact eq_of_fields (by rw [← hduty]; simp)

theorem ratedSource_of_rated {c : Fin 4} {w : Fin 64} (hsrc : (s.settings.channels[c]).source = some w)
    (harm : (s.watches[w]).armed = true) (hgr : (s.watches[w]).grade ≠ .unrated) :
    s.ratedSource c = some s.watches[w] := by
  simp only [ratedSource, hsrc, harm, true_and, if_pos hgr]

theorem ratedSource_of_none_rated {c : Fin 4}
    (h : ∀ w, ¬ ((s.settings.channels[c]).source = some w ∧ (s.watches[w]).armed = true ∧ (s.watches[w]).grade ≠ .unrated)) :
    s.ratedSource c = none := by
  unfold ratedSource; split
  · rfl
  next w hw => exact if_neg fun hr => h w ⟨hw, hr⟩

/-! ## The target of a tick, by the mode (R147, R148) -/

section Targets

variable {c : Fin 4}

theorem targetDuty_off (hm : (s.duty.channels[c]).mode = .off) : s.targetDuty c = 0 := by
  simp only [targetDuty, hm]

theorem targetDuty_manual (hm : (s.duty.channels[c]).mode = .manual) :
    s.targetDuty c = min (s.duty.channels[c]).manual s.levelCap := by
  have hlift : s.capLifted c = false := by simp only [capLifted, hm, reduceCtorEq, decide_false, Bool.false_and]
  have hasked : s.askedDuty c = (s.duty.channels[c]).manual := by simp only [askedDuty, hm]
  simp only [targetDuty, hm, hasked, hlift, Bool.false_eq_true, if_false]

theorem targetDuty_fallback (hm : (s.duty.channels[c]).mode = .adaptive)
    (h : ∀ w, ¬ ((s.settings.channels[c]).source = some w ∧ (s.watches[w]).armed = true ∧ (s.watches[w]).grade ≠ .unrated)) :
    s.targetDuty c = min (s.settings.channels[c]).fallback s.levelCap := by
  have hlift : s.capLifted c = false := by
    simp only [capLifted, ratedSource_of_none_rated h, Option.map_none, Option.getD_none, Bool.and_false]
  have hasked : s.askedDuty c = (s.settings.channels[c]).fallback := by
    simp only [askedDuty, hm, ratedSource_of_none_rated h]
  simp only [targetDuty, hm, hasked, hlift, Bool.false_eq_true, if_false]

theorem targetDuty_rated (hm : (s.duty.channels[c]).mode = .adaptive) {w : Fin 64}
    (hsrc : (s.settings.channels[c]).source = some w) (harm : (s.watches[w]).armed = true)
    (hgr : (s.watches[w]).grade ≠ .unrated) :
    s.targetDuty c =
      min
        (max (adaptiveDuty (s.settings.channels[c]).start (s.settings.channels[c]).slope (s.watches[w]).smooth)
          (s.settings.channels[c]).minimum)
        (if (s.watches[w]).grade = .critHigh then 255 else s.levelCap) := by
  have hlift : s.capLifted c = decide ((s.watches[w]).grade = .critHigh) := by
    simp only [capLifted, hm, ratedSource_of_rated hsrc harm hgr, Option.map_some, Option.getD_some, decide_true,
      Bool.true_and]
  have hasked : s.askedDuty c =
      max (adaptiveDuty (s.settings.channels[c]).start (s.settings.channels[c]).slope (s.watches[w]).smooth)
        (s.settings.channels[c]).minimum := by
    simp only [askedDuty, hm, ratedSource_of_rated hsrc harm hgr]
  simp only [targetDuty, hm, hasked, hlift, decide_eq_true_eq]

end Targets

end Sys2Proof.Machine.State

open Sys2Proof.Machine State in
/-- Settles O60: each command's outcome is one channel given its new state, alone or with its STALL record and cause. -/
theorem burstsFreeOrFailAFan : Obligations.BurstsFreeOrFailAFan := by
  intro s c hr ch tach record puts reports
  have hputs {cmd : Sys2Proof.Instr} {ch' : Channel} (h : exec cmd s = .next (s.setChannel c ch')) : puts cmd ch' :=
    ⟨_, h, setChannel_reshown s c ch', setChannel_keepsWords s c ch', setChannel_eq s c ch'⟩
  have hreports {cmd : Sys2Proof.Instr} {ch' : Channel} {i : Fin 16} {e : StallEvent} {used : Nat} (hroom : s.RoomFor i 3)
      (h : exec cmd s = .next (((s.setChannel c ch').offer (stallRecord c (s.tachOf c) e used)).raiseCause .stall)) :
      reports cmd ch' i (record e.code used) := by
    rw [stallRecord_eq] at h
    exact ⟨_, h, setChannel_reported s c ch' hroom rfl⟩
  refine ⟨fun i hh hst hm hb hroom => ?_, fun hh hst hm hb => ?_, fun due hb hdue => ?_, fun due hb hdue =>
    ⟨fun hu ho => ?_, fun hu ho => ?_, fun i hu hroom => ?_⟩⟩
  · refine hreports (e := .begin) hroom (congrArg Host.Outcome.next ((whenReady_of_ready _ hr).trans ?_))
    dsimp only
    rw [if_pos ⟨hh, hst, hm⟩, show (s.duty.channels[c]).burst = _ from hb]
    dsimp only
    rw [beginEpisode]
    rfl
  · refine hputs (congrArg Host.Outcome.next ((whenReady_of_ready _ hr).trans ?_))
    dsimp only
    rw [if_pos ⟨hh, hst, hm⟩, show (s.duty.channels[c]).burst = _ from hb]
    rfl
  · refine hputs (congrArg Host.Outcome.next ((whenReady_of_ready _ hr).trans ?_))
    rw [show (s.duty.channels[c]).burst = _ from hb]
    exact whenDue_of_le s _ hdue
  all_goals
    have hend : exec (.spacingExpiry c) s = .next (s.endSpacing c) := by
      refine congrArg Host.Outcome.next ((whenReady_of_ready _ hr).trans ?_)
      rw [show (s.duty.channels[c]).burst = _ from hb]
      exact whenDue_of_le s _ hdue
  · refine hputs (hend.trans ?_)
    rw [endSpacing, if_pos hu, if_pos ho]
    rfl
  · refine hputs (hend.trans ?_)
    rw [endSpacing, if_pos hu, if_neg (by rw [show (s.duty.channels[c]).output = 0 from ho]; decide)]
  · refine hreports (e := .failed) hroom (hend.trans ?_)
    rw [endSpacing, if_neg (Nat.not_lt.mpr hu)]

open Sys2Proof.Machine State in
/-- Settles O58: a tick gives each channel what `ticked` computes, read case by case. -/
theorem rampTicksCapAndMove : Obligations.RampTicksCapAndMove := by
  intro s hr hdue cap
  have hcap : s.levelCap = cap := by
    show (match s.duty.shed with | .none => 255 | .economy => s.settings.economyCap | .survival => s.settings.survivalCap) = _
    rfl
  have htick (c : Fin 4) : (s.setTime { s.time with rampDue := s.time.rampDue + millis 100 }).tickChannels.duty.channels[c] =
      s.ticked c := (tickChannels_channel _ c).trans (ticked_setTime s _ c)
  have hshown (c : Fin 4) := tickAll_reshown (s.setTime { s.time with rampDue := s.time.rampDue + millis 100 })
    (List.nodup_finRange 4) (List.mem_finRange c)
  have hwords := tickAll_keepsWords (s.setTime { s.time with rampDue := s.time.rampDue + millis 100 }) (List.finRange 4)
  refine ⟨_, rampTick_ready hr hdue, fun c => ?_, hwords.mono fun a ⟨c, _, ha⟩ => ⟨c, ha⟩, tickChannels_eq _⟩
  rw [htick]
  refine ⟨fun hm => ?_, fun hm => ?_, fun hm hnone => ?_, fun w hm hrated => ?_, fun ⟨due, hb⟩ => tickedOutput_of_burst hb,
    fun hb hramp => ?_, fun hb hramp => ?_, ?_, rfl, hshown c⟩
  · exact targetDuty_off hm
  · exact (targetDuty_manual hm).trans (by rw [hcap])
  · exact (targetDuty_fallback hm hnone).trans (by rw [hcap])
  · obtain ⟨hsrc, harm, hgr⟩ := hrated
    exact (targetDuty_rated hm hsrc harm hgr).trans (by rw [hcap]; rfl)
  · simp only [ticked, tickedOutput_of_no_burst hb, hramp]
    rfl
  · simp only [ticked, tickedOutput_of_no_burst hb, hramp, rampTo, if_true]
  · simp only [ticked, Bool.or_eq_true, decide_eq_true_eq]
end

section
/-! PROOFS. The Request Table: what a completion, the end of an examination and a request carried out at once leave
(R173–R176). -/

namespace Sys2Proof.Machine.State

variable {s t u w : State} {r : Taken} {k : ReqKind} {p : Nat → Prop}

/-! ## A completion in a slot (R175) -/

theorem slotAddr_bounds (k : Fin 16) : 0x100 ≤ slotAddr k ∧ slotAddr k + 7 < 0x180 := by
  unfold slotAddr; omega

theorem slotReport_bounds {k : Fin 16} {a : Nat} (h : SlotReport k a) : 0x100 ≤ a ∧ a < 0x180 := by
  have := slotAddr_bounds k
  unfold SlotReport at h
  omega

theorem reportWord_bounds {a : Nat} (h : ReportWord r a) : a = 0x43 ∨ (0x100 ≤ a ∧ a < 0x180) :=
  h.elim (fun h => .inr (slotReport_bounds h)) .inl

/-- Slots share no word. -/
theorem slotReport_other {j k : Fin 16} (h : j ≠ k) {a : Nat} (ha : SlotReport k a) : ¬ SlotReport j a := by
  have hv : j.val ≠ k.val := fun hv => h (Fin.ext hv)
  unfold SlotReport slotAddr at *
  omega

theorem slotState_eq (s : State) (k : Fin 16) : slotState s.mem k = field (s.peek (slotAddr k)) 0 3 := rfl

theorem slotState_congr {k : Fin 16} (h : t.peek (slotAddr k) = s.peek (slotAddr k)) :
    slotState t.mem k = slotState s.mem k := by
  rw [slotState_eq, slotState_eq, h]

section completeSlot

variable (s : State) (slot : Fin 16) (wake : Bool) (res : Result) (v : Word)

theorem completeSlot_of_not_taken (h : slotState s.mem slot ≠ 2) : s.completeSlot slot wake res v = s := if_neg h

/-- The words of a slot that read TAKEN once its request has completed. -/
theorem completeSlot_of_taken (h : slotState s.mem slot = 2) :
    s.completeSlot slot wake res v =
      if wake then
        (((s.poke (slotAddr slot + 6) (BitVec.ofNat 32 res.code)).poke (slotAddr slot + 7) v).poke (slotAddr slot)
          (if res = .ok then 3 else 4)).raiseCause .request
      else
        ((s.poke (slotAddr slot + 6) (BitVec.ofNat 32 res.code)).poke (slotAddr slot + 7) v).poke (slotAddr slot)
          (if res = .ok then 3 else 4) := if_pos h

theorem completeSlot_keepsWords : s.KeepsWords (s.completeSlot slot wake res v) (SlotReport slot) := by
  have hwrites : s.KeepsWords (((s.poke (slotAddr slot + 6) (BitVec.ofNat 32 res.code)).poke (slotAddr slot + 7) v).poke
      (slotAddr slot) (if res = .ok then 3 else 4)) (SlotReport slot) :=
    (((s.poke_keepsWords _ _).trans (poke_keepsWords _ _ _)).trans (poke_keepsWords _ _ _)).mono (by
      unfold SlotReport; omega)
  by_cases h : slotState s.mem slot = 2
  · rw [completeSlot_of_taken _ _ _ _ _ h]
    split
    · exact hwrites
    · exact hwrites
  · rw [completeSlot_of_not_taken _ _ _ _ _ h]
    exact .refl s _

theorem completeSlot_done : s.SlotDone (s.completeSlot slot wake res v) slot res v := by
  unfold SlotDone
  have hb := slotAddr_bounds slot
  have hm : Config.memoryWords = 0x8000 := rfl
  by_cases h : slotState s.mem slot = 2
  · have hwrites := completeSlot_of_taken s slot wake res v h
    have hpeek (a : Nat) : (s.completeSlot slot wake res v).peek a =
        (((s.poke (slotAddr slot + 6) (BitVec.ofNat 32 res.code)).poke (slotAddr slot + 7) v).poke (slotAddr slot)
          (if res = .ok then 3 else 4)).peek a := by
      rw [hwrites]; split <;> rfl
    rw [if_pos h]
    refine ⟨?_, ?_, ?_⟩
    · rw [hpeek, peek_poke_same _ _ _ (by omega)]
    · rw [hpeek, peek_poke_other _ _ _ _ (by omega), peek_poke_other _ _ _ _ (by omega), peek_poke_same _ _ _ (by omega)]
    · rw [hpeek, peek_poke_other _ _ _ _ (by omega), peek_poke_same _ _ _ (by omega)]
  · rw [if_neg h, completeSlot_of_not_taken _ _ _ _ _ h]
    exact fun a _ => rfl

theorem completeSlot_wake : (s.completeSlot slot wake res v).wake = s.wakeDone slot wake := by
  unfold wakeDone
  by_cases h : slotState s.mem slot = 2
  · rw [completeSlot_of_taken _ _ _ _ _ h]
    cases wake
    · simp [h]
    · simp only [h, if_true, true_and, raiseCause_wake]
      exact raised_congr (by simp) (by simp) (by simp) _
  · rw [completeSlot_of_not_taken _ _ _ _ _ h, if_neg (fun hw => h hw.1)]

theorem completeSlot_eq :
    s.completeSlot slot wake res v =
      { s with mem := (s.completeSlot slot wake res v).mem, wake := s.wakeDone slot wake } :=
  eq_of_fields (by simp [completeSlot_wake])

end completeSlot

/-- What a completion left stands while the words of the slot stand. -/
theorem slotDone_congr {slot : Fin 16} {res : Result} {v : Word} (h : s.SlotDone t slot res v)
    (hk : ∀ a, SlotReport slot a → u.peek a = t.peek a) : s.SlotDone u slot res v := by
  unfold SlotDone at h ⊢
  split at h
  next ht =>
    obtain ⟨h0, h6, h7⟩ := h
    rw [if_pos ht]
    exact ⟨(hk _ (.inl rfl)).trans h0, (hk _ (.inr (.inl rfl))).trans h6, (hk _ (.inr (.inr rfl))).trans h7⟩
  next ht =>
    rw [if_neg ht]
    exact fun a ha => (hk a ha).trans (h a ha)

/-- A completion is the same one seen from a state in which the slot's words read as they did. -/
theorem slotDone_since {slot : Fin 16} {res : Result} {v : Word} (h : w.SlotDone t slot res v)
    (hk : ∀ a, SlotReport slot a → w.peek a = s.peek a) : s.SlotDone t slot res v := by
  unfold SlotDone at h ⊢
  rw [slotState_congr (hk _ (.inl rfl))] at h
  split at h
  next ht => rwa [if_pos ht]
  next ht =>
    rw [if_neg ht]
    exact fun a ha => (h a ha).trans (hk a ha)

/-! ## The end of an examination (R172, R173) -/

theorem advanceSweep_keepsWords (s : State) : s.KeepsWords s.advanceSweep (· = 0x43) := by
  unfold advanceSweep; split
  · exact .refl s _
  · split
    · exact fun a _ => rfl
    · exact poke_keepsWords _ _ _

theorem advanceSweep_of_none (h : s.req.sweep = none) : s.advanceSweep = s := by
  unfold advanceSweep
  simp only [h]

theorem advanceSweep_of_some {j : Fin 16} (h : s.req.sweep = some j) :
    s.advanceSweep = { s with mem := s.advanceSweep.mem, req := sweptOn s.req j } := by
  unfold advanceSweep sweptOn
  simp only [h]
  split <;> rfl

theorem advanceSweep_shown (s : State) : s.SweepShown s.advanceSweep := by
  unfold SweepShown advanceSweep
  split
  next h => simp [h]
  next k h =>
    split
    next hk =>
      have : k ≠ 15 := fun h => by subst h; exact absurd hk (by decide)
      simp only [h, Option.some.injEq, this, if_false]
      rfl
    next hk =>
      have : k = 15 := Fin.ext (by have := k.isLt; show k.val = 15; omega)
      subst this
      simp only [h, if_true]
      exact peek_poke_same _ _ _ (by decide)

theorem endExamination_keepsWords (s : State) : s.KeepsWords s.endExamination (· = 0x43) :=
  advanceSweep_keepsWords (s.setReq { s.req with current := none })

theorem endExamination_eq (s : State) :
    s.endExamination = { s with mem := s.endExamination.mem, req := s.reqDone s.req.inflight } := by
  unfold endExamination reqDone
  cases h : s.req.sweep with
  | none => rw [advanceSweep_of_none (s := s.setReq { s.req with current := none }) h]; rfl
  | some j => exact advanceSweep_of_some (s := s.setReq { s.req with current := none }) h

theorem endExamination_shown (s : State) : s.SweepShown s.endExamination :=
  advanceSweep_shown (s.setReq { s.req with current := none })

/-! ## A request carried out at once (R174) -/

/-- A request of the kind that is carried out already is carried on by its command. -/
theorem carryOut_of_carries (h : s.Carries r k) (work : Taken → State → Carried) :
    s.carryOut k work =
      match work r s with
      | (u, some (res, v)) => (u.completeSlot r.slot r.wake res v).endExamination
      | (u, none) => u.endExamination := by
  obtain ⟨-, hcur, hkind, -⟩ := h
  have hposted : s.postedKind ≠ some k := by simp [postedKind, nextSlot, hcur]
  unfold carryOut
  rw [if_neg hposted]
  simp only [hcur, hkind, if_true]
  rcases work r s with ⟨u, _ | ⟨res, v⟩⟩ <;> rfl

theorem exec_of_carries {cmd : Sys2Proof.Instr} {work : Taken → State → Carried} (h : s.Carries r k)
    (hcmd : exec cmd s = .next (s.whenReady fun s => s.carryOut k work)) {res : Result} {v : Word}
    (hw : work r s = (w, some (res, v))) :
    exec cmd s = .next (w.completeSlot r.slot r.wake res v).endExamination := by
  rw [hcmd, whenReady_of_ready _ h.1, carryOut_of_carries h, hw]

theorem exec_held_of_carries {cmd : Sys2Proof.Instr} {work : Taken → State → Carried} (h : s.Carries r k)
    (hcmd : exec cmd s = .next (s.whenReady fun s => s.carryOut k work)) (hw : work r s = (w, none)) :
    exec cmd s = .next w.endExamination := by
  rw [hcmd, whenReady_of_ready _ h.1, carryOut_of_carries h, hw]

/-- The completion of a request writes its slot's report and the sweep count. -/
theorem completed_keepsWords (w : State) (r : Taken) (res : Result) (v : Word) :
    w.KeepsWords (w.completeSlot r.slot r.wake res v).endExamination (ReportWord r) :=
  (completeSlot_keepsWords w _ _ _ _).trans (endExamination_keepsWords _)

/-- The words that a request's work leaves alone where it is to complete: its slot's report and the sweep count. -/
def Spares (r : Taken) (p : Nat → Prop) : Prop := ∀ a, p a → ¬ ReportWord r a

theorem spares_of_bounds (h : ∀ a, p a → a ≠ 0x43 ∧ (a < 0x100 ∨ 0x180 ≤ a)) : Spares r p := fun a ha hr => by
  have := h a ha
  have := reportWord_bounds hr
  omega

/-- A request whose work made `w` of the state, which is `u` but for memory, completes. -/
theorem completes_of_work (res : Result) (v : Word) (hp : Spares r p) (hkeep : s.KeepsWords w p)
    (heq : w = { u with mem := w.mem }) (hmem : u.mem = s.mem) {held : List HeldRequest}
    (hreq : u.req = { s.req with inflight := held }) :
    s.Completes (w.completeSlot r.slot r.wake res v).endExamination r res v p u := by
  have hstand (a : Nat) (ha : ReportWord r a) : w.peek a = s.peek a := hkeep a fun h => hp a h ha
  have hwreq : w.req = { s.req with inflight := held } := by rw [heq]; exact hreq
  have hce := completeSlot_eq w r.slot r.wake res v
  have hck := completeSlot_keepsWords w r.slot r.wake res v
  have hcd := completeSlot_done w r.slot r.wake res v
  have hall := completed_keepsWords w r res v
  generalize w.completeSlot r.slot r.wake res v = c at *
  have hek := endExamination_keepsWords c
  have hes := endExamination_shown c
  have hee := endExamination_eq c
  have hcreq : c.req = { s.req with inflight := held } := by rw [hce]; exact hwreq
  have hc43 : c.peek 0x43 = s.peek 0x43 :=
    (hck _ fun h => by have := slotReport_bounds h; omega).trans (hstand _ (.inr rfl))
  generalize c.endExamination = t at *
  refine ⟨slotDone_congr (slotDone_since hcd fun a ha => hstand a (.inl ha)) fun a ha => hek a fun h => ?_, ?_,
    (hkeep.trans hall).mono fun a h => h.symm, ?_⟩
  · have := slotReport_bounds ha
    omega
  · unfold SweepShown at hes ⊢
    rw [hcreq, hc43] at hes
    exact hes
  · have hwake : w.wakeDone r.slot r.wake = u.wakeDone r.slot r.wake := by
      unfold wakeDone
      rw [slotState_congr (hstand _ (.inl (.inl rfl))), hmem]
      have : w.raised .request = u.raised .request :=
        raised_congr (by rw [heq]) (by rw [heq]) (by rw [heq]) _
      rw [this, show w.wake = u.wake by rw [heq]]
    have hdone : c.reqDone c.req.inflight = s.reqDone u.req.inflight := by
      unfold reqDone
      rw [hcreq, hreq]
    rw [hdone] at hee
    rw [hwake] at hce
    rw [hee, hce, heq]

/-- A request whose work made `w` of the state and that is then held in flight. -/
theorem holdsOn_of_work {kind : HeldKind} (hp : Spares r p) (hkeep : s.KeepsWords w p)
    (heq : w = { u with
      mem := w.mem
      req := { s.req with inflight := s.req.inflight ++ [{ slot := r.slot, kind := kind, wake := r.wake }] } }) :
    s.HoldsOn w.endExamination r kind p u := by
  have hek := endExamination_keepsWords w
  have hes := endExamination_shown w
  have hee := endExamination_eq w
  have hreq : w.req = { s.req with inflight := s.req.inflight ++ [{ slot := r.slot, kind := kind, wake := r.wake }] } := by
    rw [heq]
  have h43 : w.peek 0x43 = s.peek 0x43 := hkeep _ fun h => hp _ h (.inr rfl)
  generalize w.endExamination = t at *
  refine ⟨?_, (hkeep.trans hek).mono fun a h => h.symm, ?_⟩
  · unfold SweepShown at hes ⊢
    rw [hreq, h43] at hes
    exact hes
  · have hdone : w.reqDone w.req.inflight =
        s.reqDone (s.req.inflight ++ [{ slot := r.slot, kind := kind, wake := r.wake }]) := by
      unfold reqDone
      rw [hreq]
    rw [hdone] at hee
    rw [hee, heq]

/-- `t` is `w` after the completion of a request: but for the words of its report, the table and the Wake Unit, `t` is `w`. -/
def Reports (r : Taken) (w t : State) : Prop :=
  w.KeepsWords t (ReportWord r) ∧ t = { w with mem := t.mem, req := t.req, wake := t.wake }

theorem Reports.peek (h : Reports r w t) (hp : Spares r p) {a : Nat} (ha : p a) : t.peek a = w.peek a := h.1 a (hp a ha)

theorem Reports.word40 (h : Reports r w t) : t.word40 = w.word40 := by
  rw [h.2]
  rfl

/-- A command whose work completes answers the completed state, and what else holds of it follows from the work. -/
theorem answers_of_work (h : s.Carries r k) {cmd : Sys2Proof.Instr} {work : Taken → State → Carried}
    (hcmd : exec cmd s = .next (s.whenReady fun s => s.carryOut k work)) {res : Result} {v : Word}
    (hw : work r s = (w, some (res, v))) (u : State) (hp : Spares r p) (hkeep : s.KeepsWords w p)
    (heq : w = { u with mem := w.mem }) (hmem : u.mem = s.mem) {held : List HeldRequest}
    (hreq : u.req = { s.req with inflight := held }) {Q : State → Prop} (hQ : ∀ t, Reports r w t → Q t) :
    Answers (exec cmd s) fun t => s.Completes t r res v p u ∧ Q t := by
  have hcomp := completes_of_work (r := r) res v hp hkeep heq hmem hreq
  have hkeeps := completed_keepsWords w r res v
  have hexec := exec_of_carries h hcmd hw
  generalize (w.completeSlot r.slot r.wake res v).endExamination = t at *
  exact ⟨t, hexec, hcomp, hQ t ⟨hkeeps, by rw [hcomp.2.2.2, heq]⟩⟩

/-- A command whose work leaves the state as it is. -/
theorem answers_of_idle (h : s.Carries r k) {cmd : Sys2Proof.Instr} {work : Taken → State → Carried}
    (hcmd : exec cmd s = .next (s.whenReady fun s => s.carryOut k work)) {res : Result} {v : Word}
    (hw : work r s = (s, some (res, v))) :
    Answers (exec cmd s) (s.Completes · r res v (fun _ => False) s) :=
  ⟨_, exec_of_carries h hcmd hw,
    completes_of_work res v (spares_of_bounds fun _ h => h.elim) (.refl s _) rfl rfl (held := s.req.inflight) rfl⟩

/-- A command whose work is held in flight. -/
theorem answers_of_held (h : s.Carries r k) {cmd : Sys2Proof.Instr} {work : Taken → State → Carried} {kind : HeldKind}
    (hcmd : exec cmd s = .next (s.whenReady fun s => s.carryOut k work)) (hw : work r s = (w, none)) (u : State)
    (hp : Spares r p) (hkeep : s.KeepsWords w p)
    (heq : w = { u with
      mem := w.mem
      req := { s.req with inflight := s.req.inflight ++ [{ slot := r.slot, kind := kind, wake := r.wake }] } })
    {Q : State → Prop} (hQ : ∀ t, Reports r w t → Q t) :
    Answers (exec cmd s) fun t => s.HoldsOn t r kind p u ∧ Q t := by
  have hholds := holdsOn_of_work hp hkeep heq
  have hkeeps := (endExamination_keepsWords w).mono (q := ReportWord r) fun a ha => .inr ha
  have hexec := exec_held_of_carries h hcmd hw
  generalize w.endExamination = t at *
  exact ⟨t, hexec, hholds, hQ t ⟨hkeeps, by rw [hholds.2.2, heq]⟩⟩

theorem Spares.or {q : Nat → Prop} (hp : Spares r p) (hq : Spares r q) : Spares r fun a => p a ∨ q a :=
  fun a ha => ha.elim (hp a) (hq a)

theorem Spares.imp {q : Nat → Prop} (hp : Spares r p) (h : ∀ a, q a → p a) : Spares r q := fun a ha => hp a (h a ha)

theorem spares_nothing : Spares r fun _ => False := fun _ h => h.elim

theorem spares_word {b : Nat} (h : b ≠ 0x43 ∧ (b < 0x100 ∨ 0x180 ≤ b)) : Spares r (· = b) :=
  spares_of_bounds fun a ha => by rw [ha]; exact h

theorem spares_channelWord (c : Fin 4) : Spares r (ChannelWord c) := spares_of_bounds fun a ha => by
  have := c.isLt
  unfold ChannelWord at ha
  omega

theorem spares_recordWord {i : Fin 16} {n : Nat} (h : s.RoomFor i n) : Spares r (s.RecordWord i n) :=
  spares_of_bounds fun a ha => by
    have := RecordWord.place h ha
    omega

/-- A record stands while its words and the counts stand. -/
theorem recorded_after {i : Fin 16} {rec : Record} (h : s.Recorded w i rec) (hc : t.coll = w.coll)
    (hk : ∀ a, s.RecordWord i rec.length a → t.peek a = w.peek a) : s.Recorded t i rec := by
  obtain ⟨hrec, hhead, hmirror, hcoll⟩ := h
  exact ⟨fun j hj => (hk _ (.inl (by omega))).trans (hrec j hj), (hk _ (.inr (.inl rfl))).trans hhead,
    (hk _ (.inr (.inr (.inl rfl)))).trans hmirror, hc.trans hcoll⟩

theorem recorded_reported {i : Fin 16} {rec : Record} (hroom : s.RoomFor i rec.length) (h : s.Recorded w i rec)
    (ht : Reports r w t) : s.Recorded t i rec :=
  recorded_after h (by rw [ht.2]) fun _ ha => ht.peek (spares_recordWord hroom) ha

end Sys2Proof.Machine.State
end

section
/-! PROOFS. The requests held in flight that complete together (R174, R175). -/

namespace Sys2Proof.Machine.State

variable {s t u : State}

/-- Requests complete one after another, each in its own slot. -/
abbrev completeAll (res : Result) (v : Word) (es : List HeldRequest) (s : State) : State :=
  es.foldl (fun s e => s.completeSlot e.slot e.wake res v) s

section completeAll

variable (res : Result) (v : Word)

theorem completeAll_keepsWords (s : State) (es : List HeldRequest) :
    s.KeepsWords (completeAll res v es s) fun a => ∃ e ∈ es, SlotReport e.slot a := by
  induction es generalizing s with
  | nil => exact .refl s _
  | cons e es ih =>
    refine ((completeSlot_keepsWords s e.slot e.wake res v).trans (ih _)).mono ?_
    rintro a (h | ⟨f, hf, h⟩)
    · exact ⟨e, List.mem_cons_self .., h⟩
    · exact ⟨f, List.mem_cons_of_mem _ hf, h⟩

/-- A slot in which a request has completed reads TAKEN no more (R175). -/
theorem completeSlot_not_taken (s : State) (slot : Fin 16) (wake : Bool) :
    slotState (s.completeSlot slot wake res v).mem slot ≠ 2 := by
  have hdone := completeSlot_done s slot wake res v
  unfold SlotDone at hdone
  rw [slotState_eq]
  split at hdone
  next h =>
    rw [hdone.1]
    split <;> decide
  next h =>
    rw [hdone _ (.inl rfl)]
    exact h

/-- Each of the requests completed in its slot, as it was before all of them. -/
theorem completeAll_done (s : State) (es : List HeldRequest) :
    ∀ e ∈ es, s.SlotDone (completeAll res v es s) e.slot res v := by
  induction es generalizing s with
  | nil => exact fun _ h => absurd h List.not_mem_nil
  | cons e es ih =>
    have hrest := completeAll_keepsWords res v (s.completeSlot e.slot e.wake res v) es
    have hdone := ih (s.completeSlot e.slot e.wake res v)
    have hfirst := completeSlot_done s e.slot e.wake res v
    have hkeep := completeSlot_keepsWords s e.slot e.wake res v
    have htaken := completeSlot_not_taken res v s e.slot e.wake
    have hstand (a : Nat) (ha : SlotReport e.slot a) :
        (completeAll res v es (s.completeSlot e.slot e.wake res v)).peek a =
          (s.completeSlot e.slot e.wake res v).peek a := by
      by_cases hmem : ∃ f ∈ es, f.slot = e.slot
      · obtain ⟨f, hf, hslot⟩ := hmem
        have := hdone f hf
        rw [hslot, SlotDone, if_neg htaken] at this
        exact this a ha
      · refine hrest a ?_
        rintro ⟨f, hf, hfa⟩
        exact slotReport_other (fun h => hmem ⟨f, hf, h⟩) ha hfa
    intro f hf
    by_cases hslot : f.slot = e.slot
    · rw [hslot]
      exact slotDone_congr hfirst hstand
    · have hfes : f ∈ es := (List.mem_cons.mp hf).resolve_left fun h => hslot (by rw [h])
      exact slotDone_since (hdone f hfes) fun a ha => hkeep a (slotReport_other (Ne.symm hslot) ha)

theorem raised_raised {c : WakeCause} (hw : t.wake = s.raised c) (hd : t.duty.shed = s.duty.shed)
    (hs : t.settings = s.settings) : t.raised c = s.raised c := by
  have hm : t.maskInForce = s.maskInForce := by simp only [maskInForce, hd, hs]
  simp only [raised, hw, hm, BitVec.or_assoc, BitVec.or_self]

/-- REQUEST is raised where one of the requests asked for it in a slot that read TAKEN (R175). -/
theorem completeAll_wake (s : State) (es : List HeldRequest) :
    (completeAll res v es s).wake = s.wakeAfterHeld s es := by
  induction es generalizing s with
  | nil => simp [wakeAfterHeld, completeAll]
  | cons e es ih =>
    have hfirst := completeSlot_eq s e.slot e.wake res v
    have hkeep := completeSlot_keepsWords s e.slot e.wake res v
    have htaken := completeSlot_not_taken res v s e.slot e.wake
    show (completeAll res v es (s.completeSlot e.slot e.wake res v)).wake = _
    rw [ih]
    generalize s.completeSlot e.slot e.wake res v = t at *
    have hstate (j : Fin 16) (h : e.slot ≠ j) : slotState t.mem j = slotState s.mem j :=
      slotState_congr (hkeep _ (slotReport_other h (.inl rfl)))
    have hwake : t.wake = s.wakeDone e.slot e.wake := by rw [hfirst]
    have hasks : (∃ k : Fin 16, slotState s.mem k = 2 ∧ ((e :: es).find? fun e => e.slot = k).any (·.wake) = true) ↔
        (slotState s.mem e.slot = 2 ∧ e.wake = true) ∨
          ∃ k : Fin 16, slotState t.mem k = 2 ∧ (es.find? fun e => e.slot = k).any (·.wake) = true := by
      constructor
      · rintro ⟨j, hj, hw⟩
        by_cases h : e.slot = j
        · subst h
          exact .inl ⟨hj, by simpa using hw⟩
        · exact .inr ⟨j, by rwa [hstate j h], by simpa [List.find?_cons, h] using hw⟩
      · rintro (⟨hj, hw⟩ | ⟨j, hj, hw⟩)
        · exact ⟨e.slot, hj, by simpa using hw⟩
        · have h : e.slot ≠ j := by rintro rfl; exact htaken hj
          exact ⟨j, by rwa [← hstate j h], by simpa [List.find?_cons, h] using hw⟩
    have hd : t.duty.shed = s.duty.shed := by rw [hfirst]
    have hs : t.settings = s.settings := by rw [hfirst]
    unfold wakeAfterHeld
    simp only [hasks]
    by_cases hmine : slotState s.mem e.slot = 2 ∧ e.wake = true
    · have hraised : t.wake = s.raised .request := by rw [hwake, wakeDone, if_pos hmine]
      rw [raised_raised hraised hd hs, hraised, ite_self, if_pos (Or.inl hmine)]
    · have hstands : t.wake = s.wake := by rw [hwake, wakeDone, if_neg hmine]
      rw [hstands, raised_congr hstands hd hs]
      simp only [hmine, false_or]

theorem completeAll_eq (s : State) (es : List HeldRequest) :
    completeAll res v es s = { s with mem := (completeAll res v es s).mem, wake := s.wakeAfterHeld s es } := by
  have hframe (s : State) : completeAll res v es s =
      { s with mem := (completeAll res v es s).mem, wake := (completeAll res v es s).wake } := by
    induction es generalizing s with
    | nil => rfl
    | cons e es ih =>
      have hfirst := completeSlot_eq s e.slot e.wake res v
      show completeAll res v es (s.completeSlot e.slot e.wake res v) = { s with
        mem := (completeAll res v es (s.completeSlot e.slot e.wake res v)).mem
        wake := (completeAll res v es (s.completeSlot e.slot e.wake res v)).wake }
      rw [ih, hfirst]
  rw [hframe, completeAll_wake]

end completeAll

/-! ## The requests of a kind (R175) -/

section completeHeld

variable (s : State) (k : HeldKind) (res : Result) (v : Word)

theorem completeHeld_eq_all :
    s.completeHeld k res v = completeAll res v (s.heldOf k) (s.setReq (s.reqWithout k)) := rfl

theorem completeHeld_keepsWords : s.KeepsWords (s.completeHeld k res v) (s.HeldWord k) :=
  completeAll_keepsWords res v (s.setReq (s.reqWithout k)) (s.heldOf k)

theorem completeHeld_done : s.HeldDone (s.completeHeld k res v) k res v :=
  completeAll_done res v (s.setReq (s.reqWithout k)) (s.heldOf k)

theorem completeHeld_eq : s.completeHeld k res v = { s.heldGone k with mem := (s.completeHeld k res v).mem } :=
  completeAll_eq res v (s.setReq (s.reqWithout k)) (s.heldOf k)

end completeHeld

theorem heldWord_bounds {k : HeldKind} {a : Nat} (h : s.HeldWord k a) : 0x100 ≤ a ∧ a < 0x180 := by
  obtain ⟨e, -, h⟩ := h
  exact slotReport_bounds h

/-- What the requests of a kind left in their slots stands while those words stand. -/
theorem heldDone_congr {k : HeldKind} {res : Result} {v : Word} (h : s.HeldDone t k res v)
    (hk : ∀ a, s.HeldWord k a → u.peek a = t.peek a) : s.HeldDone u k res v := fun e he =>
  slotDone_congr (h e he) fun a ha => hk a ⟨e, he, ha⟩

/-- Completions of the requests held are the same seen from a state with the same requests and slots. -/
theorem heldDone_since {k : HeldKind} {res : Result} {v : Word} (h : u.HeldDone t k res v)
    (hreq : u.req.inflight = s.req.inflight) (hk : ∀ a, s.HeldWord k a → u.peek a = s.peek a) :
    s.HeldDone t k res v := fun e he =>
  slotDone_since (h e (by rw [heldOf, hreq]; exact he)) fun a ha => hk a ⟨e, he, ha⟩

end Sys2Proof.Machine.State
end

section
/-! PROOFS. The requests with the simplest work: DUTY_SET, IDENT_PROGRAM, TIME_SET, and the sweep of a slot (R145, R163,
R173–R177, R186); the obligations O18, O26, O28 and O51. -/

namespace Sys2Proof.Machine.State

variable {s t u w : State} {r : Taken} {k : ReqKind} {p : Nat → Prop}

/-! ## DUTY_SET (R145) -/

theorem dutyChannel_manual (ch : Channel) (n : Nat) :
    dutyChannel ch 1 n = { ch with mode := .manual, manual := if 255 < n then 255 else n } := by
  simp only [dutyChannel, Nat.min_def]
  congr 1
  split <;> split <;> omega

/-- The two words of DUTY_SET: the channel given its state, and the duty answered. -/
theorem dutySet_completes (h : s.Carries r .dutySet) {ch' : Channel}
    (hch : dutyChannel s.duty.channels[r.channel] r.p2.toNat r.p3.toNat = ch') :
    Answers (exec .dutySet s) fun t =>
      s.Completes t r .ok (BitVec.ofNat 32 ch'.manual) (ChannelWord r.channel)
        { s with duty := s.withChannel r.channel ch' } ∧ s.ChannelReshown t r.channel := by
  have hwork : s.setDutyMode r = (s.setChannel r.channel ch', some (.ok, BitVec.ofNat 32 ch'.manual)) := by
    simp only [setDutyMode, hch]
  have hshown := setChannel_reshown s r.channel ch'
  refine answers_of_work h rfl hwork { s with duty := s.withChannel r.channel ch' } (spares_channelWord r.channel)
    (setChannel_keepsWords s r.channel ch') (setChannel_eq s r.channel ch') rfl (held := s.req.inflight) rfl fun t ht => ?_
  exact channelReshown_congr hshown (by rw [ht.2]) (ht.peek (spares_channelWord _) (.inl rfl))
    (ht.peek (spares_channelWord _) (.inr rfl))

end Sys2Proof.Machine.State

open Sys2Proof.Machine State in
/-- Settles O26: the work of DUTY_SET gives one channel its state, by the mode. -/
theorem dutySetByItsMode : Obligations.DutySetByItsMode := by
  intro s r h hp c ch sets
  refine ⟨fun hm => ?_, fun hm => ?_, fun hm => ?_⟩
  · exact dutySet_completes h (by rw [hm]; rfl)
  · exact dutySet_completes h (by rw [hm]; exact dutyChannel_manual ..)
  · exact dutySet_completes h (by rw [hm]; rfl)

namespace Sys2Proof.Machine.State

variable {s t u w : State} {r : Taken}

/-! ## IDENT_PROGRAM and its end (R186, R196) -/

/-- One request completes as it would by itself. -/
theorem wakeAfterHeld_singleton (s u : State) (e : HeldRequest) (hs : u.mem = s.mem) :
    s.wakeAfterHeld u [e] = u.wakeDone e.slot e.wake := by
  have hone : (∃ k : Fin 16, slotState s.mem k = 2 ∧ ([e].find? fun e => e.slot = k).any (·.wake) = true) ↔
      slotState s.mem e.slot = 2 ∧ e.wake = true := by
    constructor
    · rintro ⟨j, hj, hw⟩
      by_cases h : e.slot = j
      · subst h
        exact ⟨hj, by simpa using hw⟩
      · simp [h] at hw
    · rintro ⟨hj, hw⟩
      exact ⟨e.slot, hj, by simpa using hw⟩
  unfold wakeAfterHeld wakeDone
  simp only [hone, hs]

/-- The end of a programming, once the cells stand: the one request held for it completes. -/
theorem ident_completes {d : IdentStore} {e : HeldRequest} {q : Nat → Prop} {res : Result}
    (ht : t = u.completeHeld .ident res 0) (he : (s.req.inflight.filter fun f => f.kind = .ident) = [e]) (hkeep : s.KeepsWords u q)
    (hq : ∀ a, q a → a < 0x100) (heq : u = { s with mem := u.mem, ident := d }) :
    s.SlotDone t e.slot res 0 ∧ (∀ a, a < 0x100 → t.peek a = u.peek a) ∧
      s.KeepsWords t (fun a => SlotReport e.slot a ∨ q a) ∧
      t = { s with
        mem := t.mem, wake := s.wakeDone e.slot e.wake
        req := { s.req with inflight := s.req.inflight.filter fun f => f.kind ≠ .ident }, ident := d } := by
  have hheld : u.heldOf .ident = [e] := by rw [heldOf, heq]; exact he
  have hdone : u.HeldDone t .ident res 0 := ht ▸ completeHeld_done u .ident res 0
  have hkeeps : u.KeepsWords t (u.HeldWord .ident) := ht ▸ completeHeld_keepsWords u .ident res 0
  have hteq : t = { u.heldGone .ident with mem := t.mem } := ht ▸ completeHeld_eq u .ident res 0
  have hslot (a : Nat) (ha : SlotReport e.slot a) : u.peek a = s.peek a := hkeep a fun h => by
    have := hq a h
    have := slotReport_bounds ha
    omega
  have hword (a : Nat) (ha : u.HeldWord .ident a) : SlotReport e.slot a := by
    obtain ⟨f, hf, ha⟩ := ha
    rw [hheld, List.mem_singleton] at hf
    rwa [← hf]
  refine ⟨slotDone_since (hdone e (by rw [hheld]; exact List.mem_singleton_self e)) hslot, fun a ha => hkeeps a fun h => ?_,
    ((hkeep.trans hkeeps).mono fun a h => h.symm.imp_left (hword a)), ?_⟩
  · have := slotReport_bounds (hword a h)
    omega
  · have hwake : u.wakeAfterHeld u [e] = s.wakeDone e.slot e.wake := by
      rw [wakeAfterHeld_singleton u u e rfl]
      unfold wakeDone
      rw [slotState_congr (hslot _ (.inl rfl)), raised_congr (s := s) (by rw [heq]) (by rw [heq]) (by rw [heq]),
        show u.wake = s.wake by rw [heq]]
    rw [heldGone, hheld, hwake] at hteq
    rw [hteq, reqWithout, heq]

end Sys2Proof.Machine.State

open Sys2Proof.Machine State in
/-- Settles O28: the three answers of IDENT_PROGRAM, and the programming's end in its two cases. -/
theorem identityProgramsOnce : Obligations.IdentityProgramsOnce := by
  intro s
  refine ⟨fun r h _ _ => ⟨fun hbusy => ?_, fun hnone hmark => ?_, fun hnone hmark => ?_⟩,
    fun p route hut e hr hprog hdue he => ?_⟩
  · exact answers_of_idle h rfl (show s.programIdent r = _ by rw [programIdent, if_pos hbusy])
  · exact answers_of_idle h rfl (show s.programIdent r = _ by
      rw [programIdent, if_neg (by simp [hnone]), if_pos hmark])
  · have hwork : s.programIdent r =
        ((s.setIdent
          { s.ident with
            programming :=
              some { route := r.p1.setWidth 16, hut := r.p2.setWidth 12, due := s.now + millis 40 } }).holdInFlight
          r .ident, none) := by
      rw [programIdent, if_neg (by simp [hnone]), if_neg (by simp [hmark])]
    have hans := answers_of_held (kind := .ident) h (cmd := .identProgram) (work := fun r s => s.programIdent r) rfl hwork
      { s with
        ident :=
          { s.ident with
            programming := some { route := r.p1.setWidth 16, hut := r.p2.setWidth 12, due := s.now + 4000 } } }
      spares_nothing
    obtain ⟨t, ht, hholds, -⟩ := hans (.of_mem rfl) rfl (Q := fun _ => True) fun _ _ => trivial
    exact ⟨t, ht, hholds⟩
  · have hexec : exec (.identProgramEnd route hut) s = .next (s.endProgramming p route hut) := by
      refine congrArg Host.Outcome.next ((whenReady_of_ready _ hr).trans ?_)
      rw [hprog]
      exact whenDue_of_le s _ hdue
    by_cases hmatch : route = p.route ∧ hut = p.hut
    · have hend : s.endProgramming p route hut =
          (((s.setIdent { s.ident with routeCell := route, hutCell := hut, programming := none }).setIdent
            { routeCell := route, hutCell := hut, marker := true, programming := none }).showIdent).completeHeld
            .ident .ok 0 := by
        rw [endProgramming, if_pos hmatch]
        rfl
      obtain ⟨hdone, hlow, hkeeps, heq⟩ := ident_completes hend he (q := (· = 0xAB)) (poke_keepsWords _ _ _)
        (fun a ha => by omega) (d := { routeCell := route, hutCell := hut, marker := true, programming := none }) rfl
      have hword : identWord { routeCell := route, hutCell := hut, marker := true, programming := none } =
          pack [(16, route.toNat), (12, hut.toNat), (1, 1)] := by simp only [identWord, if_true]
      generalize s.endProgramming p route hut = t at *
      refine ⟨t, hexec, ?_⟩
      simp only [show decide (route = p.route ∧ hut = p.hut) = true from decide_eq_true hmatch, if_true, Bool.or_true, true_and]
      exact ⟨hdone, fun _ => (hlow 0xAB (by omega)).trans ((peek_poke_same _ 0xAB _ (by decide)).trans hword), hkeeps, heq⟩
    · have hend : s.endProgramming p route hut =
          (s.setIdent { s.ident with routeCell := route, hutCell := hut, programming := none }).completeHeld
            .ident .storeFault 0 := by
        rw [endProgramming, if_neg hmatch]
      obtain ⟨hdone, hlow, hkeeps, heq⟩ := ident_completes hend he (q := fun _ => False) (.of_mem rfl)
        (fun a ha => ha.elim) (d := { s.ident with routeCell := route, hutCell := hut, programming := none }) rfl
      generalize s.endProgramming p route hut = t at *
      refine ⟨t, hexec, ?_⟩
      simp only [hmatch, decide_false, Bool.false_eq_true, if_false, Bool.or_false, false_and, or_false, false_imp_iff,
        true_and]
      exact ⟨hdone, hkeeps.mono fun a h => h.resolve_right id, heq⟩

namespace Sys2Proof.Machine.State

variable {s t u w : State} {r : Taken}

/-! ## The timestamp (R161–R163) -/

/-- The state in which a wrap offers its record: the clock moved on, and its two words written. -/
def wrapped (s : State) : State :=
  (((s.nextMilli.setTime { s.nextMilli.time with timestamp := 0, wrapCount := min (s.time.wrapCount + 1) 65535 }).showTimestamp).showWrapCount)

theorem satInc_eq (n k : Nat) : satInc n k = min (k + 1) n := rfl

theorem wrapTime_eq (s : State) : s.wrapTime = s.wrapped.offer (timeWrapRecord (min (s.time.wrapCount + 1) 65535)) := by
  simp only [wrapTime, wrapped, satInc_eq]
  rfl

theorem wrapped_keepsWords (s : State) : s.KeepsWords s.wrapped fun a => a = 0x41 ∨ a = 0x42 :=
  (poke_keepsWords _ _ _).trans (poke_keepsWords _ _ _)

theorem peek_wrapped_timestamp (s : State) : s.wrapped.peek 0x41 = 0 :=
  (peek_poke_other _ _ _ _ (by decide)).trans (peek_poke_same _ _ _ (by decide))

theorem peek_wrapped_count (s : State) :
    s.wrapped.peek 0x42 = pack [(16, min (s.time.wrapCount + 1) 65535), (8, field (s.peek 0x42) 16 8)] := by
  refine (peek_poke_same _ _ _ (by decide)).trans ?_
  rw [word42, showTimestamp, peek_poke_other _ _ _ _ (by decide)]
  rfl

end Sys2Proof.Machine.State

open Sys2Proof.Machine State in
/-- Settles O51: the clock's own words, and behind them the record of the wrap or of the setting. -/
theorem timestampAdvancesWrapsAndIsSet : Obligations.TimestampAdvancesWrapsAndIsSet := by
  intro s
  constructor
  · intro hr clock
    refine ⟨fun htop => ?_, fun i cmd hcmd htop hroom => ?_, fun htop => ?_⟩
    · refine ⟨_, congrArg Host.Outcome.next ((whenReady_of_ready _ hr).trans (if_neg htop)), ?_, ?_, rfl⟩
      · exact peek_poke_same _ _ _ (by decide)
      · exact poke_keepsWords _ _ _
    · have hexec : exec cmd s = .next s.wrapTime := by
        rcases hcmd with rfl | rfl
        · exact congrArg Host.Outcome.next ((whenReady_of_ready _ hr).trans (if_pos htop))
        · exact congrArg Host.Outcome.next ((whenReady_of_ready _ hr).trans (if_pos htop))
      rw [wrapTime_eq] at hexec
      have hroom' : State.RoomFor { s with time := clock 0 (min (s.time.wrapCount + 1) 65535) } i 3 := hroom
      obtain ⟨hrec, hkeep, heq⟩ := offer_from (s := { s with time := clock 0 (min (s.time.wrapCount + 1) 65535) })
        (u := s.wrapped) (r := timeWrapRecord (min (s.time.wrapCount + 1) 65535)) rfl rfl rfl hroom'
      have hwords := s.wrapped_keepsWords
      have h41 := s.peek_wrapped_timestamp
      have h42 := s.peek_wrapped_count
      have hw : s.wrapped = { s with mem := s.wrapped.mem, time := clock 0 (min (s.time.wrapCount + 1) 65535) } := rfl
      generalize s.wrapped = w at *
      refine ⟨_, hexec, ?_, ?_, hrec, (hwords.trans hkeep).mono fun a h => or_assoc.mp h, ?_⟩
      · exact (hkeep _ (not_recordWord hroom' (by decide) (by decide) (by decide) (by decide))).trans h41
      · exact (hkeep _ (not_recordWord hroom' (by decide) (by decide) (by decide) (by decide))).trans h42
      · exact heq.trans (by rw [hw]; rfl)
    · exact congrArg Host.Outcome.next ((whenReady_of_ready _ hr).trans (if_neg htop))
  · intro r i h hroom
    have hroom' : State.RoomFor { s with time := { s.time with timestamp := r.p1 } } i 4 := hroom
    have hset : s.KeepsWords ((s.setTime { s.time with timestamp := r.p1 }).showTimestamp) (· = 0x41) :=
      poke_keepsWords _ _ _
    have h41 : ((s.setTime { s.time with timestamp := r.p1 }).showTimestamp).peek 0x41 = r.p1 :=
      peek_poke_same _ _ _ (by decide)
    obtain ⟨hrec, hkeep, heq⟩ := offer_from (s := { s with time := { s.time with timestamp := r.p1 } })
      (u := (s.setTime { s.time with timestamp := r.p1 }).showTimestamp) (r := timeSetRecord s.time.timestamp r.p1)
      rfl rfl rfl hroom'
    have hwork : s.setClock r.p1 = (((s.setTime { s.time with timestamp := r.p1 }).showTimestamp).offer
      (timeSetRecord s.time.timestamp r.p1), some (.ok, s.time.timestamp)) := rfl
    have hu : (s.setTime { s.time with timestamp := r.p1 }).showTimestamp =
      { s with
        mem := ((s.setTime { s.time with timestamp := r.p1 }).showTimestamp).mem
        time := { s.time with timestamp := r.p1 } } := rfl
    generalize (s.setTime { s.time with timestamp := r.p1 }).showTimestamp = u at *
    generalize u.offer (timeSetRecord s.time.timestamp r.p1) = w at *
    have hspares : Spares r fun a => a = 0x41 ∨ s.RecordWord i 4 a :=
      (spares_word (by decide)).or (spares_recordWord hroom)
    refine answers_of_work h rfl hwork
      { s with time := { s.time with timestamp := r.p1 }, coll := s.collAfter 4 } hspares (hset.trans hkeep)
      (heq.trans (by rw [hu]; rfl)) rfl (held := s.req.inflight) rfl fun t ht => ⟨?_, ?_⟩
    · rw [ht.peek hspares (.inl rfl)]
      exact (hkeep _ (not_recordWord hroom' (by decide) (by decide) (by decide) (by decide))).trans h41
    · exact recorded_reported hroom' hrec ht

namespace Sys2Proof.Machine.State

variable {s t u w : State} {k : Fin 16}

/-! ## The examination of a slot (R173–R177) -/

/-- A slot whose request is refused: the report written, and the sweep moved on. -/
theorem refused_of_completed {held : List HeldRequest} {res : Result} {v : Word} {wake : Bool}
    (hsweep : s.req.sweep = some k) (htaken : slotState u.mem k = 2) (hkeep : s.KeepsWords u (SlotReport k))
    (heq : u = { s with mem := u.mem, req := { s.req with inflight := held } }) (hres : res ≠ .ok)
    (ht : t = (u.completeSlot k wake res v).advanceSweep) :
    t.peek (slotAddr k) = 4 ∧ t.peek (slotAddr k + 6) = BitVec.ofNat 32 res.code ∧ t.peek (slotAddr k + 7) = v ∧
      s.SweepShown t ∧ s.KeepsWords t (fun a => SlotReport k a ∨ a = 0x43) ∧
      t = { s with
        mem := t.mem, req := sweptOn { s.req with inflight := held } k
        wake := if wake then s.raised .request else s.wake } := by
  have hreq : u.req = { s.req with inflight := held } := by rw [heq]
  have hdone := completeSlot_done u k wake res v
  have hck := completeSlot_keepsWords u k wake res v
  have hce := completeSlot_eq u k wake res v
  generalize u.completeSlot k wake res v = c at *
  have hcreq : c.req = { s.req with inflight := held } := by rw [hce]; exact hreq
  have hcsweep : c.req.sweep = some k := by rw [hcreq]; exact hsweep
  have hck43 : c.peek 0x43 = s.peek 0x43 := by
    have hout : ¬ SlotReport k 0x43 := fun h => by have := slotReport_bounds h; omega
    exact (hck _ hout).trans (hkeep _ hout)
  have hak : c.KeepsWords t (· = 0x43) := ht ▸ advanceSweep_keepsWords c
  have hshown : c.SweepShown t := ht ▸ advanceSweep_shown c
  have hae : t = { c with mem := t.mem, req := sweptOn c.req k } := ht ▸ advanceSweep_of_some hcsweep
  rw [SlotDone, if_pos htaken, if_neg hres] at hdone
  obtain ⟨h0, h6, h7⟩ := hdone
  have hslot (a : Nat) (ha : SlotReport k a) : t.peek a = c.peek a := hak a fun h => by
    have := slotReport_bounds ha
    omega
  refine ⟨(hslot _ (.inl rfl)).trans h0, (hslot _ (.inr (.inl rfl))).trans h6, (hslot _ (.inr (.inr rfl))).trans h7, ?_,
    ((hkeep.trans hck).trans hak).mono fun a h => h.imp_left fun h => h.elim id id, ?_⟩
  · unfold SweepShown at hshown ⊢
    rw [hcreq, hck43] at hshown
    exact hshown
  · have hwake : u.wakeDone k wake = if wake then s.raised .request else s.wake := by
      rw [wakeDone, raised_congr (s := s) (by rw [heq]) (by rw [heq]) (by rw [heq]), show u.wake = s.wake by rw [heq]]
      simp only [htaken, true_and]
    rw [hcreq] at hae
    rw [hwake] at hce
    rw [hae, hce, heq]

theorem nextSlot_of_sweep (hsweep : s.req.sweep = some k) (hcur : s.req.current = none) (hdef : s.power.deferred = none) :
    s.nextSlot = some k := by
  simp [nextSlot, hsweep, hcur, hdef]

/-- A slot is taken: an earlier request held in it leaves, and TAKEN is written (R174, R176). -/
def takenAt (s : State) (k : Fin 16) : State := (s.detach k).poke (slotAddr k) 2

theorem takenAt_eq (s : State) (k : Fin 16) :
    s.takenAt k =
      { s with
        mem := (s.takenAt k).mem, req := { s.req with inflight := s.req.inflight.filter fun e => e.slot ≠ k } } := rfl

theorem takenAt_keepsWords (s : State) (k : Fin 16) : s.KeepsWords (s.takenAt k) (· = slotAddr k) :=
  poke_keepsWords _ _ _

theorem peek_takenAt (s : State) (k : Fin 16) : (s.takenAt k).peek (slotAddr k) = 2 :=
  peek_poke_same _ _ _ (by have := slotAddr_bounds k; simp only [Config.memoryWords]; omega)

theorem slotState_takenAt (s : State) (k : Fin 16) : slotState (s.takenAt k).mem k = 2 := by
  rw [slotState_eq, peek_takenAt]
  decide

/-- The words of a slot that the host writes stand when it is taken. -/
theorem slotWords_takenAt (s : State) (k : Fin 16) {j : Nat} (hj : 1 ≤ j) :
    readWord (s.takenAt k).mem (slotAddr k + j) = readWord s.mem (slotAddr k + j) :=
  s.takenAt_keepsWords k _ (by omega)

theorem slotWake_takenAt (s : State) (k : Fin 16) : slotWake (s.takenAt k).mem k = slotWake s.mem k := by
  unfold slotWake
  rw [slotWords_takenAt _ _ (by omega)]

theorem slotCopy_takenAt (s : State) (k : Fin 16) (kind : ReqKind) :
    slotCopy (s.takenAt k).mem k kind = slotCopy s.mem k kind := by
  unfold slotCopy
  rw [slotWake_takenAt, slotWords_takenAt _ _ (by omega), slotWords_takenAt _ _ (by omega),
    slotWords_takenAt _ _ (by omega), slotWords_takenAt _ _ (by omega)]

theorem takeSlot_of_unknown (h : ReqKind.ofCode (slotKind s.mem k) = none) :
    s.takeSlot k = ((s.takenAt k).completeSlot k (slotWake s.mem k) .badKind 0).advanceSweep := by
  rw [← slotWake_takenAt]
  simp only [takeSlot, h]
  rfl

theorem takeSlot_of_bad {kind : ReqKind} {n : Nat} (h : ReqKind.ofCode (slotKind s.mem k) = some kind)
    (hn : badParameter (slotCopy s.mem k kind) = some n) :
    s.takeSlot k =
      ((s.takenAt k).completeSlot k (slotWake s.mem k) .badArgument (BitVec.ofNat 32 n)).advanceSweep := by
  rw [← slotCopy_takenAt] at hn
  rw [← slotWake_takenAt]
  unfold takenAt at hn ⊢
  simp only [takeSlot, h, hn]
  rfl

theorem takeSlot_of_good {kind : ReqKind} (h : ReqKind.ofCode (slotKind s.mem k) = some kind)
    (hn : badParameter (slotCopy s.mem k kind) = none) :
    s.takeSlot k = (s.takenAt k).setReq { (s.takenAt k).req with current := some (slotCopy s.mem k kind) } := by
  rw [← slotCopy_takenAt] at hn ⊢
  unfold takenAt at hn ⊢
  simp only [takeSlot, h, hn]

end Sys2Proof.Machine.State

namespace Sys2Proof.Machine.State

variable {s t : State} {k : Fin 16}

/-- The work of a request, by its kind. -/
def requestWork : ReqKind → Taken → State → Carried
  | .settingsApply => fun _ s => s.applySettings
  | .listRun => fun r s => s.runList r.list
  | .listCut => fun r s => s.cutList r
  | .engineHold => fun r s => s.holdEngine r
  | .engineResume => fun _ s => s.resumeEngine
  | .watchArm => fun r s => s.armWatch r.watch
  | .watchDisarm => fun r s => s.disarmWatch r.watch
  | .watchFeed => fun r s => s.feedWatch r.watch (signed 32 r.p2.toNat)
  | .collectionClose => fun _ s => s.closeCollection
  | .collectionRestart => fun _ s => s.restartRequest
  | .timeSet => fun r s => s.setClock r.p1
  | .dutySet => fun r s => s.setDutyMode r
  | .stationForget => fun r s => s.forgetStations r.stations
  | .identProgram => fun r s => s.programIdent r

theorem exec_requestCommand (kind : ReqKind) (s : State) :
    exec (requestCommand kind) s = .next (s.whenReady fun s => s.carryOut kind (requestWork kind)) := by
  cases kind <;> rfl

/-- A request that is carried out already is not taken again. -/
theorem postedKind_of_current (h : s.req.current.isSome) : s.postedKind = none := by
  simp only [postedKind, nextSlot, h, true_or, if_true]

theorem sweepSlot_of_posted (hnext : s.nextSlot = some k) (h : slotState s.mem k = 1) : s.sweepSlot = s.takeSlot k := by
  simp only [sweepSlot, hnext, h]

theorem sweepSlot_of_lost (hnext : s.nextSlot = some k) (h : slotState s.mem k = 2)
    (hheld : ∀ e ∈ s.req.inflight, e.slot ≠ k) :
    s.sweepSlot = (s.completeSlot k (slotWake s.mem k) .interrupted 0).advanceSweep := by
  have : s.heldInFlight k = false := by simpa [heldInFlight] using hheld
  simp only [sweepSlot, hnext, h, this, Bool.false_eq_true, if_false]

theorem sweepSlot_of_passed (hnext : s.nextSlot = some k)
    (h : (slotState s.mem k = 2 ∧ ∃ e ∈ s.req.inflight, e.slot = k) ∨ (slotState s.mem k ≠ 1 ∧ slotState s.mem k ≠ 2)) :
    s.sweepSlot = s.advanceSweep := by
  simp only [sweepSlot, hnext]
  rcases h with ⟨h2, hheld⟩ | ⟨h1, h2⟩
  · have : s.heldInFlight k = true := by simpa [heldInFlight] using hheld
    simp only [h2, this, if_true]
  · split
    next h => exact absurd h h1
    next h => exact absurd h h2
    · rfl

/-- A request command that finds its request posted takes it first, as the sweep does (log 17). -/
theorem carryOut_of_posted {kind : ReqKind} (hposted : s.postedKind = some kind) (hcur : s.sweepSlot.req.current.isSome)
    (work : Taken → State → Carried) : s.carryOut kind work = s.sweepSlot.carryOut kind work := by
  unfold carryOut
  rw [if_pos hposted, postedKind_of_current hcur, if_neg (by simp)]

end Sys2Proof.Machine.State

open Sys2Proof.Machine State in
/-- Settles O18: the sweep's case for the slot's state, and for a POSTED slot the case of its kind and parameters. -/
theorem sweepTakesOrRefuses : Obligations.SweepTakesOrRefuses := by
  intro s k hr hsweep hcur hdef
  have hnext := nextSlot_of_sweep hsweep hcur hdef
  have hexec : exec .sweepSlot s = .next s.sweepSlot := congrArg Host.Outcome.next (whenReady_of_ready _ hr)
  have htaken := s.takenAt_keepsWords k
  have hslot : s.KeepsWords (s.takenAt k) (SlotReport k) := htaken.mono fun a => .inl
  refine ⟨fun kind hpost hkind => ⟨fun hgood => ?_, fun n hbad => ?_⟩, fun hpost hkind => ?_, fun hstate hheld => ?_,
    fun hpass => ?_, fun kind t hpost hkind hsweeps hsome => ?_⟩
  · rw [sweepSlot_of_posted hnext hpost, takeSlot_of_good hkind hgood] at hexec
    exact ⟨_, hexec, s.peek_takenAt k, htaken, rfl⟩
  · rw [sweepSlot_of_posted hnext hpost, takeSlot_of_bad hkind hbad] at hexec
    exact ⟨_, hexec, refused_of_completed hsweep (s.slotState_takenAt k) hslot (s.takenAt_eq k) (by decide) rfl⟩
  · rw [sweepSlot_of_posted hnext hpost, takeSlot_of_unknown hkind] at hexec
    exact ⟨_, hexec, refused_of_completed hsweep (s.slotState_takenAt k) hslot (s.takenAt_eq k) (by decide) rfl⟩
  · rw [sweepSlot_of_lost hnext hstate hheld] at hexec
    exact ⟨_, hexec, refused_of_completed hsweep hstate (.refl s _) rfl (by decide) rfl⟩
  · rw [sweepSlot_of_passed hnext hpass] at hexec
    exact ⟨_, hexec, advanceSweep_shown s, advanceSweep_keepsWords s, advanceSweep_of_some hsweep⟩
  · cases hexec.symm.trans hsweeps
    have hposted : s.postedKind = some kind := by simp only [postedKind, hnext, hpost, if_true, hkind]
    have hready : s.sweepSlot.ready := by simpa [State.ready] using hr
    rw [exec_requestCommand, exec_requestCommand, whenReady_of_ready _ hr, whenReady_of_ready _ hready,
      carryOut_of_posted hposted hsome]
end

section
/-! PROOFS. The Collection Unit: closes, restarts, opens and losses (R106–R119); the obligations O25 and O53. -/

namespace Sys2Proof.Machine.State

variable {s t u w : State} {r : Taken} {i : Fin 16} {start : Moment} {reason : CloseReason}

/-! ## Closes (R113–R115) -/

theorem CloseWord.place (hg : s.GeometryOk) (hi : i.val < s.settings.count) {a : Nat} (ha : s.CloseWord i a) :
    0x2000 ≤ a ∨ a = 0x9A := by
  obtain ⟨hlow, -⟩ := segAddr_bounds hg hi
  unfold CloseWord at ha
  omega

theorem spares_closeWord (hg : s.GeometryOk) (hi : i.val < s.settings.count) : Spares r (s.CloseWord i) :=
  spares_of_bounds fun a ha => by
    have := CloseWord.place hg hi ha
    omega

/-- A closed segment stands while its header and the collection state stand. -/
theorem closed_after (h : s.Closed w i reason) (hc : t.coll = w.coll)
    (hk : ∀ a, s.CloseWord i a → t.peek a = w.peek a) : s.Closed t i reason := by
  obtain ⟨h0, h1, h2, h3, h4, hcoll⟩ := h
  exact ⟨(hk _ (.inl (by omega))).trans h0, (hk _ (.inl (by omega))).trans h1, (hk _ (.inl (by omega))).trans h2,
    (hk _ (.inl (by omega))).trans h3, (hk _ (.inl (by omega))).trans h4, hc.trans hcoll⟩

theorem closed_congr (hc : t.coll = s.coll) (hs : t.settings = s.settings)
    (ht : t.time.timestamp = s.time.timestamp) : t.Closed u i reason ↔ s.Closed u i reason := by
  simp [Closed, segAddr, hc, hs, ht]

theorem closeByAge_of_old (hst : s.coll.st = .filling i start) (hage : 0 < s.settings.closeAge)
    (hold : start + seconds s.settings.closeAge ≤ s.now) : s.closeByAge = s.closeFilling .age := by
  simp only [closeByAge, hst]
  exact if_pos ⟨hage, hold⟩

theorem closeByAge_of_young (h : (∀ i start, s.coll.st ≠ .filling i start) ∨ s.settings.closeAge = 0 ∨
    ∃ i start, s.coll.st = .filling i start ∧ s.now < start + seconds s.settings.closeAge) : s.closeByAge = s := by
  unfold closeByAge
  split
  next i start hst =>
    refine if_neg fun ⟨hage, hold⟩ => ?_
    rcases h with h | h | ⟨j, m, hj, hm⟩
    · exact h i start hst
    · exact absurd hage (by rw [h]; exact Nat.lt_irrefl 0)
    · rw [hst] at hj
      cases hj
      exact absurd hold (Nat.not_le.mpr hm)
  all_goals rfl

/-! ## Restarts (R119) -/

/-- The words of the headers of the geometry in force. -/
def HeaderWord (s : State) (a : Nat) : Prop := ∃ i < s.settings.count, s.segAddr i ≤ a ∧ a < s.segAddr i + 5

theorem emptyAll_keepsWords (s : State) (l : List Nat) :
    s.KeepsWords (l.foldl emptyHeader s) fun a => ∃ i ∈ l, s.segAddr i ≤ a ∧ a < s.segAddr i + 5 := by
  induction l generalizing s with
  | nil => exact .refl s _
  | cons d l ih =>
    refine ((emptyHeader_keepsWords s d).trans (ih (s.emptyHeader d))).mono ?_
    rintro a (h | ⟨c, hc, h⟩)
    · exact ⟨d, List.mem_cons_self .., h⟩
    · exact ⟨c, List.mem_cons_of_mem _ hc, h⟩

theorem peek_emptyHeader (s : State) (n : Nat) (hn : s.segAddr n + 5 ≤ Config.memoryWords) {j : Nat} (hj : j < 5) :
    (s.emptyHeader n).peek (s.segAddr n + j) = 0 := by
  unfold emptyHeader
  cases j with
  | zero => exact peek_poke_same _ _ _ (by omega)
  | succ j =>
    rw [peek_poke_other _ _ _ _ (by omega), show s.segAddr n + (j + 1) = s.segAddr n + 1 + j by omega,
      s.peek_pokes_same _ j _ (by simp only [List.length_replicate]; omega)
        (by simp only [List.length_replicate]; omega)]
    exact List.getElem_replicate ..

/-- Segments of the geometry share no word. -/
theorem segAddr_apart (s : State) {m n : Nat} (h : m < n) : s.segAddr m + s.settings.size ≤ s.segAddr n := by
  have hmul : (m + 1) * s.settings.size ≤ n * s.settings.size := Nat.mul_le_mul_right _ h
  rw [Nat.add_mul, Nat.one_mul] at hmul
  unfold segAddr
  omega

theorem peek_emptyAll (s : State) {l : List Nat} (hsize : 5 ≤ s.settings.size) {n : Nat} (hn : n ∈ l)
    (hend : s.segAddr n + 5 ≤ Config.memoryWords) {j : Nat} (hj : j < 5) :
    (l.foldl emptyHeader s).peek (s.segAddr n + j) = 0 := by
  induction l generalizing s with
  | nil => exact absurd hn List.not_mem_nil
  | cons d l ih =>
    have hseg (m : Nat) : (s.emptyHeader d).segAddr m = s.segAddr m := by simp [segAddr]
    by_cases hmem : n ∈ l
    · have := ih (s.emptyHeader d) (by simpa using hsize) hmem (by rw [hseg]; exact hend)
      rwa [hseg] at this
    · have hd : n = d := (List.mem_cons.mp hn).resolve_right hmem
      subst hd
      have hrest := emptyAll_keepsWords (s.emptyHeader n) l (s.segAddr n + j) (by
        rintro ⟨m, hm, h⟩
        rw [hseg] at h
        rcases Nat.lt_trichotomy m n with hmn | hmn | hmn
        · have := s.segAddr_apart hmn
          omega
        · exact hmem (hmn ▸ hm)
        · have := s.segAddr_apart hmn
          omega)
      exact hrest.trans (peek_emptyHeader s n hend hj)

/-- The Collection Unit after a restart: no segment, no episode, its counts kept (R119). -/
def restartedColl (c : Coll) : Coll :=
  { c with st := .between, next := 0, nextSeq := 0, drops := 0, firstDrop := 0, lastDrop := 0 }

theorem restartCollection_eq (s : State) :
    s.restartCollection = { s with mem := s.restartCollection.mem, coll := restartedColl s.coll } :=
  eq_of_fields (by simp [restartCollection, restartedColl])

theorem restartCollection_keepsWords (s : State) :
    s.KeepsWords s.restartCollection fun a => s.HeaderWord a ∨ 0x9A ≤ a ∧ a ≤ 0xA2 := by
  have hall := emptyAll_keepsWords s (List.range s.settings.count)
  have hshow := showColl_keepsWords (s.emptyHeaders.setColl (restartedColl s.coll)) s.coll
  refine (hall.through (setColl_mem ..) hshow).mono ?_
  rintro a (⟨i, hi, h⟩ | h)
  · exact .inl ⟨i, List.mem_range.mp hi, h⟩
  · exact .inr ⟨h.1, h.2.1⟩

/-- The Collection Unit's mirror after an operation: each item that changed is rewritten, but for the filling record count
and words used, which records mirror themselves (R106). -/
theorem peek_showColl (s : State) (old : Coll) {j : Nat} (hj : j < 9) (h1 : j ≠ 1) :
    (s.showColl old).peek (0x9A + j) =
      if (collWords old).getD j 0 = (collWords s.coll).getD j 0 then s.peek (0x9A + j) else (collWords s.coll).getD j 0 := by
  have hm : Config.memoryWords = 0x8000 := rfl
  have hlen : ∀ c : Coll, (collWords c).length = 9 := fun _ => rfl
  have hcases : j = 6 ∨ (7 ≤ j ∧ j < 9) ∨ (2 ≤ j ∧ j < 6) ∨ j = 0 := by omega
  unfold showColl
  rcases hcases with rfl | ⟨hlo, hhi⟩ | ⟨hlo, hhi⟩ | rfl
  · rw [peek_pokeIf_same _ _ _ _ (by omega), peek_pokeChanged_other _ _ _ _ _ (by simp),
      peek_pokeChanged_other _ _ _ _ _ (by simp [collWords]), peek_pokeChanged_other _ _ _ _ _ (by simp [collWords])]
    rfl
  · obtain ⟨m, rfl⟩ := Nat.exists_eq_add_of_le hlo
    rw [peek_pokeIf_other _ _ _ _ _ (by omega), show 0x9A + (7 + m) = 0xA1 + m by omega,
      peek_pokeChanged_same _ _ _ _ _ (by simp; omega) (by simp; omega) (by simp [hm]),
      peek_pokeChanged_other _ _ _ _ _ (by simp [collWords]; omega),
      peek_pokeChanged_other _ _ _ _ _ (by simp [collWords]; omega)]
    obtain rfl | rfl : m = 0 ∨ m = 1 := by omega
    all_goals rfl
  · obtain ⟨m, rfl⟩ := Nat.exists_eq_add_of_le hlo
    rw [peek_pokeIf_other _ _ _ _ _ (by omega), peek_pokeChanged_other _ _ _ _ _ (by simp; omega),
      show 0x9A + (2 + m) = 0x9C + m by omega,
      peek_pokeChanged_same _ _ _ _ _ (by simp [collWords]; omega) (by simp [collWords]; omega) (by simp [collWords, hm]),
      peek_pokeChanged_other _ _ _ _ _ (by simp [collWords]; omega)]
    obtain rfl | rfl | rfl | rfl : m = 0 ∨ m = 1 ∨ m = 2 ∨ m = 3 := by omega
    all_goals rfl
  · rw [peek_pokeIf_other _ _ _ _ _ (by omega), peek_pokeChanged_other _ _ _ _ _ (by simp),
      peek_pokeChanged_other _ _ _ _ _ (by simp)]
    exact peek_pokeChanged_same _ 0x9A 0 _ _ (by simp [collWords]) (by simp [collWords]) (by simp [collWords, hm])

end Sys2Proof.Machine.State

namespace Sys2Proof.Machine.State

variable {s t u w : State} {r : Taken}

theorem headerWord_bounds (hg : s.GeometryOk) {a : Nat} (ha : s.HeaderWord a) : 0x2000 ≤ a := by
  obtain ⟨hbase, -⟩ := hg
  obtain ⟨i, -, hlow, -⟩ := ha
  unfold segAddr at hlow
  omega

/-- The headers of the geometry read EMPTY after a restart, and the unit's items that changed are mirrored. -/
theorem restartCollection_words (hg : s.GeometryOk) :
    (∀ i < s.settings.count, ∀ j < 5, s.restartCollection.peek (s.segAddr i + j) = 0) ∧
      ∀ j < 9, s.Reshown s.restartCollection (0x9A + j) ((collWords s.coll).getD j 0)
        ((collWords (restartedColl s.coll)).getD j 0) := by
  have hshow := showColl_keepsWords (s.emptyHeaders.setColl (restartedColl s.coll)) s.coll
  have hall := emptyAll_keepsWords s (List.range s.settings.count)
  have hseg (i : Nat) (hi : i < s.settings.count) :
      0x2000 ≤ s.segAddr i ∧ s.segAddr i + 5 ≤ Config.memoryWords :=
    segAddr_bounds (i := ⟨i, by obtain ⟨-, -, hcount, -⟩ := hg; omega⟩) hg hi
  have hlow (a : Nat) (ha : a < 0x2000) : s.emptyHeaders.peek a = s.peek a := hall a (by
    rintro ⟨i, hi, h, -⟩
    have := (hseg i (List.mem_range.mp hi)).1
    omega)
  constructor
  · intro i hi j hj
    obtain ⟨hlo, hend⟩ := hseg i hi
    refine (hshow _ (by omega)).trans ?_
    obtain ⟨-, -, -, hsize, -⟩ := hg
    exact peek_emptyAll s (by omega) (List.mem_range.mpr hi) hend hj
  · intro j hj
    unfold Reshown
    by_cases h1 : j = 1
    · subst h1
      exact (hshow _ (by omega)).trans ((hlow _ (by omega)).trans (if_pos rfl).symm)
    · refine (peek_showColl (s.emptyHeaders.setColl (restartedColl s.coll)) _ hj h1).trans ?_
      rw [show (s.emptyHeaders.setColl (restartedColl s.coll)).peek (0x9A + j) = s.peek (0x9A + j) from hlow _ (by omega)]
      rfl

end Sys2Proof.Machine.State

open Sys2Proof.Machine State in
/-- Settles O25: a close by a request or by age is `closeFilling`, and a restart empties the headers one after another. -/
theorem collectionClosesAndRestarts : Obligations.CollectionClosesAndRestarts := by
  intro s
  refine ⟨fun r h => ⟨fun hnone => ?_, fun i start hst hg hi => ?_⟩, fun r h => ⟨fun hmode => ?_, fun hmode hg => ?_⟩,
    fun hr hyoung => ?_, fun i start hr hst hage hold hg hi => ?_⟩
  · have hwork : s.closeCollection = (s, some (.notActive, 0)) := by
      unfold closeCollection
      split
      next i start hst => exact absurd hst (hnone i start)
      all_goals rfl
    exact answers_of_idle h rfl hwork
  · have hwork : s.closeCollection = (s.closeFilling .asked, some (.ok, s.coll.seq.setWidth 32)) := by
      simp only [closeCollection, hst]
    have hclosed := closeFilling_closed .asked hst hg hi
    refine answers_of_work h rfl hwork { s with coll := { s.coll with st := .between }, wake := s.raised .closed }
      (spares_closeWord hg hi) (closeFilling_keepsWords .asked hst) ?_ rfl (held := s.req.inflight) rfl fun t ht => ?_
    · have hcoll := hclosed.2.2.2.2.2
      have heq := closeFilling_eq .asked hst
      generalize s.closeFilling .asked = w at *
      rw [heq, hcoll]
    · exact closed_after hclosed (by rw [ht.2]) fun a ha => ht.peek (spares_closeWord hg hi) ha
  · have hwork : s.restartRequest = (s, some (.busy, 0)) := by
      unfold restartRequest
      rcases hmode with hm | hm <;> rw [hm]
    exact answers_of_idle h rfl hwork
  · have hwork : s.restartRequest = (s.restartCollection, some (.ok, 0)) := by
      unfold restartRequest
      rcases hmode with hm | hm <;> rw [hm]
    have hspares : Spares r fun a => s.HeaderWord a ∨ 0x9A ≤ a ∧ a ≤ 0xA2 := spares_of_bounds fun a ha => by
      rcases ha with ha | ha
      · have := headerWord_bounds hg ha
        omega
      · omega
    obtain ⟨hheads, hmirror⟩ := restartCollection_words hg
    have hkeep := restartCollection_keepsWords s
    have heq := restartCollection_eq s
    generalize s.restartCollection = w at *
    refine answers_of_work h rfl hwork { s with coll := restartedColl s.coll } hspares hkeep heq rfl
      (held := s.req.inflight) rfl fun t ht => ⟨fun i hi j hj => ?_, fun j hj => ?_⟩
    · exact (ht.peek hspares (.inl ⟨i, hi, by omega, by omega⟩)).trans (hheads i hi j hj)
    · unfold Reshown
      rw [ht.peek hspares (.inr ⟨by omega, by omega⟩), show t.coll = restartedColl s.coll by rw [ht.2, heq]]
      exact hmirror j hj
  · exact congrArg Host.Outcome.next ((whenReady_of_ready _ hr).trans (closeByAge_of_young hyoung))
  · exact ⟨_, congrArg Host.Outcome.next ((whenReady_of_ready _ hr).trans (closeByAge_of_old hst hage hold)),
      closeFilling_closed .age hst hg hi, closeFilling_keepsWords .age hst, closeFilling_eq .age hst⟩

namespace Sys2Proof.Machine.State

variable {s t u v w : State} {r : Record}

/-! ## Opens (R109, R111) -/

/-- The words of a segment's header once it is opened, and the words an open writes. -/
theorem openNext_words (s : State) (hend : s.segAddr s.coll.next.val + 5 ≤ Config.memoryWords) :
    s.openNext.peek (s.segAddr s.coll.next.val) = segWord0 1 s.hutNumber ∧
      s.openNext.peek (s.segAddr s.coll.next.val + 2) = segWord2 s.coll.nextSeq s.routeCode ∧
      s.openNext.peek (s.segAddr s.coll.next.val + 3) = s.time.timestamp ∧
      s.openNext.peek (s.segAddr s.coll.next.val + 4) = 0 ∧
      s.KeepsWords s.openNext fun a => s.segAddr s.coll.next.val ≤ a ∧ a < s.segAddr s.coll.next.val + 5 := by
  have hword (j : Nat) (hj : j < 4) :
      s.openNext.peek (s.segAddr s.coll.next.val + 1 + j) =
        [segWord1 0 0 0, segWord2 s.coll.nextSeq s.routeCode, s.time.timestamp, (0 : Word)][j] :=
    (peek_poke_other _ _ _ _ (by omega)).trans
      (s.peek_pokes_same _ j _ (by exact hj) (by simp only [List.length_cons, List.length_nil]; omega))
  refine ⟨peek_poke_same _ _ _ (by omega), hword 1 (by decide), hword 2 (by decide), hword 3 (by decide), ?_⟩
  refine ((s.pokes_keepsWords _ _).trans (poke_keepsWords _ _ _)).mono ?_
  simp only [List.length_cons, List.length_nil]
  omega

/-- The words that the loss episode's record takes in a segment that opens (R111). -/
def leadOf (s : State) : Nat := if s.coll.drops = 0 then 0 else 5

/-- A segment has opened, the OVERRUN record of a loss episode first, and the record stands behind (R109, R111). -/
def opening (s : State) (r : Record) : State := (s.openNext.accountLoss s.coll.next).putRecord s.coll.next r

theorem opening_coll (s : State) (r : Record) :
    (s.opening r).coll =
      { s.coll with
        st := .filling s.coll.next s.now, next := Fin.ofNat 16 ((s.coll.next.val + 1) % s.settings.count)
        nextSeq := s.coll.nextSeq + 1, recs := if s.coll.drops = 0 then 1 else 2, used := r.length + s.leadOf
        opened := s.time.timestamp, seq := s.coll.nextSeq, route := s.routeCode, hut := s.hutNumber, drops := 0
        firstDrop := if s.coll.drops = 0 then s.coll.firstDrop else 0
        lastDrop := if s.coll.drops = 0 then s.coll.lastDrop else 0
        offered := s.coll.offered + (if s.coll.drops = 0 then 0 else 1)
        written := s.coll.written + (if s.coll.drops = 0 then 1 else 2) } := by
  by_cases hd : s.coll.drops = 0
  · simp [opening, leadOf, accountLoss, openNext, putRecord, hd]
  · simp [opening, leadOf, accountLoss, openNext, putRecord, hd, overrunRecord, Record.length, Nat.add_comm]
    rw [add_assoc]
    rfl

theorem opening_eq (s : State) (r : Record) :
    s.opening r = { s with mem := (s.opening r).mem, coll := (s.opening r).coll } :=
  eq_of_fields (by simp [opening])

/-- The state in which the record is written: the segment open, and the loss episode accounted for. -/
theorem accountLoss_openNext (s : State) (hlow : 0x2000 ≤ s.segAddr s.coll.next.val)
    (hend : s.segAddr s.coll.next.val + 10 ≤ Config.memoryWords) :
    let o := s.openNext.accountLoss s.coll.next
    o.coll.used = s.leadOf ∧ o.coll.recs = (if s.coll.drops = 0 then 0 else 1) ∧ o.settings = s.settings ∧
      o.time = s.time ∧
      s.openNext.KeepsWords o (fun a =>
        (s.segAddr s.coll.next.val + 5 ≤ a ∧ a < s.segAddr s.coll.next.val + 5 + s.leadOf) ∨
          a = s.segAddr s.coll.next.val + 1 ∨ a = 0x9B) ∧
      (s.coll.drops ≠ 0 → ∀ j < 5, o.peek (s.segAddr s.coll.next.val + 5 + j) =
        ((overrunRecord s.coll).header :: s.time.timestamp :: (overrunRecord s.coll).payload).getD j 0) := by
  by_cases hd : s.coll.drops = 0
  · have : s.openNext.accountLoss s.coll.next = s.openNext := if_pos hd
    simp only [this, leadOf, hd, if_true, ne_eq, not_true_eq_false, false_imp_iff, and_true]
    exact ⟨rfl, rfl, rfl, rfl, .refl _ _⟩
  · have hacc : s.openNext.accountLoss s.coll.next =
        (s.openNext.putRecord s.coll.next (overrunRecord s.openNext.coll)).setColl
          { (s.openNext.putRecord s.coll.next (overrunRecord s.openNext.coll)).coll with
            offered := (s.openNext.putRecord s.coll.next (overrunRecord s.openNext.coll)).coll.offered + 1
            drops := 0, firstDrop := 0, lastDrop := 0 } := if_neg hd
    obtain ⟨hrec, -, -⟩ := putRecord_words s.openNext s.coll.next (overrunRecord s.openNext.coll) hlow
      (show s.segAddr s.coll.next.val + 5 + 0 + 5 ≤ _ by omega)
    have hkeep := putRecord_keepsWords s.openNext s.coll.next (overrunRecord s.openNext.coll)
    have hcoll := putRecord_coll s.openNext s.coll.next (overrunRecord s.openNext.coll)
    have hset : (s.openNext.putRecord s.coll.next (overrunRecord s.openNext.coll)).settings = s.settings := rfl
    have htime : (s.openNext.putRecord s.coll.next (overrunRecord s.openNext.coll)).time = s.time := rfl
    simp only [hacc, leadOf, hd, if_false]
    generalize s.openNext.putRecord s.coll.next (overrunRecord s.openNext.coll) = x at *
    exact ⟨by rw [setColl_coll, hcoll]; rfl, by rw [setColl_coll, hcoll]; rfl, hset, htime, hkeep, fun _ => hrec⟩

/-- What stands in a segment that opened for a record, and the words written. -/
theorem opening_words {at_ recs : Nat} (hat : s.segAddr s.coll.next.val = at_)
    (hnum : (if s.coll.drops = 0 then 0 else 1) + 1 = recs) (hlow : 0x2000 ≤ at_)
    (hend : at_ + 10 + r.length ≤ Config.memoryWords) :
    (s.opening r).peek at_ = segWord0 1 s.hutNumber ∧
      (s.opening r).peek (at_ + 1) = segWord1 recs (s.leadOf + r.length) 0 ∧
      (s.opening r).peek 0x9B = pack [(14, recs), (15, s.leadOf + r.length)] ∧
      (s.opening r).peek (at_ + 2) = segWord2 s.coll.nextSeq s.routeCode ∧
      (s.opening r).peek (at_ + 3) = s.time.timestamp ∧ (s.opening r).peek (at_ + 4) = 0 ∧
      (s.coll.drops ≠ 0 → ∀ j < 5, (s.opening r).peek (at_ + 5 + j) =
        ((overrunRecord s.coll).header :: s.time.timestamp :: (overrunRecord s.coll).payload).getD j 0) ∧
      (∀ j < r.length, (s.opening r).peek (at_ + 5 + s.leadOf + j) =
        (r.header :: s.time.timestamp :: r.payload).getD j 0) ∧
      s.KeepsWords (s.opening r) fun a => (at_ ≤ a ∧ a < at_ + 5 + s.leadOf + r.length) ∨ a = 0x9B := by
  obtain ⟨h0, h2, h3, h4, hopen⟩ := openNext_words s (by omega)
  obtain ⟨hused, hrecs, hset, htime, hacc, hover⟩ := accountLoss_openNext s (by omega) (by omega)
  have hlead : s.leadOf ≤ 5 := by unfold leadOf; split <;> omega
  have hfive : s.coll.drops ≠ 0 → s.leadOf = 5 := fun hd => if_neg hd
  have hopening : s.opening r = (s.openNext.accountLoss s.coll.next).putRecord s.coll.next r := rfl
  have hseg : (s.openNext.accountLoss s.coll.next).segAddr s.coll.next.val = s.segAddr s.coll.next.val := by
    simp only [segAddr, hset]
  rw [hat] at h0 h2 h3 h4 hopen hacc hover hseg
  have hput := putRecord_keepsWords (s.openNext.accountLoss s.coll.next) s.coll.next r
  have hwords := putRecord_words (s.openNext.accountLoss s.coll.next) s.coll.next r
    (by rw [hseg]; exact hlow) (by rw [hseg, hused]; omega)
  rw [← hopening, hseg, hused] at hput
  rw [← hopening, hseg, hused, hrecs, hnum, htime] at hwords
  obtain ⟨hrec, hhead, hmirror⟩ := hwords
  generalize s.openNext.accountLoss s.coll.next = o at *
  generalize s.openNext = n at *
  generalize s.opening r = x at *
  have hheader (a : Nat) (ha : at_ ≤ a) (ha5 : a < at_ + 5) (h1 : a ≠ at_ + 1) : x.peek a = n.peek a :=
    (hput a (by omega)).trans (hacc a (by omega))
  refine ⟨(hheader _ (by omega) (by omega) (by omega)).trans h0, hhead, hmirror,
    (hheader _ (by omega) (by omega) (by omega)).trans h2, (hheader _ (by omega) (by omega) (by omega)).trans h3,
    (hheader _ (by omega) (by omega) (by omega)).trans h4, fun hd j hj => ?_, hrec,
    ((hopen.trans hacc).trans hput).mono fun a h => by omega⟩
  have := hfive hd
  exact (hput _ (by omega)).trans (hover hd j hj)

end Sys2Proof.Machine.State

namespace Sys2Proof.Machine.State

variable {s t u v w : State} {r : Record}

/-! ## The offer rule where the filling segment has no room (R107, R108) -/

/-- The state in which an offered record is placed: records offered has risen (R112). -/
def offering (s : State) : State := s.setColl { s.coll with offered := s.coll.offered + 1 }

theorem tryNext_opens (r : Record) (h : s.segState s.coll.next.val = 0) : s.tryNext r = s.opening r := if_pos h

theorem tryNext_starves (r : Record) (h : s.segState s.coll.next.val ≠ 0) : s.tryNext r = s.dropRecord := if_neg h

theorem offer_of_no_segment (r : Record) (h : s.coll.st = .between ∨ s.coll.st = .starved) :
    s.offer r = (s.offering.tryNext r).showColl s.coll := by
  have hplace : s.offering.placeRecord r = s.offering.tryNext r := by
    have hst : s.offering.coll.st = s.coll.st := rfl
    rcases h with h | h <;> simp only [placeRecord, hst, h]
  rw [offer, ← hplace]
  rfl

theorem offer_of_full (r : Record) {i : Fin 16} {start : Moment} (h : s.coll.st = .filling i start)
    (hfull : ¬ r.length + s.coll.used ≤ s.settings.size - 5) :
    s.offer r = ((s.offering.closeAt i .full).tryNext r).showColl s.coll := by
  have hplace : s.offering.placeRecord r = (s.offering.closeAt i .full).tryNext r := by
    have hst : s.offering.coll.st = .filling i start := h
    simp only [placeRecord, hst]
    exact if_neg hfull
  rw [offer, ← hplace]
  rfl

/-- A starving unit drops the record: it is counted and the episode keeps its time, and OVERRUN is raised at the episode's
first drop (R108, R110). -/
theorem dropRecord_eq (s : State) :
    s.dropRecord =
      { s with
        coll :=
          { s.coll with
            st := .starved, dropped := s.coll.dropped + 1, drops := min (s.coll.drops + 1) 4294967295
            firstDrop := if s.coll.drops = 0 then s.time.timestamp else s.coll.firstDrop, lastDrop := s.time.timestamp }
        wake := if s.coll.drops = 0 then s.raised .overrun else s.wake } := by
  dsimp only [dropRecord]
  split <;> rfl

/-- The segment at the next index, found EMPTY, opens for an offered record. -/
theorem offer_opens {at_ recs : Nat} (hst : s.coll.st = .between ∨ s.coll.st = .starved)
    (hempty : s.segState s.coll.next.val = 0) (hat : s.segAddr s.coll.next.val = at_)
    (hnum : (if s.coll.drops = 0 then 0 else 1) + 1 = recs) (hlow : 0x2000 ≤ at_)
    (hend : at_ + 10 + r.length ≤ Config.memoryWords) (ht : t = s.offer r) :
    t.coll = (s.offering.opening r).coll ∧ t.wake = s.wake ∧ t.time = s.time ∧
      t.peek at_ = segWord0 1 s.hutNumber ∧
      t.peek (at_ + 1) = segWord1 recs (s.leadOf + r.length) 0 ∧
      t.peek 0x9B = pack [(14, recs), (15, s.leadOf + r.length)] ∧
      t.peek (at_ + 2) = segWord2 s.coll.nextSeq s.routeCode ∧
      t.peek (at_ + 3) = s.time.timestamp ∧ t.peek (at_ + 4) = 0 ∧
      (s.coll.drops ≠ 0 → ∀ j < 5, t.peek (at_ + 5 + j) =
        ((overrunRecord s.coll).header :: s.time.timestamp :: (overrunRecord s.coll).payload).getD j 0) ∧
      (∀ j < r.length, t.peek (at_ + 5 + s.leadOf + j) = (r.header :: s.time.timestamp :: r.payload).getD j 0) ∧
      s.KeepsWords t fun a => (at_ ≤ a ∧ a < at_ + 5 + s.leadOf + r.length) ∨ (0x9A ≤ a ∧ a ≤ 0xA2) := by
  have hoffer : t = (s.offering.opening r).showColl s.coll := by
    rw [ht, offer_of_no_segment r hst, tryNext_opens (s := s.offering) r hempty]
  obtain ⟨h0, h1, h9B, h2, h3, h4, hover, hrec, hkeep⟩ :=
    opening_words (s := s.offering) (r := r) (at_ := at_) (recs := recs) hat hnum hlow hend
  have heq := opening_eq s.offering r
  generalize s.offering.opening r = x at *
  have hshow : x.KeepsWords t fun a => 0x9A ≤ a ∧ a ≤ 0xA2 ∧ a ≠ 0x9B := hoffer ▸ x.showColl_keepsWords s.coll
  have hcoll : t.coll = x.coll := by rw [hoffer]; simp
  have hwake : t.wake = s.wake := by rw [hoffer]; simp; rw [heq]; rfl
  have htime : t.time = s.time := by rw [hoffer]; simp; rw [heq]; rfl
  have hkept (a : Nat) (ha : at_ ≤ a) : t.peek a = x.peek a := hshow a (by omega)
  exact ⟨hcoll, hwake, htime, (hkept _ (by omega)).trans h0, (hkept _ (by omega)).trans h1,
    (hshow _ (by omega)).trans h9B, (hkept _ (by omega)).trans h2, (hkept _ (by omega)).trans h3,
    (hkept _ (by omega)).trans h4, fun hd j hj => (hkept _ (by omega)).trans (hover hd j hj),
    fun j hj => (hkept _ (by omega)).trans (hrec j hj), fun a ha =>
      (hshow a (by omega)).trans (hkeep a (by show ¬ ((_ ∧ a < at_ + 5 + s.leadOf + _) ∨ _); omega))⟩

/-- The segment at the next index is not EMPTY: the record is dropped. -/
theorem offer_starves (hst : s.coll.st = .between ∨ s.coll.st = .starved) (hused : s.segState s.coll.next.val ≠ 0)
    (ht : t = s.offer r) :
    t.coll = s.offering.dropRecord.coll ∧ t.wake = s.offering.dropRecord.wake ∧
      s.KeepsWords t fun a => 0x9A ≤ a ∧ a ≤ 0xA2 := by
  have hoffer : t = s.offering.dropRecord.showColl s.coll := by
    rw [ht, offer_of_no_segment r hst, tryNext_starves (s := s.offering) r hused]
  have hmem : s.offering.dropRecord.mem = s.mem := by rw [dropRecord_eq]; rfl
  generalize s.offering.dropRecord = x at *
  have hshow := x.showColl_keepsWords s.coll
  rw [← hoffer] at hshow
  refine ⟨by rw [hoffer]; simp, by rw [hoffer]; simp, fun a ha => (hshow a (by omega)).trans ?_⟩
  rw [peek, hmem, peek]

/-- The filling segment has no room: it closes FULL, and the next opens for the record. -/
theorem offer_closes_opens {i : Fin 16} {start : Moment} {at_ : Nat} (hst : s.coll.st = .filling i start)
    (hfull : ¬ r.length + s.coll.used ≤ s.settings.size - 5) (hempty : s.segState s.coll.next.val = 0)
    (hnone : s.coll.drops = 0) (hat : s.segAddr s.coll.next.val = at_) (hlow : 0x2000 ≤ at_)
    (hilow : 0x2000 ≤ s.segAddr i.val) (hiend : s.segAddr i.val + 5 ≤ Config.memoryWords)
    (hend : at_ + 10 + r.length ≤ Config.memoryWords)
    (hapart : s.segAddr i.val + 5 ≤ at_ ∨ at_ + 5 + r.length ≤ s.segAddr i.val) (ht : t = s.offer r) :
    t.peek (s.segAddr i.val) = segWord0 2 s.coll.hut ∧
      t.peek (s.segAddr i.val + 1) = segWord1 s.coll.recs s.coll.used 1 ∧
      t.peek (s.segAddr i.val + 4) = s.time.timestamp ∧ t.wake = s.raised .closed ∧
      t.coll.st = .filling s.coll.next s.now ∧ t.time = s.time ∧ t.coll.recs = 1 ∧ t.coll.used = r.length ∧
      t.peek 0x9B = pack [(14, 1), (15, r.length)] ∧ t.peek at_ = segWord0 1 s.hutNumber ∧
      (∀ j < r.length, t.peek (at_ + 5 + j) = (r.header :: s.time.timestamp :: r.payload).getD j 0) ∧
      s.KeepsWords t fun a =>
        (s.segAddr i.val ≤ a ∧ a < s.segAddr i.val + 5) ∨ (at_ ≤ a ∧ a < at_ + 5 + r.length) ∨ (0x9A ≤ a ∧ a ≤ 0xA2) := by
  have hclose := s.offering.closeAt_keepsWords i .full
  have hcstate : (s.offering.closeAt i .full).segState s.coll.next.val = s.segState s.coll.next.val := by
    refine congrArg (field · 0 2) (hclose _ ?_)
    show ¬ (s.segAddr i.val ≤ s.segAddr s.coll.next.val ∧ s.segAddr s.coll.next.val < s.segAddr i.val + 5)
    omega
  have hoffer : t = ((s.offering.closeAt i .full).opening r).showColl s.coll := by
    rw [ht, offer_of_full r hst hfull,
      tryNext_opens (s := s.offering.closeAt i .full) r (by rw [show (s.offering.closeAt i .full).coll.next = s.coll.next
        from rfl, hcstate, hempty])]
  obtain ⟨h0, h1, -, -, h4, -⟩ := closeAt_closed (s := s.offering) (i := i) .full hiend
  have hceq := closeAt_eq s.offering i .full
  have hlead : (s.offering.closeAt i .full).leadOf = 0 := by
    unfold leadOf
    exact if_pos (by rw [hceq]; exact hnone)
  obtain ⟨k0, -, k9B, -, -, -, -, krec, kkeep⟩ :=
    opening_words (s := s.offering.closeAt i .full) (r := r) (at_ := at_) (recs := 1) hat
      (by rw [show (s.offering.closeAt i .full).coll.drops = 0 from hnone]; rfl) hlow hend
  have hxcoll := opening_coll (s.offering.closeAt i .full) r
  have hxeq := opening_eq (s.offering.closeAt i .full) r
  rw [hlead] at k9B krec kkeep hxcoll
  generalize s.offering.closeAt i .full = c at *
  generalize c.opening r = x at *
  have hshow : x.KeepsWords t fun a => 0x9A ≤ a ∧ a ≤ 0xA2 ∧ a ≠ 0x9B := hoffer ▸ x.showColl_keepsWords s.coll
  have htcoll : t.coll = x.coll := by rw [hoffer]; simp
  have htwake : t.wake = x.wake := by rw [hoffer]; simp
  have httime : t.time = x.time := by rw [hoffer]; simp
  have hstamp : c.time.timestamp = s.time.timestamp := by rw [hceq]; rfl
  have hhut : c.hutNumber = s.hutNumber := by rw [hceq]; rfl
  have hhigh (a : Nat) (ha : 0x2000 ≤ a) : t.peek a = x.peek a := hshow a (by omega)
  have hstay (a : Nat) (ha : s.segAddr i.val ≤ a) (ha5 : a < s.segAddr i.val + 5) : t.peek a = c.peek a :=
    (hhigh a (by omega)).trans (kkeep a (by omega))
  refine ⟨(hstay _ (by omega) (by omega)).trans h0, (hstay _ (by omega) (by omega)).trans h1,
    (hstay _ (by omega) (by omega)).trans h4, ?_, ?_, ?_, ?_, ?_, ?_, (hhigh _ (by omega)).trans (by rw [k0, hhut]),
    fun j hj => (hhigh _ (by omega)).trans (by rw [← hstamp]; exact krec j hj), fun a ha =>
      (hshow a (by omega)).trans ((kkeep a (by omega)).trans (hclose a (by
        show ¬ (s.segAddr i.val ≤ a ∧ a < s.segAddr i.val + 5); omega)))⟩
  · rw [htwake, hxeq, hceq]
    rfl
  · rw [htcoll, hxcoll, hceq]
    rfl
  · rw [httime, hxeq, hceq]
    rfl
  · rw [htcoll, hxcoll]
    exact if_pos (by rw [hceq]; exact hnone)
  · rw [htcoll, hxcoll]
    rfl
  · exact (hshow _ (by omega)).trans (by rw [k9B, Nat.zero_add])

end Sys2Proof.Machine.State

open Sys2Proof.Machine State in
/-- Settles O53: the record of the wrap is offered in `wrapped`; it opens a segment, is dropped, or closes the full segment and
opens the next. -/
theorem offersOpenCloseAndDrop : Obligations.OffersOpenCloseAndDrop := by
  intro s hr htop hg hnext j at_ drops lead cmd hcmd
  have hexec : exec cmd s = .next s.wrapTime := by
    rcases hcmd with rfl | rfl
    · exact congrArg Host.Outcome.next ((whenReady_of_ready _ hr).trans (if_pos htop))
    · exact congrArg Host.Outcome.next ((whenReady_of_ready _ hr).trans (if_pos htop))
  rw [wrapTime_eq] at hexec
  have hwords := s.wrapped_keepsWords
  have hroom : at_ + 13 ≤ Sys2Proof.Config.memoryWords := by
    obtain ⟨-, -, -, hsize, hend⟩ := hg
    have hseg : (j.val + 1) * s.settings.size ≤ s.settings.count * s.settings.size := Nat.mul_le_mul_right _ hnext
    rw [Nat.add_mul, Nat.one_mul] at hseg
    show s.settings.base + j.val * s.settings.size + 13 ≤ 0x8000
    omega
  obtain ⟨hlow, -⟩ := segAddr_bounds hg hnext
  have hstand (a : Nat) (ha : 0x2000 ≤ a) : s.wrapped.peek a = s.peek a := hwords a (by omega)
  have hw : s.wrapped.coll = s.coll ∧ s.wrapped.settings = s.settings ∧ s.wrapped.ident = s.ident ∧
      s.wrapped.wake = s.wake ∧ s.wrapped.duty = s.duty ∧ s.wrapped.time.timestamp = 0 := ⟨rfl, rfl, rfl, rfl, rfl, rfl⟩
  generalize s.wrapped = w at *
  obtain ⟨hcoll, hset, hident, hwake, hduty, hstamp⟩ := hw
  have hseg (n : Nat) : w.segAddr n = s.segAddr n := by simp only [segAddr, hset]
  have hhut : w.hutNumber = s.hutNumber := by simp only [hutNumber, hident]
  have hroute : w.routeCode = s.routeCode := by simp only [routeCode, hident]
  have hstate : w.segState j.val = s.segState j.val := by
    unfold segState
    rw [hseg, hstand _ hlow]
  refine ⟨fun hst hempty => ?_, fun hst hused => ?_, fun i start hst hi hij hfull hempty hnone => ?_⟩
  · have hlead : w.leadOf = lead := by unfold leadOf; rw [hcoll]
    obtain ⟨htcoll, htwake, httime, h0, h1, h9B, h2, h3, h4, hover, hrec, hkeep⟩ :=
      offer_opens (s := w) (r := timeWrapRecord (min (s.time.wrapCount + 1) 65535)) (at_ := at_)
        (recs := if drops = 0 then 1 else 2) (by rw [hcoll]; exact hst) (by rw [hcoll, hstate]; exact hempty)
        (by rw [hcoll, hseg]) (by rw [hcoll]; show (if drops = 0 then 0 else 1) + 1 = _; split <;> rfl) hlow
        (by show at_ + 10 + 3 ≤ _; omega) rfl
    rw [hlead] at h1 h9B hrec hkeep
    rw [hhut] at h0
    rw [hcoll, hroute] at h2
    rw [hstamp] at h3 hover hrec
    rw [hcoll] at hover
    rw [opening_coll] at htcoll
    generalize w.offer (timeWrapRecord (min (s.time.wrapCount + 1) 65535)) = t at *
    refine ⟨t, hexec, ?_, h0, ?_, ?_, h2, h3, h4, fun hd => ⟨hover hd 0 (by omega), hover hd 1 (by omega),
      hover hd 2 (by omega), hover hd 3 (by omega), hover hd 4 (by omega)⟩, hrec 0 (by show 0 < 3; omega), ?_,
      htwake.trans hwake, ?_⟩
    · have hnow : w.offering.now = t.time.base := by rw [httime]; rfl
      have htwo : s.coll.offered + 1 + 1 = s.coll.offered + 2 := by rw [add_assoc]; rfl
      rw [htcoll, hnow]
      by_cases hd : s.coll.drops = 0
      · simp [offering, leadOf, routeCode, hutNumber, hident, hcoll, hset, hstamp, hd, drops, lead, j]
        rfl
      · simp [offering, leadOf, routeCode, hutNumber, hident, hcoll, hset, hstamp, hd, drops, lead, j]
        exact ⟨rfl, htwo⟩
    · rw [Nat.add_comm 3]
      exact h1
    · rw [Nat.add_comm 3]
      exact h9B
    · have := hrec 1 (by show 1 < 3; omega)
      rwa [show at_ + 5 + lead + 1 = at_ + 6 + lead by omega] at this
    · refine (hwords.trans hkeep).mono fun a h => ?_
      rcases h with (h | h) | h | h
      · exact .inl h
      · exact .inr (.inl h)
      · exact .inr (.inr (.inr ⟨h.1, by have : _ < at_ + 5 + lead + 3 := h.2; omega⟩))
      · exact .inr (.inr (.inl h))
  · obtain ⟨htcoll, htwake, hkeep⟩ :=
      offer_starves (s := w) (r := timeWrapRecord (min (s.time.wrapCount + 1) 65535)) (by rw [hcoll]; exact hst)
        (by rw [hcoll, hstate]; exact hused) rfl
    rw [dropRecord_eq] at htcoll htwake
    generalize w.offer (timeWrapRecord (min (s.time.wrapCount + 1) 65535)) = t at *
    refine ⟨t, hexec, ?_, ?_, (hwords.trans hkeep).mono fun a h => or_assoc.mp h⟩
    · rw [htcoll]
      simp only [offering, setColl_coll, setColl_time, hcoll, hstamp]
      rfl
    · rw [htwake]
      have hraised : w.offering.raised .overrun = s.raised .overrun :=
        raised_congr hwake (congrArg Duty.shed hduty) hset _
      rw [hraised, show w.offering.wake = s.wake from hwake, show w.offering.coll.drops = s.coll.drops by
        simp only [offering, setColl_coll, hcoll]]
  · have hiseg := segAddr_bounds hg hi
    have hsize : 300 ≤ s.settings.size := by obtain ⟨-, -, -, hsize, -⟩ := hg; exact hsize
    have hapart : s.segAddr i.val + 5 ≤ at_ ∨ at_ + 5 + 3 ≤ s.segAddr i.val := by
      rcases Nat.lt_or_gt_of_ne (fun h => hij (Fin.ext h) : i.val ≠ j.val) with h | h
      · have : s.segAddr i.val + s.settings.size ≤ at_ := s.segAddr_apart h
        omega
      · have : at_ + s.settings.size ≤ s.segAddr i.val := s.segAddr_apart h
        omega
    obtain ⟨h0, h1, h4, hclosed, hopen, httime, hrecs, hused, h9B, hhead, hrec, hkeep⟩ :=
      offer_closes_opens (s := w) (r := timeWrapRecord (min (s.time.wrapCount + 1) 65535)) (at_ := at_) (i := i)
        (by rw [hcoll]; exact hst) (by rw [hcoll, hset]; show ¬ 3 + _ ≤ _; omega) (by rw [hcoll, hstate]; exact hempty)
        (by rw [hcoll]; exact hnone) (by rw [hcoll, hseg]) hlow (by rw [hseg]; exact hiseg.1)
        (by rw [hseg]; exact hiseg.2) (by show at_ + 10 + 3 ≤ _; omega) (by rw [hseg]; exact hapart) rfl
    rw [hseg, hcoll] at h0 h1
    rw [hseg, hstamp] at h4
    rw [hcoll] at hopen
    rw [hseg] at hkeep
    rw [hhut] at hhead
    generalize w.offer (timeWrapRecord (min (s.time.wrapCount + 1) 65535)) = t at *
    refine ⟨t, hexec, h0, h1, h4, hclosed.trans (raised_congr hwake (by rw [hduty]) hset _), ?_, hrecs, hused, h9B, hhead,
      hrec 0 (by show 0 < 3; omega), (hwords.trans hkeep).mono fun a h => ?_⟩
    · rw [hopen, httime]
      rfl
    · rcases h with (h | h) | h | h | h
      · exact .inl h
      · exact .inr (.inl h)
      · exact .inr (.inr (.inr (.inl h)))
      · exact .inr (.inr (.inr (.inr h)))
      · exact .inr (.inr (.inl h))
end

section
/-! PROOFS. The Instrument Bus Controller's own operations: the word at 0040H, the counts, the station table, and the taking
of what waits (R52, R66, R71, R74). -/

namespace Sys2Proof.Machine.State

variable {s t u v : State}

/-! ## The word at 0040H -/

/-- The word at 0040H tells the states it shows apart. -/
theorem word40_eq_iff :
    t.word40 = s.word40 ↔
      t.engine.mode.code % 4 = s.engine.mode.code % 4 ∧ t.bus.ctl.code % 8 = s.bus.ctl.code % 8 ∧
        t.duty.shed.code % 4 = s.duty.shed.code % 4 ∧ t.visit.state.code % 8 = s.visit.state.code % 8 ∧
        t.power.cause.code % 4 = s.power.cause.code % 4 ∧ t.refused % 256 = s.refused % 256 := by
  unfold word40 pack
  rw [← BitVec.toNat_inj, BitVec.toNat_ofNat, BitVec.toNat_ofNat]
  simp only [packNat]
  omega

/-- `t` has come from `s` with the word at 0040H rewritten wherever what it shows changed. -/
def Shows40 (s t : State) : Prop := t.peek 0x40 = t.word40 ∨ (t.word40 = s.word40 ∧ t.peek 0x40 = s.peek 0x40)

theorem Shows40.refl (s : State) : s.Shows40 s := .inr ⟨rfl, rfl⟩

/-- What leaves the word and what it shows alone. -/
theorem Shows40.keep (h : s.Shows40 t) (hw : u.word40 = t.word40) (hp : u.peek 0x40 = t.peek 0x40) : s.Shows40 u := by
  unfold Shows40
  rw [hw, hp]
  exact h

theorem reshow40_word40 (t s : State) : (t.reshow40 s).word40 = t.word40 := by
  simp [word40]

/-- What rewrites the word where it changed. -/
theorem Shows40.reshow (h : s.Shows40 t) (hm : u.mem = t.mem) : s.Shows40 (u.reshow40 t) := by
  have hw := reshow40_word40 u t
  unfold reshow40 at *
  split
  next hsame => exact h.keep hsame (by simp only [peek, hm])
  next hdiff =>
    rw [if_neg hdiff] at hw
    exact .inl ((peek_poke_same _ _ _ (by decide)).trans hw.symm)

theorem Shows40.trans (h : s.Shows40 t) (k : t.Shows40 u) : s.Shows40 u := by
  rcases k with k | ⟨hw, hp⟩
  · exact .inl k
  · exact h.keep hw hp

/-- Where what it shows changed, the word has been rewritten. -/
theorem Shows40.shown (h : s.Shows40 t) (hne : t.word40 ≠ s.word40) : t.peek 0x40 = t.word40 :=
  h.resolve_right fun h => hne h.1

theorem setCtl_shows (s : State) (c : BusCtl) : s.Shows40 (s.setCtl c) := (Shows40.refl s).reshow rfl

theorem setMode_shows (s : State) (m : EngineMode) : s.Shows40 (s.setMode m) := (Shows40.refl s).reshow rfl

theorem setVisitState_shows (s : State) (v : Visit) : s.Shows40 (s.setVisitState v) := (Shows40.refl s).reshow rfl

theorem setCtl_keepsWords (s : State) (c : BusCtl) : s.KeepsWords (s.setCtl c) (· = 0x40) :=
  reshow40_keepsWords (s.setBus { s.bus with ctl := c }) s

theorem setMode_keepsWords (s : State) (m : EngineMode) : s.KeepsWords (s.setMode m) (· = 0x40) :=
  reshow40_keepsWords (s.setEngine { s.engine with mode := m }) s

theorem setVisitState_keepsWords (s : State) (v : Visit) : s.KeepsWords (s.setVisitState v) (· = 0x40) :=
  reshow40_keepsWords (s.setVisit v) s

theorem setCtl_eq (s : State) (c : BusCtl) :
    s.setCtl c = { s with mem := (s.setCtl c).mem, bus := { s.bus with ctl := c } } :=
  eq_of_fields (by simp [setCtl])

theorem setMode_eq (s : State) (m : EngineMode) :
    s.setMode m = { s with mem := (s.setMode m).mem, engine := { s.engine with mode := m } } :=
  eq_of_fields (by simp [setMode])

theorem setVisitState_eq (s : State) (v : Visit) :
    s.setVisitState v = { s with mem := (s.setVisitState v).mem, visit := v } :=
  eq_of_fields (by simp [setVisitState])

/-- The controller's move to a state with another code. -/
theorem setCtl_shown (c : BusCtl) (h : c.code ≠ s.bus.ctl.code) : (s.setCtl c).peek 0x40 = (s.setCtl c).word40 := by
  refine (setCtl_shows s c).shown fun hw => h ?_
  obtain ⟨-, hctl, -⟩ := word40_eq_iff.1 hw
  have h8 (c : BusCtl) : c.code < 8 := by cases c <;> simp [BusCtl.code]
  rw [setCtl_eq] at hctl
  have := h8 c
  have := h8 s.bus.ctl
  rw [Nat.mod_eq_of_lt (h8 _), Nat.mod_eq_of_lt (h8 _)] at hctl
  exact hctl

theorem setMode_shown (m : EngineMode) (h : m ≠ s.engine.mode) : (s.setMode m).peek 0x40 = (s.setMode m).word40 := by
  refine (setMode_shows s m).shown fun hw => h ?_
  obtain ⟨hmode, -⟩ := word40_eq_iff.1 hw
  rw [setMode_eq] at hmode
  revert hmode
  show m.code % 4 = s.engine.mode.code % 4 → m = s.engine.mode
  cases m <;> cases s.engine.mode <;> decide

theorem setVisitState_shown (v : Visit) (h : v.state ≠ s.visit.state) :
    (s.setVisitState v).peek 0x40 = (s.setVisitState v).word40 := by
  refine (setVisitState_shows s v).shown fun hw => h ?_
  obtain ⟨-, -, -, hvisit, -⟩ := word40_eq_iff.1 hw
  rw [setVisitState_eq] at hvisit
  revert hvisit
  show v.state.code % 8 = s.visit.state.code % 8 → v.state = s.visit.state
  cases v.state <;> cases s.visit.state <;> decide

/-! ## The bus counts (R71) -/

/-- Where one word of several mirrored changes, that word alone is rewritten. -/
theorem pokeChanged_set (s : State) (a j : Nat) (os : List Word) (x : Word) (hj : j < os.length) :
    s.pokeChanged a os (os.set j x) = s.pokeIf (a + j) os[j] x := by
  induction os generalizing s a j with
  | nil => simp at hj
  | cons o os ih =>
    cases j with
    | zero => simp [pokeChanged, pokeChanged_self]
    | succ j =>
      have hsame : s.pokeIf a o o = s := if_pos rfl
      simp only [List.set_cons_succ, pokeChanged, hsame, List.getElem_cons_succ]
      rw [ih s (a + 1) j (by simpa using hj), show a + 1 + j = a + (j + 1) by omega]

/-- A count rises: its word is rewritten, and no other (R71). -/
theorem setCounts_one (c : BusCounts) (j : Nat) (x : Word) (hj : j < 7)
    (hc : countWords c = (countWords s.bus.counts).set j x) (hx : x ≠ (countWords s.bus.counts)[j]) :
    s.setCounts c = (s.setBus { s.bus with counts := c }).poke (0x57 + j) x := by
  have hlen : j < (countWords s.bus.counts).length := hj
  rw [setCounts, hc, pokeChanged_set _ _ _ _ _ hlen]
  exact if_neg (Ne.symm hx)

theorem succ_ne_self (w : Word) : w + 1 ≠ w := by
  intro h
  simp at h

/-- What a count that rises leaves: its word, and the counts. -/
theorem count_rises {c : BusCounts} {j : Nat} {x : Word} (hj : j < 7)
    (hc : countWords c = (countWords s.bus.counts).set j x) (hx : x ≠ (countWords s.bus.counts)[j])
    (ht : t = s.setCounts c) :
    t.peek (0x57 + j) = x ∧ s.KeepsWords t (· = 0x57 + j) ∧
      t = { s with mem := t.mem, bus := { s.bus with counts := c } } := by
  rw [setCounts_one c j x hj hc hx] at ht
  subst ht
  exact ⟨peek_poke_same _ _ _ (by simp only [Config.memoryWords]; omega), poke_keepsWords _ _ _, rfl⟩

theorem countFrame_counts (ht : t = s.countFrame) :
    t.peek 0x57 = s.bus.counts.frames + 1 ∧ s.KeepsWords t (· = 0x57) ∧
      t = { s with
        mem := t.mem, bus := { s.bus with counts := { s.bus.counts with frames := s.bus.counts.frames + 1 } } } :=
  count_rises (j := 0) (by decide) rfl (succ_ne_self _) ht

theorem countGood_counts (ht : t = s.countGood) :
    t.peek 0x58 = s.bus.counts.good + 1 ∧ s.KeepsWords t (· = 0x58) ∧
      t = { s with
        mem := t.mem, bus := { s.bus with counts := { s.bus.counts with good := s.bus.counts.good + 1 } } } :=
  count_rises (j := 1) (by decide) rfl (succ_ne_self _) ht

theorem countSilent_counts (ht : t = s.countSilent) :
    t.peek 0x59 = s.bus.counts.silent + 1 ∧ s.KeepsWords t (· = 0x59) ∧
      t = { s with
        mem := t.mem, bus := { s.bus with counts := { s.bus.counts with silent := s.bus.counts.silent + 1 } } } :=
  count_rises (j := 2) (by decide) rfl (succ_ne_self _) ht

theorem countGarbled_counts (ht : t = s.countGarbled) :
    t.peek 0x5A = s.bus.counts.garbled + 1 ∧ s.KeepsWords t (· = 0x5A) ∧
      t = { s with
        mem := t.mem, bus := { s.bus with counts := { s.bus.counts with garbled := s.bus.counts.garbled + 1 } } } :=
  count_rises (j := 3) (by decide) rfl (succ_ne_self _) ht

theorem countOdd_counts (ht : t = s.countOdd) :
    t.peek 0x5B = s.bus.counts.odd + 1 ∧ s.KeepsWords t (· = 0x5B) ∧
      t = { s with
        mem := t.mem, bus := { s.bus with counts := { s.bus.counts with odd := s.bus.counts.odd + 1 } } } :=
  count_rises (j := 4) (by decide) rfl (succ_ne_self _) ht

theorem countStray_counts (ht : t = s.countStray) :
    t.peek 0x5C = s.bus.counts.stray + 1 ∧ s.KeepsWords t (· = 0x5C) ∧
      t = { s with
        mem := t.mem, bus := { s.bus with counts := { s.bus.counts with stray := s.bus.counts.stray + 1 } } } :=
  count_rises (j := 5) (by decide) rfl (succ_ne_self _) ht

theorem countRollCall_counts (ht : t = s.countRollCall) :
    t.peek 0x5D = s.bus.counts.rollCalls + 1 ∧ s.KeepsWords t (· = 0x5D) ∧
      t = { s with
        mem := t.mem
        bus := { s.bus with counts := { s.bus.counts with rollCalls := s.bus.counts.rollCalls + 1 } } } :=
  count_rises (j := 6) (by decide) rfl (succ_ne_self _) ht

/-! ## The station table (R66) -/

theorem stationWord_bounds {i : Fin 30} {a : Nat} (h : StationWord i a) : 0x5E ≤ a ∧ a ≤ 0x99 := by
  have := i.isLt
  unfold StationWord at h
  omega

theorem stationWord_other {i j : Fin 30} (h : j ≠ i) {a : Nat} (ha : StationWord i a) : ¬ StationWord j a := by
  have hv : j.val ≠ i.val := fun hv => h (Fin.ext hv)
  unfold StationWord at *
  omega

theorem setStation_keepsWords (s : State) (i : Fin 30) (x : Station) : s.KeepsWords (s.setStation i x) (StationWord i) :=
  showStation_keepsWords (s.setBus { s.bus with stations := s.bus.stations.set i x }) i

theorem setStation_eq (s : State) (i : Fin 30) (x : Station) :
    s.setStation i x = { s with mem := (s.setStation i x).mem, bus := { s.bus with stations := s.bus.stations.set i x } } :=
  rfl

theorem setStation_same (s : State) (i : Fin 30) (x : Station) : (s.setStation i x).bus.stations[i] = x := by
  rw [setStation_eq]
  simp

theorem setStation_other (s : State) {i j : Fin 30} (x : Station) (h : j ≠ i) :
    (s.setStation i x).bus.stations[j] = s.bus.stations[j] := by
  have hv : i.val ≠ j.val := fun hv => h (Fin.ext hv.symm)
  rw [setStation_eq]
  simp [hv]

theorem setStation_shown (s : State) (i : Fin 30) (x : Station) : (s.setStation i x).StationShown i := by
  have hm : Config.memoryWords = 0x8000 := rfl
  have := i.isLt
  exact ⟨peek_poke_same _ _ _ (by omega), (peek_poke_other _ _ _ _ (by omega)).trans (peek_poke_same _ _ _ (by omega))⟩

/-- A station's mirror stands while its words and its record stand. -/
theorem stationShown_congr {i : Fin 30} (h : t.StationShown i) (hx : u.bus.stations[i] = t.bus.stations[i])
    (hk : ∀ a, StationWord i a → u.peek a = t.peek a) : u.StationShown i := by
  obtain ⟨hlo, hhi⟩ := h
  exact ⟨by rw [hx, hk _ (.inl rfl), hlo], by rw [hx, hk _ (.inr rfl), hhi]⟩

end Sys2Proof.Machine.State

namespace Sys2Proof.Machine.State

variable {s t u v : State} {r : Taken}

/-! ## Stations forgotten (R73) -/

theorem forget_bus (s : State) (i : Fin 30) :
    (s.forget i).bus =
      { s.bus with
        stations := s.bus.stations.set i { s.bus.stations[i] with state := .unknown, silences := 0, attention := false } } :=
  rfl

theorem forgetAll_keepsWords (s : State) (l : List (Fin 30)) :
    s.KeepsWords (l.foldl forget s) fun a => ∃ i ∈ l, StationWord i a := by
  induction l generalizing s with
  | nil => exact .refl s _
  | cons d l ih =>
    refine ((setStation_keepsWords s d _).trans (ih (s.forget d))).mono ?_
    rintro a (h | ⟨c, hc, h⟩)
    · exact ⟨d, List.mem_cons_self .., h⟩
    · exact ⟨c, List.mem_cons_of_mem _ hc, h⟩

theorem forgetAll_eq (s : State) (l : List (Fin 30)) :
    l.foldl forget s =
      { s with
        mem := (l.foldl forget s).mem, bus := { s.bus with stations := (l.foldl forget s).bus.stations } } := by
  induction l generalizing s with
  | nil => rfl
  | cons d l ih =>
    rw [List.foldl_cons, ih (s.forget d)]
    rfl

theorem forgetAll_other (s : State) {l : List (Fin 30)} {i : Fin 30} (h : i ∉ l) :
    (l.foldl forget s).bus.stations[i] = s.bus.stations[i] := by
  induction l generalizing s with
  | nil => rfl
  | cons d l ih =>
    obtain ⟨hd, hl⟩ := not_or.mp (mt List.mem_cons.mpr h)
    rw [List.foldl_cons, ih _ hl]
    exact setStation_other s _ hd

/-- Each station forgotten is UNKNOWN, and its mirror shows it. -/
theorem forgetAll_forgotten (s : State) {l : List (Fin 30)} (hn : l.Nodup) {i : Fin 30} (h : i ∈ l) :
    (l.foldl forget s).bus.stations[i] =
        { s.bus.stations[i] with state := .unknown, silences := 0, attention := false } ∧
      (l.foldl forget s).StationShown i := by
  induction l generalizing s with
  | nil => exact absurd h List.not_mem_nil
  | cons d l ih =>
    obtain ⟨hd, hl⟩ := List.nodup_cons.mp hn
    by_cases hid : i = d
    · subst hid
      have hrest := forgetAll_keepsWords (s.forget i) l
      have hstand := forgetAll_other (s.forget i) hd
      rw [List.foldl_cons]
      refine ⟨hstand.trans (setStation_same s i _), stationShown_congr (setStation_shown s i _) hstand fun a ha => hrest a ?_⟩
      rintro ⟨j, hj, hja⟩
      exact stationWord_other (fun h : j = i => hd (h ▸ hj)) ha hja
    · obtain ⟨hx, hshown⟩ := ih (s.forget d) hl ((List.mem_cons.mp h).resolve_left hid)
      rw [show (s.forget d).bus.stations[i] = s.bus.stations[i] from setStation_other s _ hid] at hx
      exact ⟨hx, hshown⟩

theorem mem_stations (hp : r.p1.toNat ≤ 30) (i : Fin 30) :
    i ∈ r.stations ↔ r.p1 = 0 ∨ r.p1.toNat = i.val + 1 := by
  unfold Taken.stations
  split
  next h => simp [h]
  next h =>
    have hpos : r.p1.toNat ≠ 0 := fun h0 => h (BitVec.eq_of_toNat_eq h0)
    simp only [List.mem_singleton, h, false_or, Fin.ext_iff, Fin.ofNat]
    have := i.isLt
    omega

theorem nodup_stations (r : Taken) : r.stations.Nodup := by
  unfold Taken.stations
  split
  · exact List.nodup_finRange 30
  · exact List.nodup_singleton _

/-- The stations named are counted as among all thirty. -/
theorem countP_stations (hp : r.p1.toNat ≤ 30) (q : Fin 30 → Bool) :
    r.stations.countP q =
      (List.finRange 30).countP fun i => decide ((r.p1 = 0 ∨ r.p1.toNat = i.val + 1) ∧ q i = true) := by
  have hperm : r.stations.Perm ((List.finRange 30).filter fun i => decide (r.p1 = 0 ∨ r.p1.toNat = i.val + 1)) := by
    refine (List.perm_ext_iff_of_nodup (nodup_stations r) ((List.nodup_finRange 30).filter _)).2 fun i => ?_
    rw [mem_stations hp, List.mem_filter, decide_eq_true_eq]
    exact ⟨fun h => ⟨List.mem_finRange i, h⟩, fun h => h.2⟩
  rw [hperm.countP_eq, List.countP_filter]
  congr 1
  funext i
  rw [Bool.eq_iff_iff, Bool.and_eq_true, decide_eq_true_eq, decide_eq_true_eq, and_comm]

end Sys2Proof.Machine.State

open Sys2Proof.Machine State in
/-- Settles O27: the stations named are forgotten one after another, each with its mirror. -/
theorem stationForgetClearsItsStations : Obligations.StationForgetClearsItsStations := by
  intro s r h hp named
  have hmem := mem_stations hp
  have hkeep := forgetAll_keepsWords s r.stations
  have heq := forgetAll_eq s r.stations
  have hyes (i : Fin 30) := forgetAll_forgotten s (nodup_stations r) (i := i)
  have hno (i : Fin 30) := forgetAll_other s (l := r.stations) (i := i)
  have hwork : s.forgetStations r.stations =
      (r.stations.foldl forget s, some (.ok, BitVec.ofNat 32 ((List.finRange 30).countP fun i =>
        decide ((r.p1 = 0 ∨ r.p1.toNat = i.val + 1) ∧ s.bus.stations[i].state = .lost)))) := by
    rw [forgetStations, countP_stations hp]
    simp only [decide_eq_true_eq]
  have hspares : Spares r fun a => ∃ i, named i ∧ StationWord i a := spares_of_bounds fun a ⟨i, _, ha⟩ => by
    have := stationWord_bounds ha
    omega
  have hkeep' : s.KeepsWords (r.stations.foldl forget s) fun a => ∃ i, named i ∧ StationWord i a :=
    hkeep.mono fun a ⟨i, hi, ha⟩ => ⟨i, (hmem i).1 hi, ha⟩
  generalize r.stations.foldl forget s = w at *
  have hans := answers_of_work h (cmd := .stationForget) (work := fun r s => s.forgetStations r.stations) rfl hwork
    { s with bus := { s.bus with stations := w.bus.stations } } hspares hkeep' heq rfl (held := s.req.inflight) rfl
    (Q := fun t => t.bus = w.bus ∧ ∀ i : Fin 30, named i → t.StationShown i) fun t ht => ⟨by rw [ht.2], fun i hi =>
      stationShown_congr (hyes i ((hmem i).2 hi)).2 (by rw [ht.2]) fun a ha => ht.peek hspares ⟨i, hi, ha⟩⟩
  obtain ⟨t, hexec, hcomp, hbus, hshown⟩ := hans
  refine ⟨t, hexec, fun i => ⟨fun hi => ⟨?_, hshown i hi⟩, fun hi => ?_⟩, ?_⟩
  · rw [hbus]
    exact (hyes i ((hmem i).2 hi)).1
  · rw [hbus]
    exact hno i fun hm => hi ((hmem i).1 hm)
  · rw [hbus]
    exact hcomp

namespace Sys2Proof.Machine.State

variable {s t u v : State} {c : Ctx}

/-! ## The controller takes what waits (R52, R64, R74) -/

theorem setCtl_of_same_code {ctl : BusCtl} (h : ctl.code = s.bus.ctl.code) :
    s.setCtl ctl = s.setBus { s.bus with ctl := ctl } := by
  have : (s.setBus { s.bus with ctl := ctl }).word40 = s.word40 := by simp [word40, h]
  exact if_pos this

theorem takeWaiting_of_none (hv : s.bus.visitPending = none) (hw : s.bus.waiting = none) : s.takeWaiting = s := by
  unfold takeWaiting
  simp only [hv, hw]
  split <;> rfl

theorem takeWaiting_of_visit {b : VisitBroadcast} (hc : s.bus.ctl = .idle) (hv : s.bus.visitPending = some b)
    (hs : s.bus.strayArriving = false) :
    s.takeWaiting = (s.setBus { s.bus with visitPending := none }).setCtl (.sending (.visit b)) := by
  simp only [takeWaiting, hc, hv, hs, Bool.false_eq_true, if_false]

theorem takeWaiting_of_work {w : Work} (hc : s.bus.ctl = .idle) (hv : s.bus.visitPending = none)
    (hw : s.bus.waiting = some w) : s.takeWaiting = (s.setWaiting none).takeWork w := by
  simp only [takeWaiting, hc, hv, hw]

theorem takeWaiting_of_busy (hc : s.bus.ctl ≠ .idle) : s.takeWaiting = s := by
  unfold takeWaiting
  split
  next h => exact absurd h hc
  all_goals rfl

theorem takeWork_sends {w : Work} (hs : s.bus.strayArriving = false) (hl : s.workLost w = false)
    (hv : w.writeType = true → s.visit.state = .off) :
    s.takeWork w = s.setCtl (.sending (.work w s.settings.replyTimeout)) := by
  have hheld : ¬ (w.writeType = true ∧ s.visit.state ≠ .off) := fun h => h.2 (hv h.1)
  simp only [takeWork, hs, hl, hheld, Bool.false_eq_true, if_false]

/-- A frame sent is counted, and the controller goes on to another state. -/
theorem countFrame_setCtl {ctl : BusCtl} (h : ctl.code ≠ s.bus.ctl.code) (ht : t = s.countFrame.setCtl ctl) :
    t.peek 0x40 = t.word40 ∧ t.peek 0x57 = s.bus.counts.frames + 1 ∧ s.KeepsWords t (fun a => a = 0x40 ∨ a = 0x57) ∧
      t = { s with
        mem := t.mem, bus := { s.bus with ctl, counts := { s.bus.counts with frames := s.bus.counts.frames + 1 } } } := by
  obtain ⟨h57, hkeep, heq⟩ := countFrame_counts (s := s) rfl
  generalize s.countFrame = u at *
  have hctl : ctl.code ≠ u.bus.ctl.code := by rw [heq]; exact h
  have hck := setCtl_keepsWords u ctl
  have hshown := setCtl_shown (s := u) ctl hctl
  have hceq := setCtl_eq u ctl
  rw [← ht] at hck hshown hceq
  exact ⟨hshown, (hck _ (by decide)).trans h57, (hkeep.trans hck).mono fun a h => h.symm, by rw [hceq, heq]⟩

theorem enterIdle_of_none (hv : s.bus.visitPending = none) (hw : s.bus.waiting = none) :
    s.enterIdle = s.setCtl .idle := by
  have hvis : (s.setCtl .idle).bus.visitPending = none := by rw [setCtl_eq]; exact hv
  have hwait : (s.setCtl .idle).bus.waiting = none := by rw [setCtl_eq]; exact hw
  exact takeWaiting_of_none hvis hwait

theorem busResult_of_bus {step : BusStep} (hctx : s.engine.ctx = some c) (hphase : c.phase = .bus step) (r : BusResult) :
    s.busResult r = s.stepResult step r := by
  simp only [busResult, hctx, hphase]

theorem stepAddr_of_ctx (hctx : s.engine.ctx = some c) : s.stepAddr = c.addr := by simp [stepAddr, hctx]

/-- A broadcast step ends DONE when its frame is out (R40, R41). -/
theorem broadcast_concludes {step : BusStep} (hctx : s.engine.ctx = some c) (hphase : c.phase = .bus step)
    (hstep : step = .sampleAll ∨ step = .clear) (hruns : RunsOn c) :
    s.busResult .sent = s.setCtx (some (c.next (c.addr + 1))) := by
  rw [busResult_of_bus hctx hphase, ← finishStep_of_runsOn _ hctx hruns, ← stepAddr_of_ctx hctx]
  rcases hstep with rfl | rfl <;> rfl

/-- The bus of a part that leaves DRAINING, by what waits (R52, R64, R74). -/
theorem enterIdle_takes (hs : s.bus.strayArriving = false) :
    (s.bus.visitPending = none → s.bus.waiting = none → s.enterIdle = s.setCtl .idle) ∧
      (∀ b, s.bus.visitPending = some b →
        s.enterIdle = ((s.setCtl .idle).setBus { (s.setCtl .idle).bus with visitPending := none }).setCtl (.sending (.visit b))) ∧
      ∀ w, s.bus.visitPending = none → s.bus.waiting = some w → s.workLost w = false →
        (w.writeType = true → s.visit.state = .off) →
        s.enterIdle = ((s.setCtl .idle).setWaiting none).setCtl (.sending (.work w s.settings.replyTimeout)) := by
  have heq := setCtl_eq s .idle
  unfold enterIdle
  generalize s.setCtl .idle = u at *
  have hctl : u.bus.ctl = .idle := by rw [heq]
  refine ⟨fun hv hw => takeWaiting_of_none (by rw [heq]; exact hv) (by rw [heq]; exact hw), fun b hv =>
    takeWaiting_of_visit hctl (by rw [heq]; exact hv) (by rw [heq]; exact hs), fun w hv hw hl hwt => ?_⟩
  rw [takeWaiting_of_work hctl (by rw [heq]; exact hv) (by rw [heq]; exact hw),
    takeWork_sends (by rw [heq]; exact hs) (by rw [heq]; exact hl) (by rw [heq]; exact hwt)]
  rw [heq]
  rfl

/-- The controller is in a state in which no frame is awaited, and hears what arrives (R59). -/
def Listening (ctl : BusCtl) : Prop :=
  match ctl with
  | .settling _ | .draining _ _ | .idle | .slots _ _ _ => True
  | .sending _ | .awaiting _ _ | .streaming _ _ _ _ => False

/-- The controller's state at the end of a stray frame: a quiet interval begins again (R59, R64, R65, R75). -/
def afterStray (s : State) : BusCtl :=
  match s.bus.ctl with
  | .settling _ => .settling (some (s.now + millis 15))
  | .draining n _ => .draining n (some (s.now + millis n))
  | .idle | .slots _ _ _ | .sending _ | .awaiting _ _ | .streaming _ _ _ _ => s.bus.ctl

/-- The controller's state while a stray frame arrives: a quiet interval stands still (R59, R64, R75). -/
def duringStray (s : State) : BusCtl :=
  match s.bus.ctl with
  | .settling _ => .settling none
  | .draining n _ => .draining n none
  | .idle | .slots _ _ _ | .sending _ | .awaiting _ _ | .streaming _ _ _ _ => s.bus.ctl

theorem strayBegins_of_listening (h : Listening s.bus.ctl) :
    s.strayBegins = { s with bus := { s.bus with strayArriving := true, ctl := s.duringStray } } := by
  unfold strayBegins duringStray
  unfold Listening at h
  cases hc : s.bus.ctl with
  | settling due => exact setCtl_of_same_code (by simp [hc, BusCtl.code])
  | draining n due => exact setCtl_of_same_code (by simp [hc, BusCtl.code])
  | idle | slots i p a => exact eq_of_fields (by simp [hc])
  | sending | awaiting | streaming => simp [hc] at h

theorem replyBegins_of_listening (h : Listening s.bus.ctl) : s.replyBegins = s.strayBegins := by
  unfold replyBegins
  unfold Listening at h
  split <;> simp_all

/-- A stray frame ends, the quiet interval then being `ctl` (R59, R64, R65, R75). -/
theorem strayEnds_counted {ctl : BusCtl} (h : ctl.code = s.bus.ctl.code)
    (ht : t = ((s.setBus { s.bus with strayArriving := false }).countStray).setCtl ctl) :
    t.peek 0x5C = s.bus.counts.stray + 1 ∧ s.KeepsWords t (· = 0x5C) ∧
      t = { s with
        mem := t.mem
        bus :=
          { s.bus with
            strayArriving := false, counts := { s.bus.counts with stray := s.bus.counts.stray + 1 }, ctl } } := by
  obtain ⟨h5C, hkeep, heq⟩ := countStray_counts (s := s.setBus { s.bus with strayArriving := false }) rfl
  generalize (s.setBus { s.bus with strayArriving := false }).countStray = u at *
  rw [setCtl_of_same_code (by rw [heq]; exact h)] at ht
  have hpeek (a : Nat) : t.peek a = u.peek a := by rw [ht]; rfl
  refine ⟨(hpeek _).trans h5C, fun a ha => (hpeek a).trans (hkeep a ha), ?_⟩
  rw [ht, heq]
  rfl

theorem strayEnds_of_listening (h : Listening s.bus.ctl) (ht : t = s.strayEnds) :
    t.peek 0x5C = s.bus.counts.stray + 1 ∧ s.KeepsWords t (· = 0x5C) ∧
      t = { s with
        mem := t.mem
        bus :=
          { s.bus with
            strayArriving := false, counts := { s.bus.counts with stray := s.bus.counts.stray + 1 }
            ctl := s.afterStray } } := by
  have hcode : s.afterStray.code = s.bus.ctl.code := by
    unfold afterStray
    split <;> simp_all [BusCtl.code]
  refine strayEnds_counted hcode ?_
  rw [ht]
  unfold strayEnds afterStray
  unfold Listening at h
  cases hc : s.bus.ctl with
  | settling due => rfl
  | draining n due => rfl
  | idle | slots i p a =>
    obtain ⟨-, -, heq⟩ := countStray_counts (s := s.setBus { s.bus with strayArriving := false }) rfl
    rw [setCtl_of_same_code (by rw [heq]; simp [hc])]
    exact eq_of_fields (by rw [heq]; simp [hc])
  | sending | awaiting | streaming => simp [hc] at h

theorem exec_of_stray (hr : s.ready) (h : Listening s.bus.ctl) {cmd : Sys2Proof.Instr}
    (hcmd : cmd = .strayFrame ∨ ∃ bits, cmd = .replyEnd bits) : exec cmd s = .next s.strayEnds := by
  rcases hcmd with rfl | ⟨bits, rfl⟩
  · exact congrArg Host.Outcome.next (whenReady_of_ready _ hr)
  · refine congrArg Host.Outcome.next ((whenReady_of_ready _ hr).trans ?_)
    unfold Listening at h
    split <;> simp_all

end Sys2Proof.Machine.State

open Sys2Proof.Machine State in
/-- Settles O41: each command by the controller's state. -/
theorem framesEndAndStraysAreCounted : Obligations.FramesEndAndStraysAreCounted := by
  intro s hr counted goesTo
  have hgoes {cmd : Sys2Proof.Instr} {ctl : BusCtl} (hexec : exec cmd s = .next (s.countFrame.setCtl ctl))
      (h : ctl.code ≠ s.bus.ctl.code) : goesTo cmd ctl := ⟨_, hexec, countFrame_setCtl h rfl⟩
  have hwhen {f : State → State} {t : State} (h : f s = t) : Host.Outcome.next (s.whenReady f) =
      (.next t : Host.Outcome State Fault Refusal) := congrArg Host.Outcome.next ((whenReady_of_ready f hr).trans h)
  refine ⟨fun tr timeout hctl => ?_, fun b timeout hctl => ?_, fun timeout hctl => ?_, fun hctl hw hv => ?_,
    fun c step timeout hin hruns hstep => ?_, fun due hctl hdue => ?_, fun n due hctl hdue hstray => ?_, ?_⟩
  · exact hgoes (hwhen (by simp only [hctl]; rfl)) (by simp [hctl, BusCtl.code])
  · exact hgoes (hwhen (by simp only [hctl]; rfl)) (by simp [hctl, BusCtl.code])
  · exact hgoes (hwhen (by simp only [hctl])) (by simp [hctl, BusCtl.code])
  · refine hgoes (hwhen ?_) (by simp [hctl, BusCtl.code])
    simp only [hctl]
    obtain ⟨-, -, heq⟩ := countFrame_counts (s := s) rfl
    exact enterIdle_of_none (by rw [heq]; exact hv) (by rw [heq]; exact hw)
  · obtain ⟨-, hctx, hphase, hw, hv, -⟩ := hin
    have hctl : s.bus.ctl.code = 2 := by rcases hstep with ⟨-, h⟩ | ⟨-, h⟩ <;> rw [h] <;> rfl
    have hexec : exec .broadcastSent s = .next ((s.countFrame.setCtl .idle).setCtx (some (c.next (c.addr + 1)))) := by
      obtain ⟨-, -, heq⟩ := countFrame_counts (s := s) rfl
      have hidle : s.countFrame.enterIdle = s.countFrame.setCtl .idle :=
        enterIdle_of_none (by rw [heq]; exact hv) (by rw [heq]; exact hw)
      have hdone : (s.countFrame.setCtl .idle).busResult .sent =
          (s.countFrame.setCtl .idle).setCtx (some (c.next (c.addr + 1))) :=
        broadcast_concludes (by rw [setCtl_eq, heq]; exact hctx) hphase
          (hstep.imp (fun h => h.1) fun h => h.1) hruns
      rw [← hdone, ← hidle]
      rcases hstep with ⟨-, h⟩ | ⟨-, h⟩
      · exact hwhen (by simp only [h])
      · exact hwhen (by simp only [h])
    obtain ⟨h40, h57, hkeep, heq⟩ := countFrame_setCtl (s := s) (ctl := .idle) (by rw [hctl]; decide) rfl
    generalize s.countFrame.setCtl .idle = u at *
    exact ⟨_, hexec, h40, h57, hkeep, by rw [heq]; rfl⟩
  · have hexec : exec .settlingEnd s = .next (s.setCtl (.sending .ownTake)) := by
      refine hwhen ?_
      simp only [hctl]
      exact whenDue_of_le s _ hdue
    exact ⟨_, hexec, setCtl_shown _ (by simp [hctl, BusCtl.code]), setCtl_keepsWords _ _, setCtl_eq _ _⟩
  · have hexec : exec .drainEnd s = .next s.enterIdle := by
      refine hwhen ?_
      simp only [hctl]
      exact whenDue_of_le s _ hdue
    have hcode : s.bus.ctl.code = 6 := by rw [hctl]; rfl
    obtain ⟨hnone, hvisit, hwork⟩ := enterIdle_takes hstray
    have hidle := setCtl_eq s .idle
    refine ⟨_, hexec, fun hv hw => ?_, fun b hv => ?_, fun w hv hw hl hwt => ?_, fun h => ?_⟩
    · rw [hnone hv hw, hidle]
    · rw [hvisit b hv, setCtl_eq, hidle]
      rfl
    · rw [hwork w hv hw hl hwt, setCtl_eq, hidle]
      rfl
    · cases hv : s.bus.visitPending with
      | none =>
        rw [hnone hv (h.resolve_right fun h => h hv)]
        exact ⟨setCtl_shown _ (by rw [hcode]; decide), setCtl_keepsWords _ _, by rw [hidle]⟩
      | some b =>
        rw [hvisit b hv]
        have hk1 := setCtl_keepsWords s .idle
        generalize s.setCtl .idle = u at *
        have hk2 := setCtl_keepsWords (u.setBus { u.bus with visitPending := none }) (.sending (.visit b))
        have hctl2 : (BusCtl.sending (.visit b)).code ≠ (u.setBus { u.bus with visitPending := none }).bus.ctl.code := by
          rw [show (u.setBus { u.bus with visitPending := none }).bus.ctl = .idle by rw [hidle]; rfl]
          exact (by decide : 2 ≠ 1)
        have hshown := setCtl_shown _ hctl2
        have heq := setCtl_eq (u.setBus { u.bus with visitPending := none }) (.sending (.visit b))
        generalize (u.setBus { u.bus with visitPending := none }).setCtl (.sending (.visit b)) = t at *
        refine ⟨hshown, (hk1.through rfl hk2).mono fun a h => h.elim id id, ?_⟩
        rw [heq, hidle]
        rfl
  · intro strays begins ends
    have hboth (h : Listening s.bus.ctl) : begins s.duringStray ∧ ends s.afterStray :=
      ⟨hwhen ((replyBegins_of_listening h).trans (strayBegins_of_listening h)), fun cmd hcmd =>
        ⟨_, exec_of_stray hr h hcmd, strayEnds_of_listening h rfl⟩⟩
    refine ⟨fun due hctl => ?_, fun n due hctl => ?_, fun hctl => ?_, fun what hctl => ⟨hwhen ?_, hwhen ?_, fun bits =>
      hwhen ?_⟩⟩
    · have := hboth (by rw [hctl]; trivial)
      rwa [duringStray, afterStray, hctl] at this
    · have := hboth (by rw [hctl]; trivial)
      rwa [duringStray, afterStray, hctl] at this
    · have := hboth (by rcases hctl with h | ⟨i, p, a, h⟩ <;> (rw [h]; trivial))
      rcases hctl with h | ⟨i, p, a, h⟩
      · rw [duringStray, afterStray, h] at this
        rwa [h]
      · rw [duringStray, afterStray, h] at this
        rwa [h]
    · simp only [replyBegins, hctl, strayBegins]
    · simp only [strayEnds, hctl]
    · simp only [hctl, strayEnds]
end

section
/-! PROOFS. The visit machine (R135, R136, R138); the obligation O47. -/

namespace Sys2Proof.Machine.State

variable {s t u v : State}

/-! ## A broadcast made pending (R74) -/

/-- A broadcast made pending moves the controller as `busPending` says. -/
theorem makePending_pending {b : VisitBroadcast} (ht : t = s.makePending b) :
    s.KeepsWords t (· = 0x40) ∧ s.Shows40 t ∧ t = { s with mem := t.mem, bus := s.busPending b } := by
  have hset : t = (s.setBus { s.bus with visitPending := some b }).takeWaiting := ht
  by_cases hc : s.bus.ctl = .idle
  · by_cases hs : s.bus.strayArriving = true
    · have htake : t = (s.setBus { s.bus with visitPending := some b }).setCtl
          (.draining s.settings.replyTimeout none) := by
        rw [hset, takeWaiting]
        simp only [setBus_bus, hc, hs, if_true, startDrain]
        rfl
      have hbus : s.busPending b =
          { s.bus with visitPending := some b, ctl := .draining s.settings.replyTimeout none } := by
        simp [busPending, hc, hs]
      refine ⟨htake ▸ setCtl_keepsWords _ _, htake ▸ setCtl_shows _ _, ?_⟩
      rw [hbus, htake, setCtl_eq]
      rfl
    · have hs' : s.bus.strayArriving = false := by simpa using hs
      have htake : t = ((s.setBus { s.bus with visitPending := some b }).setBus
          { s.bus with visitPending := none }).setCtl (.sending (.visit b)) := by
        rw [hset, takeWaiting_of_visit (s := s.setBus { s.bus with visitPending := some b }) hc rfl hs']
        rfl
      have hbus : s.busPending b = { s.bus with visitPending := none, ctl := .sending (.visit b) } := by
        simp [busPending, hc, hs']
      refine ⟨htake ▸ setCtl_keepsWords _ _, htake ▸ setCtl_shows _ _, ?_⟩
      rw [hbus, htake, setCtl_eq]
      rfl
  · rw [takeWaiting_of_busy (s := s.setBus { s.bus with visitPending := some b }) hc] at hset
    have hbus : s.busPending b = { s.bus with visitPending := some b } := by simp [busPending, hc]
    exact ⟨hset ▸ .of_mem rfl, hset ▸ .inr ⟨rfl, rfl⟩, by rw [hset, hbus]; rfl⟩

/-- What `busPending` says depends on the bus and on the settings. -/
theorem busPending_congr (hb : t.bus = s.bus) (hs : t.settings = s.settings) (b : VisitBroadcast) :
    t.busPending b = s.busPending b := by
  simp only [busPending, hb, hs]

theorem raiseCause_eq (s : State) (c : WakeCause) : s.raiseCause c = { s with wake := s.raised c } := rfl

/-! ## The end of a visit (R135) -/

/-- A visit goes to ENDING, with REMOTE_TAKE pending. -/
theorem visitEnding_ending (hne : s.visit.state ≠ .ending) (ht : t = s.visitEnding) :
    t.peek 0x40 = t.word40 ∧ s.KeepsWords t (· = 0x40) ∧
      t = { s with
        mem := t.mem, visit := { s.visit with state := .ending, endDue := none }, bus := s.busPending .remoteTake } := by
  have hset := setVisitState_eq s { s.visit with state := .ending, endDue := none }
  have hkeep := setVisitState_keepsWords s { s.visit with state := .ending, endDue := none }
  have hshows := setVisitState_shows s { s.visit with state := .ending, endDue := none }
  unfold visitEnding at ht
  generalize s.setVisitState { s.visit with state := .ending, endDue := none } = u at *
  obtain ⟨hk, hs, heq⟩ := makePending_pending ht
  rw [busPending_congr (s := s) (by rw [hset]) (by rw [hset])] at heq
  have hall : t = { s with
      mem := t.mem, visit := { s.visit with state := .ending, endDue := none }, bus := s.busPending .remoteTake } := by
    rw [heq, hset]
  refine ⟨(hshows.trans hs).shown fun hw => ?_, (hkeep.trans hk).mono fun a h => h.elim id id, hall⟩
  obtain ⟨-, -, -, hvisit, -⟩ := word40_eq_iff.1 hw
  rw [hall] at hvisit
  revert hvisit hne
  show s.visit.state ≠ .ending → VisitState.ending.code % 8 = s.visit.state.code % 8 → False
  cases s.visit.state <;> decide

/-! ## A visit broadcast sent (R60, R136) -/

/-- The state in which a visit broadcast is reported sent: the controller IDLE, and the frame counted (R71). -/
def broadcastOut (s : State) : State := (s.setCtl .idle).countFrame

theorem broadcastOut_counted (hu : u = s.broadcastOut) :
    u.peek 0x57 = s.bus.counts.frames + 1 ∧ s.KeepsWords u (fun a => a = 0x40 ∨ a = 0x57) ∧ s.Shows40 u ∧
      u = { s with
        mem := u.mem
        bus := { s.bus with ctl := .idle, counts := { s.bus.counts with frames := s.bus.counts.frames + 1 } } } := by
  have hkeep := setCtl_keepsWords s .idle
  have heq := setCtl_eq s .idle
  have hshows := setCtl_shows s .idle
  unfold broadcastOut at hu
  generalize s.setCtl .idle = w at *
  obtain ⟨h57, hcount, hceq⟩ := countFrame_counts hu
  refine ⟨by rw [h57, heq], hkeep.trans hcount, hshows.keep (by rw [hceq]; rfl) (hcount _ (by decide)), ?_⟩
  rw [hceq, heq]

theorem exec_visitSent {b : VisitBroadcast} (hr : s.ready) (hctl : s.bus.ctl = .sending (.visit b)) :
    exec .broadcastSent s = .next (s.broadcastOut.visitReport b).takeWaiting := by
  refine congrArg Host.Outcome.next ((whenReady_of_ready _ hr).trans ?_)
  simp only [hctl]
  rfl

end Sys2Proof.Machine.State

open Sys2Proof.Machine State in
/-- Settles O47: the report in each state of the visit machine, from the state with the frame counted. -/
theorem visitReportsDriveTheMachine : Obligations.VisitReportsDriveTheMachine := by
  intro s hr
  refine ⟨fun b hctl hwait hpend hstray => ?_, fun due hv hend hdue => ?_⟩
  · intro bus leaves
    have hexec := exec_visitSent hr hctl
    obtain ⟨h57, hkeep, hshows, heq⟩ := broadcastOut_counted (s := s) rfl
    generalize s.broadcastOut = u at *
    have hubus : u.bus = bus .idle := by rw [heq]
    have huvisit : u.visit = s.visit := by rw [heq]
    have hstands {v : State} (hb : v.bus = u.bus) : v.takeWaiting = v :=
      takeWaiting_of_none (by rw [hb, heq]; exact hpend) (by rw [hb, heq]; exact hwait)
    have hleaves {v : State} {ctl : BusCtl} {visit : VisitState} (hv : exec .broadcastSent s = .next v)
        (hk : u.KeepsWords v (· = 0x40)) (hs : u.Shows40 v)
        (hveq : v = { u with mem := v.mem, bus := { u.bus with ctl }, visit := { s.visit with state := visit } }) :
        leaves ctl visit := by
      refine ⟨v, hv, (hk _ (by decide)).trans h57, (hkeep.trans hk).mono fun a h => h.elim id .inl, ?_, ?_⟩
      · rcases hshows.trans hs with h | ⟨h, -⟩
        · exact .inr h
        · exact .inl h.symm
      · rw [hveq, heq]
    have hquiet (h : u.visitReport b = u) : leaves .idle s.visit.state := by
      rw [h, hstands rfl] at hexec
      exact hleaves hexec (.refl u _) (.refl u) (by rw [heq])
    have hagain {c : VisitBroadcast} (h : u.visitReport b = u.makePending c) :
        leaves (.sending (.visit c)) s.visit.state := by
      obtain ⟨hk, hs, hpeq⟩ := makePending_pending (s := u) (b := c) rfl
      have hpb : u.busPending c = { u.bus with visitPending := none, ctl := .sending (.visit c) } := by
        rw [busPending, if_neg (by rw [heq]; simp), if_neg (by rw [heq]; simp [hstray])]
      rw [h, takeWaiting_of_busy (by rw [hpeq, hpb]; simp)] at hexec
      generalize u.makePending c = v at *
      refine hleaves hexec hk hs ?_
      rw [hpeq, hpb, heq]
      simp only [hpend]
    refine ⟨fun hb hv => ?_, fun hb hv => ?_, fun hb hv => ?_, fun hb hv => ?_, fun hb hv => ?_, fun i hb hv hroom => ?_⟩
    · have := hagain (c := .remoteTake) (by simp only [visitReport, hb, huvisit, hv])
      rwa [hv] at this
    · have hrep : u.visitReport b = u.setVisitState { s.visit with state := .on } := by
        simp only [visitReport, hb, huvisit, hv]
      rw [hrep, hstands (by rw [setVisitState_eq])] at hexec
      have hk := setVisitState_keepsWords u { s.visit with state := .on }
      have hs := setVisitState_shows u { s.visit with state := .on }
      have hveq := setVisitState_eq u { s.visit with state := .on }
      generalize u.setVisitState { s.visit with state := .on } = v at *
      exact hleaves hexec hk hs (by rw [hveq, heq])
    · exact hquiet (by rcases hv with hv | hv | hv <;> simp only [visitReport, hb, huvisit, hv])
    · exact hquiet (by rcases hv with hv | hv <;> simp only [visitReport, hb, huvisit, hv])
    · exact hagain (by rcases hv with hv | hv <;> simp only [visitReport, hb, huvisit, hv])
    · have hrep : u.visitReport b =
          ((u.setVisitState { s.visit with state := .off }).offerVisit .ended).raiseCause .visit := by
        simp only [visitReport, hb, huvisit, hv]
      have hk := setVisitState_keepsWords u { s.visit with state := .off }
      have hs := hshows.trans (setVisitState_shows u { s.visit with state := .off })
      have hveq := setVisitState_eq u { s.visit with state := .off }
      rw [hrep] at hexec
      generalize u.setVisitState { s.visit with state := .off } = v at *
      have hall : v = { s with mem := v.mem, bus := bus .idle, visit := { s.visit with state := .off } } := by rw [hveq, heq]
      have h40 : v.peek 0x40 = v.word40 := hs.shown fun hw => by
        obtain ⟨-, -, -, hvisit, -⟩ := word40_eq_iff.1 hw
        rw [hall, hv] at hvisit
        exact absurd (show VisitState.off.code % 8 = VisitState.ending.code % 8 from hvisit) (by decide)
      obtain ⟨hrec, hrkeep, hreq⟩ := offer_from (s := s) (u := v) (r := visitRecord v.visit .ended) (i := i)
        (by rw [hall]) (by rw [hall]) (by rw [hall]) hroom
      have hrecord : visitRecord v.visit .ended =
          { kind := .visit, payload := [pack [(2, VisitEvent.ended.code), (4, s.visit.input.val)], s.visit.begin] } := by
        rw [hall]
        rfl
      rw [show v.offerVisit .ended = v.offer (visitRecord v.visit .ended) from rfl] at hexec
      generalize v.offer (visitRecord v.visit .ended) = w at *
      rw [hrecord] at hrec
      rw [hstands (by rw [show (w.raiseCause .visit).bus = w.bus from rfl, hreq, hall, heq])] at hexec
      have hlow (a : Nat) (ha : a < 0x9B) : w.peek a = v.peek a :=
        hrkeep a (not_recordWord hroom (by omega) (by omega) (by omega) (by omega))
      refine ⟨_, hexec, (hlow _ (by decide)).trans ((hk _ (by decide)).trans h57), (hlow _ (by decide)).trans (h40.trans ?_),
        hrec, ((hkeep.trans hk).trans hrkeep).mono fun a h => ?_, ?_⟩
      · rw [hreq]
        rfl
      · rcases h with ((h | h) | h) | h
        · exact .inl h
        · exact .inr (.inl h)
        · exact .inl h
        · exact .inr (.inr h)
      · rw [raiseCause_eq, raised_congr (s := s) (by rw [hreq, hall]) (by rw [hreq, hall]) (by rw [hreq, hall]), hreq, hall]
        rfl
  · have hexec : exec .endDelayExpiry s = .next s.visitEnding := by
      refine congrArg Host.Outcome.next ((whenReady_of_ready _ hr).trans ?_)
      simp only [hv, hend]
      exact whenDue_of_le s _ hdue
    exact ⟨_, hexec, visitEnding_ending (by rw [hv]; decide) rfl⟩
end

section
/-! PROOFS. The Survey Engine: triggers, run starts and run ends (R5–R20). -/

namespace Sys2Proof.Machine.State

variable {s t u w : State} {c : Ctx} {l : Fin 32} {src : Source} {i : Fin 16}

/-! ## The words of the directory and the queue -/

theorem dirAddr_bounds (l : Fin 32) : 0x180 ≤ dirAddr l ∧ dirAddr l + 3 < 0x200 := by
  unfold dirAddr; omega

theorem shedDropAddr_bounds (l : Fin 32) : 0xAC ≤ shedDropAddr l ∧ shedDropAddr l < 0xBC := by
  unfold shedDropAddr; omega

theorem outcomeAddr_bounds (l : Fin 32) : 0xBC ≤ outcomeAddr l ∧ outcomeAddr l < 0xC0 := by
  unfold outcomeAddr; omega

theorem triggerWord_bounds {a : Nat} (h : TriggerWord l a) :
    (0x46 ≤ a ∧ a ≤ 0x56) ∨ (0xAC ≤ a ∧ a < 0xBC) ∨ (0x180 ≤ a ∧ a < 0x200) := by
  have := dirAddr_bounds l
  have := shedDropAddr_bounds l
  unfold TriggerWord QueueWord at h
  omega

theorem startWord_bounds {a : Nat} (h : StartWord a) : a = 0x40 ∨ (0x45 ≤ a ∧ a ≤ 0x56) := by
  unfold StartWord QueueWord at h
  omega

theorem runEndWord_bounds {a : Nat} (h : RunEndWord l a) :
    a = 0x44 ∨ a = 0x45 ∨ (0xBC ≤ a ∧ a < 0xC0) ∨ (0x180 ≤ a ∧ a < 0x200) := by
  have := dirAddr_bounds l
  have := outcomeAddr_bounds l
  unfold RunEndWord at h
  omega

/-- A directory entry reads the same where its two host words stand. -/
theorem readDir_congr (h0 : t.peek (dirAddr l) = s.peek (dirAddr l))
    (h1 : t.peek (dirAddr l + 1) = s.peek (dirAddr l + 1)) : readDir t.mem l = readDir s.mem l := by
  simp only [peek] at h0 h1
  simp only [readDir, h0, h1]

/-! ## The snapshot of the queue (R8) -/

theorem setQueue_keepsWords (s : State) (q : List QEntry) : s.KeepsWords (s.setQueue q) QueueWord :=
  showQueue_keepsWords (s.setEngine { s.engine with queue := q })

theorem setQueue_eq (s : State) (q : List QEntry) :
    s.setQueue q = { s with mem := (s.setQueue q).mem, engine := { s.engine with queue := q } } :=
  eq_of_fields (by simp [setQueue])

theorem setQueue_shown (s : State) (q : List QEntry) : (s.setQueue q).SnapshotShown := by
  have hm : Config.memoryWords = 0x8000 := rfl
  have hlen : (queueWords q).length = 16 := by simp [queueWords]
  refine ⟨peek_poke_same _ _ _ (by decide), fun k hk => (peek_poke_other _ _ _ _ (by omega)).trans ?_⟩
  have hsame := (s.setEngine { s.engine with queue := q }).peek_pokes_same 0x47 k (queueWords q) (by omega) (by omega)
  rw [show (s.setQueue q).engine.queue = q from rfl, List.getD_eq_getElem _ _ (by omega)]
  exact hsame

/-- A snapshot stands while its words and the queue stand. -/
theorem snapshotShown_congr (h : t.SnapshotShown) (hq : u.engine.queue = t.engine.queue)
    (hk : ∀ a, QueueWord a → u.peek a = t.peek a) : u.SnapshotShown := by
  obtain ⟨hcount, hwords⟩ := h
  refine ⟨by rw [hq, hk _ ⟨by omega, by omega⟩, hcount], fun k hk16 => ?_⟩
  rw [hq, hk _ ⟨by omega, by omega⟩, hwords k hk16]

/-! ## Counts in halves of words (R3) -/

theorem peek_bumpHalf (s : State) (a lo : Nat) (ha : a < Config.memoryWords) :
    (s.bumpHalf a lo).peek a = setField (s.peek a) lo 16 (satInc 65535 (field (s.peek a) lo 16)) :=
  peek_poke_same _ _ _ ha

theorem bumpHalf_keepsWords (s : State) (a lo : Nat) : s.KeepsWords (s.bumpHalf a lo) (· = a) := poke_keepsWords _ _ _

/-! ## Triggers while the engine is not IDLE (R5) -/

/-- The state a trigger leaves while the engine is not IDLE. -/
def triggered (s : State) (l : Fin 32) (src : Source) : State :=
  if (readDir s.mem l).enabled = false then s
  else if (readDir s.mem l).sheddable = true ∧ s.duty.shed.drops src = true then s.bumpShedDrop l
  else if ∃ q ∈ s.engine.queue, q.list = l then s.bumpCoalesced l
  else s.setQueue (place { list := l, urgent := (readDir s.mem l).urgent, source := src } s.engine.queue)

theorem any_list_iff (q : List QEntry) (l : Fin 32) : (q.any (·.list = l)) = true ↔ ∃ e ∈ q, e.list = l := by
  simp

theorem offerTrigger_eq (hidle : s.engine.mode ≠ .idle) : s.offerTrigger l src = s.triggered l src := by
  unfold offerTrigger trigger triggered
  dsimp only
  by_cases hen : (readDir s.mem l).enabled = false
  · simp [hen]
  · rw [if_neg (by simpa using hen), if_neg hen]
    split
    · rfl
    · simp only [any_list_iff]
      split
      · rfl
      · exact if_neg hidle

theorem triggered_keepsWords (s : State) (l : Fin 32) (src : Source) : s.KeepsWords (s.triggered l src) (TriggerWord l) := by
  unfold triggered
  split
  · exact .refl s _
  · split
    · exact (bumpHalf_keepsWords _ _ _).mono fun a h => .inr (.inr h)
    · split
      · exact (bumpHalf_keepsWords _ _ _).mono fun a h => .inr (.inl h)
      · exact (setQueue_keepsWords _ _).mono fun a h => .inl h

theorem triggered_eq (s : State) (l : Fin 32) (src : Source) :
    s.triggered l src = { s with mem := (s.triggered l src).mem, engine := (s.triggered l src).engine } := by
  unfold triggered
  split
  · rfl
  · split
    · rfl
    · split
      · rfl
      · rw [setQueue_eq]

/-- Each case of R5, as it shows. -/
theorem triggered_triggered (s : State) (l : Fin 32) (src : Source) :
    s.Triggered (s.triggered l src) l src s.engine.ctx := by
  have hd := dirAddr_bounds l
  have hs := shedDropAddr_bounds l
  have hm : Config.memoryWords = 0x8000 := rfl
  unfold Triggered triggered
  split
  · exact ⟨rfl, fun _ _ => rfl⟩
  · split
    · exact ⟨rfl, peek_bumpHalf _ _ _ (by show shedDropAddr l < _; omega), fun a _ ha => bumpHalf_keepsWords _ _ _ a ha⟩
    · split
      · exact ⟨rfl, peek_bumpHalf _ _ _ (by omega), fun a _ ha => bumpHalf_keepsWords _ _ _ a ha⟩
      · exact ⟨rfl, setQueue_shown _ _, fun a _ ha => setQueue_keepsWords _ _ a ha⟩

/-! ## Run starts (R10, R14) -/

/-- The head of the queue starts: the queue shown, the run's context, RUNNING, and 0045H. -/
theorem startRun_starts (e : QEntry) (rest : List QEntry) (ht : t = s.startRun e rest) :
    s.Starts t e.list e.source rest ∧ s.KeepsWords t StartWord ∧ s.Shows40 t ∧
      t = { s with mem := t.mem, engine := t.engine } := by
  have hq := setQueue_shown s rest
  have hqk := setQueue_keepsWords s rest
  have hqe := setQueue_eq s rest
  unfold startRun at ht
  generalize s.setQueue rest = q at *
  have hdir : readDir q.mem e.list = readDir s.mem e.list := by
    have := dirAddr_bounds e.list
    refine readDir_congr (hqk _ ?_) (hqk _ ?_)
    · unfold QueueWord; omega
    · unfold QueueWord; omega
  have hctx : ({ list := e.list, source := e.source, endRecord := (readDir q.mem e.list).endRecord
                 addr := (readDir q.mem e.list).start, executed := 0, mark := none, cut := false
                 start := q.time.timestamp, lastDone := none, phase := .between } : Ctx) = s.freshCtx e.list e.source := by
    rw [hdir, hqe]
    rfl
  dsimp only at ht
  rw [hctx] at ht
  have hmk := setMode_keepsWords (q.setCtx (some (s.freshCtx e.list e.source))) .running
  have hms := setMode_shows (q.setCtx (some (s.freshCtx e.list e.source))) .running
  have hme := setMode_eq (q.setCtx (some (s.freshCtx e.list e.source))) .running
  generalize (q.setCtx (some (s.freshCtx e.list e.source))).setMode .running = m at *
  have hmctx : m.engine.ctx = some (s.freshCtx e.list e.source) := by rw [hme]; rfl
  have hshow : t = m.poke 0x45 (runningWord (some (s.freshCtx e.list e.source))) := by rw [ht, ← hmctx]; rfl
  have hmqueue : m.engine.queue = q.engine.queue := by rw [hme]; rfl
  have hout (a : Nat) (ha : a ≠ 0x45) (h40 : a ≠ 0x40) : t.peek a = q.peek a := by
    rw [hshow, peek_poke_other _ _ _ _ ha]
    exact hmk a h40
  have hqshows : s.Shows40 q := (Shows40.refl s).keep (by rw [hqe]; rfl) (hqk _ (by unfold QueueWord; omega))
  have heng : t.engine = m.engine := by rw [hshow]; rfl
  refine ⟨⟨?_, ?_, ?_⟩, ?_, ?_, ?_⟩
  · rw [heng, hme, hqe]
    rfl
  · rw [hshow, peek_poke_same _ _ _ (by decide)]
  · refine snapshotShown_congr hq (by rw [heng, hmqueue]) fun a ha => hout a ?_ ?_
    · unfold QueueWord at ha; omega
    · unfold QueueWord at ha; omega
  · intro a ha
    refine (hout a (fun h => ha (.inr (.inr h))) fun h => ha (.inr (.inl h))).trans (hqk a fun h => ha (.inl h))
  · refine hqshows.trans (hms.keep ?_ ?_ |>.trans (.refl _))
    · rw [hshow]; rfl
    · rw [hshow]; exact peek_poke_other _ _ _ _ (by decide)
  · rw [hshow, hme, hqe]
    rfl

end Sys2Proof.Machine.State

namespace Sys2Proof.Machine.State

variable {s t u w : State} {c : Ctx} {l : Fin 32} {i : Fin 16}

/-! ## One record among several -/

/-- A list of one record is that record. -/
theorem recorded_of_recordedAll {r : Record} (h : s.RecordedAll t i [r]) : s.Recorded t i r := by
  obtain ⟨hwords, hheads, hcoll⟩ := h
  obtain ⟨hhead, hmirror⟩ := hheads (by simp)
  rw [recordWords_singleton_length] at hwords hhead hmirror
  rw [recordWords_singleton_length] at hcoll
  rw [recordWords_singleton] at hwords
  exact ⟨hwords, hhead, hmirror, hcoll⟩

theorem recordWords_singleton_iff {r : Record} {a : Nat} : s.RecordWords i [r] a ↔ s.RecordWord i r.length a := by
  simp [RecordWords, recordWords_singleton_length]

theorem roomForAll_singleton {r : Record} : s.RoomForAll i [r] ↔ s.RoomFor i r.length := by
  simp [RoomForAll, recordWords_singleton_length]

/-- Records stand while their words and the counts stand. -/
theorem recordedAll_after {rs : List Record} (h : s.RecordedAll w i rs) (hc : t.coll = w.coll)
    (hk : ∀ a, s.RecordWords i rs a → t.peek a = w.peek a) : s.RecordedAll t i rs := by
  obtain ⟨hwords, hheads, hcoll⟩ := h
  refine ⟨fun j hj => ?_, fun hne => ⟨?_, ?_⟩, hc.trans hcoll⟩
  · have hne : rs ≠ [] := by rintro rfl; simp [recordWords] at hj
    exact (hk _ ⟨hne, .inl ⟨by omega, by omega⟩⟩).trans (hwords j hj)
  · exact (hk _ ⟨hne, .inr (.inl rfl)⟩).trans (hheads hne).1
  · exact (hk _ ⟨hne, .inr (.inr (.inl rfl))⟩).trans (hheads hne).2

theorem recordedAll_congr {rs : List Record} (hc : t.coll = s.coll) (hs : t.settings = s.settings)
    (ht : t.time.timestamp = s.time.timestamp) : t.RecordedAll u i rs ↔ s.RecordedAll u i rs := by
  simp only [RecordedAll, recordWords_congr ht, segAddr, hc, hs]

theorem roomForAll_congr {rs : List Record} (hc : t.coll = s.coll) (hs : t.settings = s.settings)
    (ht : t.time.timestamp = s.time.timestamp) : t.RoomForAll i rs ↔ s.RoomForAll i rs := by
  simp only [RoomForAll, recordWords_congr ht, roomFor_congr hc hs]

theorem recordWords_congr_iff {rs : List Record} (hc : t.coll = s.coll) (hs : t.settings = s.settings)
    (ht : t.time.timestamp = s.time.timestamp) (a : Nat) : t.RecordWords i rs a ↔ s.RecordWords i rs a := by
  simp only [RecordWords, recordWords_congr ht, recordWord_congr hc hs]

/-! ## Run ends (R20) -/

/-- The records that a run's end offers. -/
def runEndRecords (c : Ctx) (o : ListOutcome) (failing : Option StepOutcome) (addr : Option Nat) : List Record :=
  if c.endRecord then [listEndRecord c o failing addr] else []

/-- A record offered or not. -/
theorem offerIf_recorded {b : Bool} {r : Record} (hc : u.coll = s.coll) (hs : u.settings = s.settings)
    (ht : u.time.timestamp = s.time.timestamp) (hroom : s.RoomForAll i (if b then [r] else []))
    (hw : w = if b then u.offer r else u) :
    s.RecordedAll w i (if b then [r] else []) ∧ u.KeepsWords w (s.RecordWords i (if b then [r] else [])) ∧
      w = { u with mem := w.mem, coll := w.coll } := by
  cases b with
  | false =>
    rw [if_neg (by decide)] at *
    subst hw
    exact ⟨.nil hc, .refl w _, rfl⟩
  | true =>
    rw [if_pos rfl] at *
    obtain ⟨hrec, hkeep, heq⟩ := offer_from hc hs ht (roomForAll_singleton.1 hroom)
    rw [← hw] at hrec hkeep heq
    exact ⟨recordedAll_singleton hrec, hkeep.mono fun a h => recordWords_singleton_iff.2 h, by rw [heq]⟩

/-- The words of a run's end before its record: run count, last outcome and last end time. -/
def runEndShown (s : State) (l : Fin 32) (o : ListOutcome) : State :=
  ((s.bumpRunCount l).setLastOutcome l o).poke (dirAddr l + 3) s.time.timestamp

theorem runEndShown_words (s : State) (l : Fin 32) (o : ListOutcome) :
    (s.runEndShown l o).peek (dirAddr l + 2) =
        setField (s.peek (dirAddr l + 2)) 0 16 (satInc 65535 (field (s.peek (dirAddr l + 2)) 0 16)) ∧
      (s.runEndShown l o).peek (outcomeAddr l) =
        setField (s.peek (outcomeAddr l)) (4 * (l.val % 8)) 4 o.code ∧
      (s.runEndShown l o).peek (dirAddr l + 3) = s.time.timestamp ∧
      s.KeepsWords (s.runEndShown l o) (fun a => a = dirAddr l + 2 ∨ a = dirAddr l + 3 ∨ a = outcomeAddr l) ∧
      s.runEndShown l o = { s with mem := (s.runEndShown l o).mem } := by
  have hd := dirAddr_bounds l
  have ho := outcomeAddr_bounds l
  have hm : Config.memoryWords = 0x8000 := rfl
  have hbump := peek_bumpHalf s (dirAddr l + 2) 0 (by omega)
  have hbk := bumpHalf_keepsWords s (dirAddr l + 2) 0
  have hbeq : s.bumpHalf (dirAddr l + 2) 0 = { s with mem := (s.bumpHalf (dirAddr l + 2) 0).mem } := rfl
  unfold runEndShown bumpRunCount setLastOutcome
  generalize s.bumpHalf (dirAddr l + 2) 0 = u at *
  change _ ∧ _ ∧ _ ∧ s.KeepsWords ((u.poke (outcomeAddr l) (setField (u.peek (outcomeAddr l)) (4 * (l.val % 8)) 4 o.code)).poke
    (dirAddr l + 3) s.time.timestamp) _ ∧ _
  refine ⟨?_, ?_, peek_poke_same _ _ _ (by omega), ?_, by rw [hbeq]; rfl⟩
  · exact (peek_poke_other _ _ _ _ (by omega)).trans ((peek_poke_other _ _ _ _ (by show _ ≠ outcomeAddr l; omega)).trans hbump)
  · refine (peek_poke_other _ _ _ _ (by omega)).trans ((peek_poke_same _ _ _ (by show outcomeAddr l < _; omega)).trans ?_)
    exact congrArg (setField · (4 * (l.val % 8)) 4 o.code) (hbk _ (by show outcomeAddr l ≠ _; omega))
  · intro a ha
    rw [peek_poke_other _ _ _ _ (by omega), peek_poke_other _ _ _ _ (by omega)]
    exact hbk a (by omega)

theorem heldOf_congr (hr : t.req.inflight = s.req.inflight) (k : HeldKind) : t.heldOf k = s.heldOf k := by
  rw [heldOf, heldOf, hr]

theorem heldWord_congr (hr : t.req.inflight = s.req.inflight) {k : HeldKind} {a : Nat} : t.HeldWord k a ↔ s.HeldWord k a := by
  rw [HeldWord, HeldWord, heldOf_congr hr]

/-- What completions make of the Wake Unit depends on the slots, and on that unit, the level and the masks. -/
theorem wakeAfterHeld_congr {v : State} (hslots : ∀ a, 0x100 ≤ a → a < 0x180 → t.peek a = s.peek a)
    (hw : u.wake = v.wake) (hd : u.duty.shed = v.duty.shed) (hs : u.settings = v.settings) (es : List HeldRequest) :
    t.wakeAfterHeld u es = s.wakeAfterHeld v es := by
  have hstate (k : Fin 16) : slotState t.mem k = slotState s.mem k := by
    have := slotAddr_bounds k
    exact slotState_congr (hslots _ (by omega) (by omega))
  simp only [wakeAfterHeld, hstate, raised_congr hw hd hs, hw]

/-- What the end of a run leaves, but for the engine state's move (R20). -/
theorem finishRun_over {o : ListOutcome} {failing : Option StepOutcome} {addr : Option Nat}
    (hroom : s.RoomForAll i (runEndRecords c o failing addr)) (ht : t = s.finishRun c o failing addr) :
    s.RunShown t c.list o ∧ t.peek 0x45 = 0 ∧ s.RecordedAll t i (runEndRecords c o failing addr) ∧ s.CutsDone t o ∧
      s.KeepsWords t (fun a =>
        RunEndWord c.list a ∨ s.HeldWord .cut a ∨ s.RecordWords i (runEndRecords c o failing addr) a) ∧
      t = { s.heldGone .cut with
        mem := t.mem, coll := t.coll
        engine := { s.engine with ctx := none, cuts := 0, completed := s.engine.completed + 1 } } := by
  have hd := dirAddr_bounds c.list
  have ho := outcomeAddr_bounds c.list
  obtain ⟨h2, hout, h3, hk1, he1⟩ := runEndShown_words s c.list o
  have hfin : t = (fun x : State => (x.setEngine { x.engine with ctx := none, cuts := 0 }).showRunning)
      ((fun x : State => (x.setEngine { x.engine with completed := x.engine.completed + 1 }).showCompleted.completeHeld
          .cut .ok (BitVec.ofNat 32 o.code))
        (if c.endRecord then (s.runEndShown c.list o).offer (listEndRecord c o failing addr)
          else s.runEndShown c.list o)) := ht
  generalize s.runEndShown c.list o = a at *
  obtain ⟨hrec, hk2, he2⟩ := offerIf_recorded (s := s) (u := a) (b := c.endRecord) (r := listEndRecord c o failing addr)
    (i := i) (by rw [he1]) (by rw [he1]) (by rw [he1]) hroom rfl
  generalize (if c.endRecord then a.offer (listEndRecord c o failing addr) else a) = b at *
  have hbe : b.engine = s.engine := by rw [he2, he1]
  dsimp only at hfin
  rw [hbe] at hfin
  have hk3 : b.KeepsWords (b.setEngine { s.engine with completed := s.engine.completed + 1 }).showCompleted (· = 0x44) :=
    poke_keepsWords _ _ _
  have h44 : (b.setEngine { s.engine with completed := s.engine.completed + 1 }).showCompleted.peek 0x44 =
      s.engine.completed + 1 := peek_poke_same _ _ _ (by decide)
  have he3 : (b.setEngine { s.engine with completed := s.engine.completed + 1 }).showCompleted =
      { b with
        mem := (b.setEngine { s.engine with completed := s.engine.completed + 1 }).showCompleted.mem
        engine := { s.engine with completed := s.engine.completed + 1 } } := rfl
  generalize (b.setEngine { s.engine with completed := s.engine.completed + 1 }).showCompleted = d at *
  have hdeng : d.engine = { s.engine with completed := s.engine.completed + 1 } := by rw [he3]
  have hdreq : d.req = s.req := by rw [he3, he2, he1]
  have hk4 := completeHeld_keepsWords d .cut .ok (BitVec.ofNat 32 o.code)
  have hcuts := completeHeld_done d .cut .ok (BitVec.ofNat 32 o.code)
  have he4 := completeHeld_eq d .cut .ok (BitVec.ofNat 32 o.code)
  generalize d.completeHeld .cut .ok (BitVec.ofNat 32 o.code) = e at *
  have heeng : e.engine = { s.engine with completed := s.engine.completed + 1 } := by rw [he4]; exact hdeng
  rw [heeng] at hfin
  have hk5 : e.KeepsWords t (· = 0x45) := by rw [hfin]; exact poke_keepsWords _ _ _
  have h45 : t.peek 0x45 = 0 := by rw [hfin]; exact peek_poke_same _ _ _ (by decide)
  have hrecs (x : Nat) (hx : s.RecordWords i (runEndRecords c o failing addr) x) :
      0x2000 ≤ x ∨ x = 0x9B ∨ x = 0xA0 ∨ x = 0xA1 := RecordWords.place hroom hx
  have hheld (x : Nat) (hx : d.HeldWord .cut x) : s.HeldWord .cut x := (heldWord_congr (by rw [hdreq])).1 hx
  have hend (x : Nat) (hx : x ≠ 0x45) (hnot : x < 0x100 ∨ 0x180 ≤ x) : t.peek x = d.peek x :=
    (hk5 x hx).trans (hk4 x fun h => by have := heldWord_bounds h; omega)
  have hdir (x : Nat) (hx : x ≠ 0x45 ∧ x ≠ 0x44) (hnot : x < 0x9B ∨ (0xA2 ≤ x ∧ x < 0x100) ∨ (0x180 ≤ x ∧ x < 0x2000)) :
      t.peek x = a.peek x :=
    (hend x hx.1 (by omega)).trans ((hk3 x hx.2).trans (hk2 x fun h => by have := hrecs x h; omega))
  have hslots (x : Nat) (hlo : 0x100 ≤ x) (hhi : x < 0x180) : d.peek x = s.peek x :=
    (hk3 x (by omega)).trans ((hk2 x fun h => by have := hrecs x h; omega).trans (hk1 x (by omega)))
  have hdone : s.HeldDone e .cut .ok (BitVec.ofNat 32 o.code) := by
    refine heldDone_since hcuts (by rw [hdreq]) fun x hx => ?_
    have := heldWord_bounds hx
    exact hslots x this.1 this.2
  refine ⟨⟨(hdir _ (by omega) (by omega)).trans h2, (hdir _ (by omega) (by omega)).trans hout,
    (hdir _ (by omega) (by omega)).trans h3, (hend _ (by omega) (by omega)).trans h44⟩, h45, ?_, ?_, ?_, ?_⟩
  · refine recordedAll_after hrec (by rw [hfin, showRunning, poke]; simp; rw [he4]; simp [heldGone]; rw [he3]) fun x hx => ?_
    have := hrecs x hx
    exact (hend x (by omega) (by omega)).trans (hk3 x (by omega))
  · refine heldDone_congr hdone fun x hx => hk5 x ?_
    have := heldWord_bounds hx
    omega
  · intro x hx
    simp only [not_or] at hx
    obtain ⟨hx1, hx2, hx3⟩ := hx
    simp only [RunEndWord, not_or] at hx1
    obtain ⟨hxa, hxb, hxc, hxd, hxe⟩ := hx1
    exact (hk5 x hxe).trans ((hk4 x fun h => hx2 (hheld x h)).trans ((hk3 x hxd).trans ((hk2 x hx3).trans
      (hk1 x (by omega)))))
  · have hwake : d.wakeAfterHeld d (d.heldOf .cut) = s.wakeAfterHeld s (s.heldOf .cut) := by
      rw [heldOf_congr (s := s) (by rw [hdreq])]
      exact wakeAfterHeld_congr hslots (by rw [he3, he2, he1]) (by rw [he3, he2, he1]) (by rw [he3, he2, he1]) _
    rw [heldGone, hwake, reqWithout, hdreq] at he4
    rw [hfin, he4, he3, he2, he1]
    rfl

end Sys2Proof.Machine.State

namespace Sys2Proof.Machine.State

variable {s t u v w : State} {c : Ctx} {l : Fin 32} {i : Fin 16} {rs qs : List Record}

/-! ## Records behind records -/

/-- Behind records that stand there is room for the further ones (R107). -/
theorem roomForAll_behind (h1 : s.RecordedAll v i rs) (hs : v.settings = s.settings)
    (ht : v.time.timestamp = s.time.timestamp) (hroom : s.RoomForAll i (rs ++ qs)) : v.RoomForAll i qs := by
  intro hne
  obtain ⟨-, -, hcoll⟩ := h1
  obtain ⟨hg, hi, hst, hfit⟩ := hroom (by simp [hne])
  rw [recordWords_append, List.length_append] at hfit
  have hused : v.coll.used = s.coll.used + (s.recordWords rs).length := by rw [hcoll]
  refine ⟨by simpa [GeometryOk, hs] using hg, by rwa [hs], by rw [hcoll]; exact hst, ?_⟩
  rw [recordWords_congr ht, hs, hused]
  omega

/-- The words of further records are words of all of them. -/
theorem recordWords_behind (h1 : s.RecordedAll v i rs) (hs : v.settings = s.settings)
    (ht : v.time.timestamp = s.time.timestamp) {a : Nat} (ha : v.RecordWords i qs a) : s.RecordWords i (rs ++ qs) a := by
  obtain ⟨-, -, hcoll⟩ := h1
  obtain ⟨hne, ha⟩ := ha
  have hused : v.coll.used = s.coll.used + (s.recordWords rs).length := by rw [hcoll]
  have hseg (k : Nat) : v.segAddr k = s.segAddr k := by simp [segAddr, hs]
  refine ⟨by simp [hne], ?_⟩
  rw [recordWords_append, List.length_append]
  unfold RecordWord at ha ⊢
  rw [hseg, hused, recordWords_congr ht] at ha
  omega

theorem recordWords_before {a : Nat} (ha : s.RecordWords i rs a) : s.RecordWords i (rs ++ qs) a := by
  obtain ⟨hne, ha⟩ := ha
  refine ⟨by simp [hne], ?_⟩
  rw [recordWords_append, List.length_append]
  unfold RecordWord at ha ⊢
  omega

/-- Records behind records: what stands is all of them, in their order. -/
theorem RecordedAll.append (h1 : s.RecordedAll v i rs) (h2 : v.RecordedAll t i qs) (hs : v.settings = s.settings)
    (ht : v.time.timestamp = s.time.timestamp) (hroom : s.RoomForAll i (rs ++ qs))
    (hk : ∀ a, s.RecordWords i rs a → ¬ v.RecordWords i qs a → t.peek a = v.peek a) :
    s.RecordedAll t i (rs ++ qs) := by
  obtain ⟨hwords, hheads, hcoll⟩ := h1
  obtain ⟨kwords, kheads, kcoll⟩ := h2
  have hused : v.coll.used = s.coll.used + (s.recordWords rs).length := by rw [hcoll]
  have hseg (k : Nat) : v.segAddr k = s.segAddr k := by simp [segAddr, hs]
  rw [hseg, hused, recordWords_congr ht] at kwords
  rw [hseg, hused, recordWords_congr ht] at kheads
  rw [hused, recordWords_congr ht] at kcoll
  refine ⟨fun j hj => ?_, fun hne => ?_, ?_⟩
  · rw [recordWords_append] at hj ⊢
    by_cases hjs : j < (s.recordWords rs).length
    · have hne : rs ≠ [] := by rintro rfl; simp [recordWords] at hjs
      obtain ⟨hlow, -⟩ := (hroom (by simp [hne])).bounds
      rw [hk _ ⟨hne, .inl ⟨by omega, by omega⟩⟩ ?_, hwords j hjs]
      · simp [List.getD_eq_getElem?_getD, List.getElem?_append_left hjs]
      · rintro ⟨-, h⟩
        unfold RecordWord at h
        rw [hseg, hused] at h
        omega
    · obtain ⟨m, rfl⟩ := Nat.exists_eq_add_of_le (Nat.not_lt.mp hjs)
      rw [List.length_append] at hj
      have := kwords m (by omega)
      rw [← Nat.add_assoc, Nat.add_assoc _ s.coll.used, this]
      simp [List.getD_eq_getElem?_getD, List.getElem?_append_right]
  · by_cases hq : qs = []
    · subst hq
      rw [List.append_nil] at *
      have hnone (a : Nat) : ¬ v.RecordWords i [] a := fun h => h.1 rfl
      obtain ⟨hhead, hmirror⟩ := hheads hne
      exact ⟨(hk _ ⟨hne, .inr (.inl rfl)⟩ (hnone _)).trans hhead,
        (hk _ ⟨hne, .inr (.inr (.inl rfl))⟩ (hnone _)).trans hmirror⟩
    · obtain ⟨khead, kmirror⟩ := kheads hq
      rw [recordWords_append, List.length_append, List.length_append, khead, kmirror, hcoll]
      simp [Nat.add_assoc]
  · rw [kcoll, hcoll, recordWords_append, List.length_append, List.length_append]
    simp [add_assoc, BitVec.ofNat_add]

/-! ## The engine's move at a run's end (R11) -/

/-- Nothing is queued: the engine is IDLE. -/
theorem leaveRun_idle (hm : s.engine.mode = .running) (hq : s.engine.queue = []) : s.leaveRun = s.setMode .idle := by
  simp [leaveRun, hm, startNext, hq, startHeads]

theorem idleEngine_of_empty (hq : s.engine.queue = []) :
    s.idleEngine =
      { s.engine with mode := .idle, ctx := none, cuts := 0, completed := s.engine.completed + 1 } := by
  simp [idleEngine, hq]

/-- A run that ends with nothing queued and no hold leaves the engine IDLE (R11, R17, R20). -/
theorem endRun_over {o : ListOutcome} {failing : Option StepOutcome} {addr : Option Nat} (hctx : s.engine.ctx = some c)
    (hm : s.engine.mode = .running) (hq : s.engine.queue = [])
    (hroom : s.RoomForAll i (runEndRecords c o failing addr)) (ht : t = s.endRun o failing addr) :
    s.RunShown t c.list o ∧ t.peek 0x45 = 0 ∧ t.peek 0x40 = t.word40 ∧
      s.RecordedAll t i (runEndRecords c o failing addr) ∧ s.CutsDone t o ∧
      s.KeepsWords t (fun a =>
        RunEndWord c.list a ∨ a = 0x40 ∨ s.HeldWord .cut a ∨ s.RecordWords i (runEndRecords c o failing addr) a) ∧
      t = { s.heldGone .cut with mem := t.mem, coll := t.coll, engine := s.idleEngine } := by
  obtain ⟨⟨h2, hout, h3, h44⟩, h45, hrec, hcuts, hkeep, heq⟩ := finishRun_over hroom rfl
  have hend : t = (s.finishRun c o failing addr).leaveRun := by rw [ht]; simp only [endRun, hctx]
  generalize s.finishRun c o failing addr = w at *
  rw [leaveRun_idle (by rw [heq]; exact hm) (by rw [heq]; exact hq)] at hend
  have hk : w.KeepsWords t (· = 0x40) := hend ▸ setMode_keepsWords w .idle
  have hshown : t.peek 0x40 = t.word40 := hend ▸ setMode_shown (s := w) .idle (by rw [heq]; simp [hm])
  have hmeq := setMode_eq w .idle
  rw [← hend] at hmeq
  have hd := dirAddr_bounds c.list
  have ho := outcomeAddr_bounds c.list
  refine ⟨⟨(hk _ (by omega)).trans h2, (hk _ (by omega)).trans hout, (hk _ (by omega)).trans h3,
    (hk _ (by omega)).trans h44⟩, (hk _ (by omega)).trans h45, hshown, ?_, ?_, (hkeep.trans hk).mono fun a h => ?_, ?_⟩
  · refine recordedAll_after hrec (by rw [hmeq]) fun x hx => hk x ?_
    have := RecordWords.place hroom hx
    omega
  · refine heldDone_congr hcuts fun x hx => hk x ?_
    have := heldWord_bounds hx
    omega
  · rcases h with (h | h | h) | h
    · exact .inl h
    · exact .inr (.inr (.inl h))
    · exact .inr (.inr (.inr h))
    · exact .inr (.inl h)
  · rw [idleEngine_of_empty hq, hmeq, heq]

/-- The run of a quiet end with no record. -/
theorem endRun_runOver {o : ListOutcome} {failing : Option StepOutcome} {addr : Option Nat} (hctx : s.engine.ctx = some c)
    (hquiet : s.EndsQuiet c) (ht : t = s.endRun o failing addr) :
    s.RunOver t c.list o ∧ t.peek 0x40 = t.word40 := by
  obtain ⟨hrec, hq, hm⟩ := hquiet
  have hnone : runEndRecords c o failing addr = [] := by simp [runEndRecords, hrec]
  obtain ⟨hshown, h45, h40, hall, hcuts, hkeep, heq⟩ :=
    endRun_over (i := 0) hctx hm hq (by rw [hnone]; exact fun h => absurd rfl h) ht
  rw [hnone] at hall hkeep
  have hcoll : t.coll = s.coll := by
    obtain ⟨-, -, h⟩ := hall
    rw [h]
    simp [recordWords]
  refine ⟨⟨hshown, h45, hcuts, hkeep.mono fun a h => ?_, ?_⟩, h40⟩
  · rcases h with h | h | h | h
    · exact .inl h
    · exact .inr (.inl h)
    · exact .inr (.inr h)
    · exact absurd rfl h.1
  · rw [heq, hcoll]
    rfl

/-- The run of a quiet end with its LIST_END record. -/
theorem endRun_runOverWith {o : ListOutcome} {failing : Option StepOutcome} {addr : Option Nat}
    (hctx : s.engine.ctx = some c) (hm : s.engine.mode = .running) (hq : s.engine.queue = []) (hend : c.endRecord = true)
    (hroom : s.RoomFor i 5) (ht : t = s.endRun o failing addr) :
    s.RunOverWith t c.list o i (listEndRecord c o failing addr) ∧ t.peek 0x40 = t.word40 := by
  have hone : runEndRecords c o failing addr = [listEndRecord c o failing addr] := by simp [runEndRecords, hend]
  obtain ⟨hshown, h45, h40, hall, hcuts, hkeep, heq⟩ :=
    endRun_over (i := i) hctx hm hq (by rw [hone]; exact roomForAll_singleton.2 hroom) ht
  rw [hone] at hall hkeep
  have hrec := recorded_of_recordedAll hall
  have hcoll : t.coll = s.collAfter (listEndRecord c o failing addr).length := hrec.2.2.2
  refine ⟨⟨hshown, h45, hrec, hcuts, hkeep.mono fun a h => ?_, ?_⟩, h40⟩
  · rcases h with h | h | h | h
    · exact .inl h
    · exact .inr (.inl h)
    · exact .inr (.inr (.inl h))
    · exact .inr (.inr (.inr (recordWords_singleton_iff.1 h)))
  · rw [heq, hcoll]

end Sys2Proof.Machine.State
end

section
/-! PROOFS. LIST_RUN, LIST_CUT, ENGINE_HOLD and ENGINE_RESUME (R10–R18, R181, R182; O19–O21). -/

namespace Sys2Proof.Machine.State

variable {s t u w : State} {c : Ctx} {l : Fin 32} {r : Taken} {e : QEntry} {rest : List QEntry}

/-! ## Starts (R10, R14) -/

theorem startRun_ctx (e : QEntry) (rest : List QEntry) :
    (s.startRun e rest).engine.ctx = some (s.freshCtx e.list e.source) := by
  obtain ⟨⟨heng, -, -⟩, -⟩ := startRun_starts (s := s) e rest rfl
  rw [heng]

/-- The head of the queue starts where its start address lies in the list area. -/
theorem startNext_of_good (hq : s.engine.queue = e :: rest) (hin : inListArea (readDir s.mem e.list).start) :
    s.startNext = s.startRun e rest := by
  have hctx := startRun_ctx (s := s) e rest
  unfold startNext
  rw [startHeads.eq_def]
  simp only [hq, List.length_cons, hctx]
  exact if_pos hin

/-- A lone entry with a start address outside the list area starts and ends at once. -/
theorem startNext_of_bad (hq : s.engine.queue = [e]) (hout : ¬ inListArea (readDir s.mem e.list).start) :
    s.startNext =
      ((s.startRun e []).finishRun (s.freshCtx e.list e.source) .badStep none
        (some (readDir s.mem e.list).start)).setMode .idle := by
  obtain ⟨⟨heng, -, -⟩, -⟩ := startRun_starts (s := s) e [] rfl
  have hqueue (a : Option Nat) :
      ((s.startRun e []).finishRun (s.freshCtx e.list e.source) .badStep none a).engine.queue = [] := by
    rw [finishRun_engine, heng]
  unfold startNext
  rw [startHeads.eq_def]
  simp only [hq, List.length_cons, startRun_ctx]
  rw [if_neg (show ¬ inListArea (s.freshCtx e.list e.source).addr from hout), startHeads.eq_def]
  simp only [hqueue]
  rfl

/-- A list to run that is enabled and stands nowhere is queued, and in IDLE it starts. -/
theorem trigger_queues (hen : (readDir s.mem l).enabled = true) (hnone : ∀ q ∈ s.engine.queue, q.list ≠ l) :
    s.trigger l .requested =
      (let t := s.setQueue (place { list := l, urgent := (readDir s.mem l).urgent, source := .requested } s.engine.queue)
        if s.engine.mode = .idle then t.startNext else t, .queued) := by
  have hshed : s.duty.shed.drops .requested = false := by cases s.duty.shed <;> rfl
  have hany : (s.engine.queue.any (·.list = l)) = false := by simpa using hnone
  unfold trigger
  simp [hen, hshed, hany, setQueue_engine]
  rfl

/-- An URGENT entry goes directly behind the last URGENT entry, or to the head (R7). -/
theorem insertUrgent_splits (e : QEntry) (q : List QEntry) :
    ∃ ahead behind, q = ahead ++ behind ∧ insertUrgent e q = ahead ++ e :: behind ∧ (∀ x ∈ behind, x.urgent = false) ∧
      ∀ x ∈ ahead.getLast?, x.urgent = true := by
  induction q with
  | nil => exact ⟨[], [], rfl, rfl, by simp, by simp⟩
  | cons x xs ih =>
    by_cases h : (x.urgent || xs.any (·.urgent)) = true
    · obtain ⟨ahead, behind, hxs, hins, hbehind, hlast⟩ := ih
      refine ⟨x :: ahead, behind, by rw [hxs]; rfl, by rw [insertUrgent, if_pos h, hins]; rfl, hbehind, ?_⟩
      cases ahead with
      | nil =>
        have hnone : xs.any (·.urgent) = false := by
          rw [show xs = behind from hxs]
          simpa using hbehind
        simpa [hnone] using h
      | cons y ys => simpa using hlast
    · refine ⟨[], x :: xs, rfl, by rw [insertUrgent, if_neg h]; rfl, ?_, by simp⟩
      simpa using h

/-! ## What a lone run with a bad start leaves (R14, R20) -/

/-- No request of the kind is held, so none completes. -/
theorem heldGone_of_none {k : HeldKind} (h : ∀ q ∈ s.req.inflight, q.kind ≠ k) : s.heldGone k = s := by
  have hnone : s.heldOf k = [] := List.filter_eq_nil_iff.2 fun q hq => by simpa using h q hq
  have hall : (s.req.inflight.filter fun q => q.kind ≠ k) = s.req.inflight :=
    List.filter_eq_self.2 fun q hq => by simpa using h q hq
  have hreq : s.reqWithout k = s.req := by rw [reqWithout, hall]
  have hwake : s.wakeAfterHeld s [] = s.wake := by simp [wakeAfterHeld]
  rw [heldGone, hreq, hnone, hwake]

theorem runShown_since {o : ListOutcome} (h : w.RunShown t l o) (h2 : w.peek (dirAddr l + 2) = s.peek (dirAddr l + 2))
    (hout : w.peek (outcomeAddr l) = s.peek (outcomeAddr l)) (ht : w.time.timestamp = s.time.timestamp)
    (hc : w.engine.completed = s.engine.completed) : s.RunShown t l o := by
  unfold RunShown at h ⊢
  rwa [h2, hout, ht, hc] at h

theorem runShown_congr {o : ListOutcome} (h : s.RunShown t l o) (hk : ∀ a, RunEndWord l a → u.peek a = t.peek a) :
    s.RunShown u l o := by
  obtain ⟨h2, hout, h3, h44⟩ := h
  exact ⟨(hk _ (.inl rfl)).trans h2, (hk _ (.inr (.inr (.inl rfl)))).trans hout, (hk _ (.inr (.inl rfl))).trans h3,
    (hk _ (.inr (.inr (.inr (.inl rfl))))).trans h44⟩

/-- No record: the Collection Unit stands. -/
theorem RecordedAll.nil_coll {i : Fin 16} (h : s.RecordedAll t i []) : t.coll = s.coll := by
  obtain ⟨-, -, hcoll⟩ := h
  rw [hcoll]
  simp [recordWords]

/-- A lone entry whose list starts outside the list area, and asks for no record: the run ends BAD_STEP, and the engine is
IDLE. -/
theorem startNext_of_bad_over (hq : s.engine.queue = [e])
    (hout : ¬ inListArea (readDir s.mem e.list).start) (hrec : (readDir s.mem e.list).endRecord = false)
    (hcut : ∀ q ∈ s.req.inflight, q.kind ≠ .cut) (ht : t = s.startNext) :
    s.RunShown t e.list .badStep ∧ t.peek 0x45 = 0 ∧ t.peek 0x40 = t.word40 ∧ t.SnapshotShown ∧
      s.KeepsWords t (fun a => StartWord a ∨ RunEndWord e.list a) ∧ t = { s with mem := t.mem, engine := s.idleEngine } := by
  rw [startNext_of_bad hq hout] at ht
  obtain ⟨⟨heng, -, hsnap⟩, hk1, -, he1⟩ := startRun_starts (s := s) e [] rfl
  generalize s.startRun e [] = w at *
  have hnorec : runEndRecords (s.freshCtx e.list e.source) .badStep none (some (readDir s.mem e.list).start) = [] := by
    simp [runEndRecords, freshCtx, hrec]
  obtain ⟨hrun, h45, hrecs, -, hk2, he2⟩ :=
    finishRun_over (s := w) (c := s.freshCtx e.list e.source) (i := 0) (o := .badStep) (failing := none)
      (addr := some (readDir s.mem e.list).start) (by rw [hnorec]; exact fun h => absurd rfl h) rfl
  generalize w.finishRun (s.freshCtx e.list e.source) .badStep none (some (readDir s.mem e.list).start) = v at *
  rw [hnorec] at hrecs hk2
  rw [heldGone_of_none (by rw [he1]; exact hcut)] at he2
  have hk3 := setMode_keepsWords v .idle
  have hshown := setMode_shown (s := v) .idle (by rw [he2, heng]; exact nofun)
  have he3 := setMode_eq v .idle
  rw [← ht] at hk3 hshown he3
  have hd := dirAddr_bounds e.list
  have ho := outcomeAddr_bounds e.list
  have hcoll : v.coll = s.coll := hrecs.nil_coll.trans (by rw [he1])
  have hmid (a : Nat) (ha : ¬ RunEndWord e.list a) (hheld : ¬ (0x100 ≤ a ∧ a < 0x180)) : v.peek a = w.peek a :=
    hk2 a fun h => by
      rcases h with h | h | h
      · exact ha h
      · exact hheld (heldWord_bounds h)
      · exact h.1 rfl
  refine ⟨runShown_congr (runShown_since hrun (hk1 _ fun h => ?_) (hk1 _ fun h => ?_) (by rw [he1]) (by rw [heng])) fun a ha =>
      hk3 a fun h => ?_, (hk3 _ (by omega)).trans h45, hshown,
    snapshotShown_congr hsnap (by rw [he3, he2]) fun a ha => (hk3 a ?_).trans (hmid a (fun h => ?_) ?_), fun a ha => ?_, ?_⟩
  · have := startWord_bounds h; omega
  · have := startWord_bounds h; omega
  · have := runEndWord_bounds ha; omega
  · unfold QueueWord at ha; omega
  · have := runEndWord_bounds h; unfold QueueWord at ha; omega
  · unfold QueueWord at ha; omega
  · simp only [not_or] at ha
    obtain ⟨hs, hr⟩ := ha
    refine (hk3 a fun h => hs (.inr (.inl h))).trans ?_
    refine Eq.trans ?_ (hk1 a hs)
    refine hk2 a fun h => ?_
    rcases h with h | ⟨q, hq, -⟩ | h
    · exact hr h
    · rw [heldOf_congr (s := s) (by rw [he1])] at hq
      obtain ⟨hin, hkind⟩ := List.mem_filter.1 hq
      exact absurd (of_decide_eq_true hkind) (hcut q hin)
    · exact h.1 rfl
  · rw [he3, he2, hcoll, he1, heng]
    rfl

/-- In IDLE, with nothing queued, the list that LIST_RUN names is the only entry. -/
theorem runList_of_idle (hen : (readDir s.mem l).enabled = true) (hm : s.engine.mode = .idle) (hq : s.engine.queue = []) :
    s.runList l =
      ((s.setQueue [{ list := l, urgent := (readDir s.mem l).urgent, source := .requested }]).startNext,
        some (.ok, 1)) := by
  have hplace (e : QEntry) : place e [] = [e] := by simp [place, insertUrgent]
  rw [runList, trigger_queues hen (by simp [hq]), hq, hplace]
  simp only [hm, if_true]
  rfl

end Sys2Proof.Machine.State

open Sys2Proof.Machine State in
/-- Settles O19: the trigger's answers one by one; in IDLE the lone entry starts, or ends at once. -/
theorem listRunByItsAnswer : Obligations.ListRunByItsAnswer := by
  intro s r h _ l d e
  have hd := dirAddr_bounds l
  have hqueue : Spares r QueueWord := spares_of_bounds fun a ha => by unfold QueueWord at ha; omega
  have hstart : Spares r StartWord := spares_of_bounds fun a ha => by have := startWord_bounds ha; omega
  refine ⟨fun hdis => ?_, fun hen hin => ?_, fun hen hnone hm => ?_, fun hen hm hq hgood => ?_, fun hen hm hq hbad hrec hcut => ?_⟩
  · have hwork : s.runList l = (s, some (.notActive, 0)) := by
      simp only [runList, trigger]
      rw [if_pos (by simpa using hdis)]
      rfl
    exact answers_of_idle h rfl hwork
  · have hshed : s.duty.shed.drops .requested = false := by cases s.duty.shed <;> rfl
    have hwork : s.runList l = (s.bumpCoalesced l, some (.ok, 2)) := by
      simp only [runList, trigger]
      rw [if_neg (by simpa using hen), if_neg (by simp [hshed]), if_pos ((any_list_iff _ _).2 hin)]
      rfl
    have hspare : Spares r (· = dirAddr l + 2) := spares_word (by omega)
    refine answers_of_work h rfl hwork s hspare (bumpHalf_keepsWords _ _ _) rfl rfl (held := s.req.inflight) rfl
      fun t ht => (ht.peek hspare rfl).trans (peek_bumpHalf _ _ _ ?_)
    exact Nat.lt_of_lt_of_le hd.2 (by decide) |>.trans_le' (by omega)
  · have hwork : s.runList l = (s.setQueue (place e s.engine.queue), some (.ok, 1)) := by
      rw [runList, trigger_queues hen hnone]
      simp only [hm, if_false]
      rfl
    have hkeep := setQueue_keepsWords s (place e s.engine.queue)
    have heq := setQueue_eq s (place e s.engine.queue)
    have hshown := setQueue_shown s (place e s.engine.queue)
    generalize s.setQueue (place e s.engine.queue) = w at *
    obtain ⟨t, ht, hcomp, hqueued, hsnap⟩ := answers_of_work (cmd := .listRun) (work := fun r s => s.runList r.list) h rfl
      hwork { s with engine := { s.engine with queue := place e s.engine.queue } } hqueue hkeep heq rfl
      (held := s.req.inflight) rfl (Q := fun t => t.engine.queue = place e s.engine.queue ∧ t.SnapshotShown) fun t ht =>
        ⟨by rw [ht.2, heq], snapshotShown_congr hshown (by rw [ht.2]) fun a ha => ht.peek hqueue ha⟩
    refine ⟨t, ht, by rwa [hqueued], hsnap, fun hur => ?_, fun hur => ?_⟩
    · rw [hqueued, place, if_neg (by simpa [e] using hur)]
    · rw [hqueued, place, if_pos (by simpa [e] using hur)]
      exact insertUrgent_splits e s.engine.queue
  · have hwork := runList_of_idle hen hm hq
    have hqk := setQueue_keepsWords s [e]
    have hqe := setQueue_eq s [e]
    generalize s.setQueue [e] = q at *
    have hdir : readDir q.mem l = d := readDir_congr (hqk _ fun ha => by unfold QueueWord at ha; omega)
      (hqk _ fun ha => by unfold QueueWord at ha; omega)
    rw [startNext_of_good (e := e) (rest := []) (by rw [hqe]) (by rw [hdir]; exact hgood)] at hwork
    obtain ⟨hstarts, hkeep, hshows, heq⟩ := startRun_starts (s := q) e [] rfl
    generalize q.startRun e [] = w at *
    have hfresh : q.freshCtx l .requested = s.freshCtx l .requested := by
      rw [freshCtx, hdir, hqe]
      rfl
    have hstarted : s.Starts w l .requested [] := by
      obtain ⟨heng, h45, hsnap⟩ := hstarts
      rw [hfresh, hqe] at heng
      rw [hfresh] at h45
      exact ⟨heng, h45, hsnap⟩
    have h40 : w.peek 0x40 = w.word40 := by
      refine hshows.shown fun hw => ?_
      have hmode := (word40_eq_iff.1 hw).1
      rw [hstarted.1, hqe, hm] at hmode
      exact absurd hmode (show ¬ EngineMode.running.code % 4 = EngineMode.idle.code % 4 by decide)
    obtain ⟨t, ht, hcomp, heng, hst, hshown⟩ := answers_of_work (cmd := .listRun) (work := fun r s => s.runList r.list) h rfl
      hwork { s with engine := w.engine } hstart
      ((hqk.mono fun a ha => .inl ha).trans hkeep |>.mono fun a ha => ha.elim id id) (by rw [heq, hqe]) rfl
      (held := s.req.inflight) rfl
      (Q := fun t => t.engine = w.engine ∧ s.Starts t l .requested [] ∧ t.peek 0x40 = t.word40) fun t ht => by
        refine ⟨by rw [ht.2], ⟨by rw [ht.2]; exact hstarted.1, ?_, ?_⟩, ?_⟩
        · exact (ht.peek hstart (.inr (.inr rfl))).trans hstarted.2.1
        · exact snapshotShown_congr hstarted.2.2 (by rw [ht.2]) fun a ha => ht.peek hstart (.inl ha)
        · rw [ht.word40, ht.peek hstart (.inr (.inl rfl)), h40]
    exact ⟨t, ht, by rwa [heng], hst, hshown⟩
  · have hwork := runList_of_idle hen hm hq
    have hqk := setQueue_keepsWords s [e]
    have hqe := setQueue_eq s [e]
    generalize s.setQueue [e] = q at *
    have hdir : readDir q.mem l = d := readDir_congr (hqk _ fun ha => by unfold QueueWord at ha; omega)
      (hqk _ fun ha => by unfold QueueWord at ha; omega)
    obtain ⟨hrun, h45, h40, hsnap, hkeep, heq⟩ := startNext_of_bad_over (s := q) (e := e) (by rw [hqe])
      (by rw [hdir]; exact hbad) (by rw [hdir]; exact hrec) (by rw [hqe]; exact hcut) rfl
    generalize q.startNext = w at *
    have ho := outcomeAddr_bounds l
    have hrun' : s.RunShown w l .badStep := runShown_since hrun
      (hqk _ fun ha => by unfold QueueWord at ha; omega) (hqk _ fun ha => by unfold QueueWord at ha; omega) (by rw [hqe])
      (by rw [hqe])
    have hsp : Spares r fun a => StartWord a ∨ RunEndWord l a := hstart.or (spares_of_bounds fun a ha => by
      have := runEndWord_bounds ha; omega)
    refine answers_of_work (cmd := .listRun) (work := fun r s => s.runList r.list) h rfl
      hwork { s with engine := s.idleEngine } hsp
      ((hqk.mono fun a ha => .inl (.inl ha)).trans hkeep |>.mono fun a ha => ha.elim id id) ?_ rfl
      (held := s.req.inflight) rfl fun t ht => ⟨runShown_congr hrun' fun a ha => ht.peek hsp (.inr ha), ?_, ?_, ?_⟩
    · rw [heq, hqe]
      rfl
    · rw [ht.peek hsp (.inl (.inr (.inr rfl))), h45]
    · rw [ht.word40, ht.peek hsp (.inl (.inr (.inl rfl))), h40]
    · exact snapshotShown_congr hsnap (by rw [ht.2]) fun a ha => ht.peek hsp (.inl (.inl ha))

namespace Sys2Proof.Machine.State

variable {s t u w : State} {c : Ctx} {l : Fin 32} {r : Taken} {o : ListOutcome} {k : HeldKind}

/-! ## A cut that ends the run at once (R17, R182) -/

/-- One more request held behind the others, in a slot of its own: REQUEST is raised for any of them. -/
theorem wakeAfterHeld_append (s : State) (es : List HeldRequest) (e : HeldRequest) (hslot : ∀ f ∈ es, f.slot ≠ e.slot) :
    s.wakeAfterHeld s (es ++ [e]) = { s with wake := s.wakeAfterHeld s es }.wakeDone e.slot e.wake := by
  have hfind (j : Fin 16) : ((es ++ [e]).find? fun f => f.slot = j).any (·.wake) =
      if j = e.slot then e.wake else (es.find? fun f => f.slot = j).any (·.wake) := by
    rw [List.find?_append]
    by_cases hj : j = e.slot
    · subst hj
      have hnone : (es.find? fun f => f.slot = e.slot) = none :=
        List.find?_eq_none.2 fun f hf => by simpa using hslot f hf
      simp [hnone]
    · have : ([e].find? fun f => f.slot = j) = none := by simp [Ne.symm hj]
      simp [this, hj]
  have hnot : ¬ (es.find? fun f => f.slot = e.slot).any (·.wake) = true := by
    have hnone : (es.find? fun f => f.slot = e.slot) = none :=
      List.find?_eq_none.2 fun f hf => by simpa using hslot f hf
    simp [hnone]
  by_cases hmine : slotState s.mem e.slot = 2 ∧ e.wake = true
  · have hex : ∃ j : Fin 16, slotState s.mem j = 2 ∧ ((es ++ [e]).find? fun f => f.slot = j).any (·.wake) = true :=
      ⟨e.slot, hmine.1, by rw [hfind, if_pos rfl]; exact hmine.2⟩
    rw [wakeDone, if_pos hmine, wakeAfterHeld, if_pos hex]
    unfold wakeAfterHeld
    split
    · exact (raised_raised (s := s) (t := { s with wake := s.raised .request }) (c := .request) rfl rfl rfl).symm
    · rfl
  · have hiff : (∃ j : Fin 16, slotState s.mem j = 2 ∧ ((es ++ [e]).find? fun f => f.slot = j).any (·.wake) = true) ↔
        ∃ j : Fin 16, slotState s.mem j = 2 ∧ (es.find? fun f => f.slot = j).any (·.wake) = true := by
      refine exists_congr fun j => and_congr_right fun hj => ?_
      rw [hfind]
      by_cases hje : j = e.slot
      · subst hje
        rw [if_pos rfl]
        exact ⟨fun hw => absurd ⟨hj, hw⟩ hmine, fun hw => absurd hw hnot⟩
      · rw [if_neg hje]
    rw [wakeDone, if_neg hmine]
    simp only [wakeAfterHeld, hiff]

/-- The cut of a run, held in flight: cut requested, one more pending cut, and the request behind the others. -/
def cutting (s : State) (r : Taken) (c : Ctx) : State :=
  (s.setEngine { s.engine with cuts := s.engine.cuts + 1, ctx := some { c with cut := true } }).holdInFlight r .cut

theorem cutRun_eq :
    s.cutRun r c =
      match c.phase with
      | .waiting _ => (s.cutting r c).finishStep none (c.addr + 1)
      | .spacing st _ _ => (s.cutting r c).readComplete st .notReady 0
      | .between => (s.cutting r c).endRun .cut none c.lastDone
      | .bus _ => s.cutting r c := rfl

theorem cutRun_ends
    (hphase : c.phase = .between ∨ (∃ due, c.phase = .waiting due) ∨
      ∃ st left due, c.phase = .spacing st left due ∧ st.ready = .retry ∧ st.record = false) :
    ∃ a, s.cutRun r c = (s.cutting r c).endRun .cut none a := by
  have hctx : (s.cutting r c).engine.ctx = some { c with cut := true } := rfl
  have hfinish (n : Nat) : (s.cutting r c).finishStep none n = (s.cutting r c).endRun .cut none (some c.addr) := by
    simp only [finishStep, hctx, if_true]
  rcases hphase with h | ⟨due, h⟩ | ⟨st, left, due, h, hready, hrec⟩
  · exact ⟨c.lastDone, by rw [cutRun_eq, h]⟩
  · exact ⟨some c.addr, by rw [cutRun_eq, h]; exact hfinish _⟩
  · refine ⟨some c.addr, ?_⟩
    have hkept (w : State) : (w.deliverTo st.watch .notReady st.wide 0).1 = w := by
      unfold deliverTo
      split
      · rfl
      · rfl
    rw [cutRun_eq, h]
    simp only [readComplete, hkept, hrec, hready, policyEnd]
    exact hfinish _

/-- The run cut at once, as the request's completion shows it. -/
theorem cut_completes (h : s.Carries r .listCut) (hctx : s.engine.ctx = some c) (hlist : c.list = r.list)
    (hphase : c.phase = .between ∨ (∃ due, c.phase = .waiting due) ∨
      ∃ st left due, c.phase = .spacing st left due ∧ st.ready = .retry ∧ st.record = false) (hquiet : s.EndsQuiet c) :
    Answers (exec .listCut s) fun t =>
      s.Completes t r .ok 5 (fun a => RunEndWord r.list a ∨ a = 0x40 ∨ s.HeldWord .cut a)
          { s.heldGone .cut with engine := s.idleEngine } ∧
        s.RunShown t r.list .cut ∧ s.CutsDone t .cut ∧ t.peek 0x45 = 0 ∧ t.peek 0x40 = t.word40 := by
  obtain ⟨hready, hcur, hkind, hslots⟩ := id h
  obtain ⟨hrec, hq, hm⟩ := id hquiet
  obtain ⟨a, hends⟩ := cutRun_ends (s := s) (r := r) hphase
  have hwork : s.cutList r = ((s.cutting r c).endRun .cut none a, none) := by
    rw [← hends]
    unfold cutList
    simp [hq, hctx, hlist]
  have hexec := exec_held_of_carries h (cmd := .listCut) (work := fun r s => s.cutList r) rfl hwork
  obtain ⟨⟨hrun, h45, hcuts, hkeep, heq⟩, h40⟩ := endRun_runOver (s := s.cutting r c) (c := { c with cut := true })
    (o := .cut) (failing := none) (addr := a) rfl ⟨hrec, hq, hm⟩ rfl
  generalize (s.cutting r c).endRun .cut none a = w at *
  dsimp only at hrun hkeep
  rw [hlist] at hrun hkeep
  have hk2 := endExamination_keepsWords w
  have he2 := endExamination_eq w
  have hsw := endExamination_shown w
  generalize w.endExamination = t at *
  have hheld : (s.cutting r c).heldOf .cut = s.heldOf .cut ++ [{ slot := r.slot, kind := .cut, wake := r.wake }] := by
    simp [heldOf, cutting, holdInFlight]
  have hbound {x : Nat} (hx : (s.cutting r c).HeldWord .cut x) : s.HeldWord .cut x ∨ SlotReport r.slot x := by
    obtain ⟨e, he, hx⟩ := hx
    rw [hheld, List.mem_append, List.mem_singleton] at he
    rcases he with he | rfl
    · exact .inl ⟨e, he, hx⟩
    · exact .inr hx
  have h43 (x : Nat) (hx : x ≠ 0x43) : t.peek x = w.peek x := hk2 x hx
  have hgone : (s.cutting r c).heldGone .cut =
      { s.cutting r c with
        req := { s.req with inflight := (s.reqWithout .cut).inflight }
        wake := (s.heldGone .cut).wakeDone r.slot r.wake } := by
    have hreq : (s.cutting r c).reqWithout .cut = { s.req with inflight := (s.reqWithout .cut).inflight } := by
      simp [reqWithout, cutting, holdInFlight]
    rw [heldGone, hreq, hheld]
    exact congrArg (fun x => ({ s.cutting r c with
      req := { s.req with inflight := (s.reqWithout .cut).inflight }, wake := x } : State))
      (wakeAfterHeld_append s (s.heldOf .cut) { slot := r.slot, kind := .cut, wake := r.wake }
        fun f hf => hslots f (List.mem_filter.1 hf).1)
  rw [hgone] at heq
  have hwreq : w.req = { s.req with inflight := (s.reqWithout .cut).inflight } := by rw [heq]
  refine ⟨t, hexec, ⟨?_, ?_, ?_, ?_⟩, ?_, ?_, ?_, ?_⟩
  · refine slotDone_congr (hcuts { slot := r.slot, kind := .cut, wake := r.wake } (by rw [hheld]; simp)) fun x hx => h43 x ?_
    have := slotReport_bounds hx
    omega
  · have h43s : w.peek 0x43 = s.peek 0x43 := hkeep _ fun hx => by
      rcases hx with hx | hx | hx
      · have := runEndWord_bounds hx
        omega
      · omega
      · have := heldWord_bounds hx
        omega
    unfold SweepShown at hsw ⊢
    rw [hsw, hwreq, h43s]
  · intro x hx
    simp only [not_or] at hx
    obtain ⟨hreport, hr, hx40, hcut⟩ := hx
    refine (h43 x fun h => hreport (.inr h)).trans (hkeep x ?_)
    rintro (hx | hx | hx)
    · exact hr hx
    · exact hx40 hx
    · exact (hbound hx).elim hcut fun hx => hreport (.inl hx)
  · have hdone : w.reqDone w.req.inflight = s.reqDone (s.reqWithout .cut).inflight := by
      rw [hwreq]
      simp only [reqDone, hwreq]
    rw [he2, hdone, heq]
    rfl
  · exact runShown_congr (runShown_since hrun rfl rfl rfl rfl) fun x hx => h43 x (by have := runEndWord_bounds hx; omega)
  · intro e he
    refine slotDone_congr (hcuts e (by rw [hheld]; simp [he])) fun x hx => h43 x ?_
    have := slotReport_bounds hx
    omega
  · rw [h43 _ (by omega), h45]
  · rw [he2]
    exact (h43 _ (by omega)).trans h40

end Sys2Proof.Machine.State
open Sys2Proof.Machine State in
/-- Settles O20: a queued list leaves the queue, an unknown one is NOT_ACTIVE, and the running one is cut at once or held while
bus work lasts. -/
theorem listCutByItsPlace : Obligations.ListCutByItsPlace := by
  intro s r h _ l rest
  have hqueue : Spares r QueueWord := spares_of_bounds fun a ha => by unfold QueueWord at ha; omega
  have hany : (s.engine.queue.any (·.list = l)) = true ↔ ∃ q ∈ s.engine.queue, q.list = l := any_list_iff _ _
  refine ⟨fun hother hin => ?_, fun hother hnone => ?_, fun c hctx hlist => ⟨fun step hphase => ?_, fun hphase hquiet => ?_⟩⟩
  · have hwork : s.cutList r = (s.setQueue rest, some (.ok, 0)) := by
      unfold cutList
      simp only [show r.list = l from rfl, hany.2 hin, if_true, setQueue_engine]
      split
      next c hctx => rw [if_neg (hother c hctx)]
      next => rfl
    have hshown := setQueue_shown s rest
    have heq := setQueue_eq s rest
    have hkeep := setQueue_keepsWords s rest
    generalize s.setQueue rest = w at *
    refine answers_of_work (cmd := .listCut) (work := fun r s => s.cutList r) h rfl hwork
      { s with engine := { s.engine with queue := rest } } hqueue hkeep heq rfl (held := s.req.inflight) rfl fun t ht => ?_
    exact snapshotShown_congr hshown (by rw [ht.2]) fun a ha => ht.peek hqueue ha
  · have hwork : s.cutList r = (s, some (.notActive, 0)) := by
      have hnot : (s.engine.queue.any (·.list = l)) = false := by simpa using hnone
      unfold cutList
      simp only [show r.list = l from rfl, hnot]
      split
      next c hctx => rw [if_neg (hother c (by simpa using hctx))]; rfl
      next => rfl
    exact answers_of_idle (cmd := .listCut) (work := fun r s => s.cutList r) h rfl hwork
  · by_cases hin : ∃ q ∈ s.engine.queue, q.list = l
    · have hwork : s.cutList r = ((s.setQueue rest).cutting r c, none) := by
        unfold cutList
        simp only [show r.list = l from rfl, hany.2 hin, if_true, setQueue_engine, hctx, hlist]
        rw [cutRun_eq, hphase]
      have hshown := setQueue_shown s rest
      have heq := setQueue_eq s rest
      have hkeep := setQueue_keepsWords s rest
      generalize s.setQueue rest = w at *
      have hans := answers_of_held (kind := .cut) h (cmd := .listCut) (work := fun r s => s.cutList r) rfl hwork
        { s with
          engine := { s.engine with queue := rest, ctx := some { c with cut := true }, cuts := s.engine.cuts + 1 } }
        hqueue hkeep (by rw [heq]; rfl)
        (Q := fun t => t.SnapshotShown) fun t ht =>
          snapshotShown_congr hshown (by rw [ht.2]; rfl) fun a ha => ht.peek hqueue ha
      obtain ⟨t, ht, hholds, hsnap⟩ := hans
      exact ⟨t, ht, hholds, fun _ => hsnap, fun hnone => absurd hin fun ⟨q, hq, hl⟩ => hnone q hq hl⟩
    · have hnone : ∀ q ∈ s.engine.queue, q.list ≠ l := fun q hq hl => hin ⟨q, hq, hl⟩
      have hnot : (s.engine.queue.any (·.list = l)) = false := by simpa using hnone
      have hrest : rest = s.engine.queue := List.filter_eq_self.2 fun q hq => by simpa using hnone q hq
      have hwork : s.cutList r = (s.cutting r c, none) := by
        unfold cutList
        simp only [show r.list = l from rfl, hnot, hctx, hlist, Bool.false_eq_true, if_false, if_true]
        rw [cutRun_eq, hphase]
      have hans := answers_of_held (kind := .cut) h (cmd := .listCut) (work := fun r s => s.cutList r) rfl hwork
        { s with
          engine := { s.engine with ctx := some { c with cut := true }, cuts := s.engine.cuts + 1 } }
        spares_nothing (.of_mem rfl) rfl (Q := fun _ => True) fun _ _ => trivial
      obtain ⟨t, ht, ⟨hsweep, hkeep, heq⟩, -⟩ := hans
      have hk : s.KeepsWords t (· = 0x43) := hkeep.mono fun a ha => ha.elim id False.elim
      refine ⟨t, ht, ⟨hsweep, hk.mono fun a ha => .inl ha, ?_⟩, fun hin' => absurd hin' hin, fun _ => hk⟩
      rw [hrest, heq]
  · exact cut_completes h hctx hlist hphase hquiet

namespace Sys2Proof.Machine.State

variable {s t u w : State} {r : Taken} {m : EngineMode}

/-- The engine state as 0040H shows it after a request's work (R12, R13). -/
theorem setMode_reported (hm : m ≠ s.engine.mode) (hw : w = s.setMode m) {t : State} (ht : Reports r w t) :
    t.peek 0x40 = t.word40 := by
  rw [ht.word40, ht.peek (p := (· = 0x40)) (spares_word (by decide)) rfl, hw]
  exact setMode_shown m hm

theorem spares_heldWord {k : ReqKind} (h : s.Carries r k) (j : HeldKind) : Spares r (s.HeldWord j) := by
  obtain ⟨-, -, -, hslots⟩ := h
  rintro a ⟨e, he, ha⟩ hr
  rcases hr with hr | hr
  · exact slotReport_other (fun hne => hslots e (List.mem_filter.1 he).1 hne.symm) ha hr
  · have := slotReport_bounds ha
    omega

end Sys2Proof.Machine.State

open Sys2Proof.Machine State in
/-- Settles O21: ENGINE_HOLD and ENGINE_RESUME, state by state. -/
theorem engineHoldsAndResumes : Obligations.EngineHoldsAndResumes := by
  intro s r
  have h40 : Spares r (· = 0x40) := spares_word (by decide)
  have hstart : Spares r StartWord := spares_of_bounds fun a ha => by have := startWord_bounds ha; omega
  refine ⟨fun h => ⟨fun hm => ?_, fun hm => ?_, fun hm => ?_, fun hm => ?_⟩,
    fun h => ⟨fun hm => ?_, fun hm hq => ?_, fun e rest hm hq hgood => ?_, fun hm => ?_⟩⟩
  · have hwork : s.holdEngine r = (s.setMode .held, some (.ok, 0)) := by simp only [holdEngine, hm]
    exact answers_of_work h rfl hwork { s with engine := { s.engine with mode := .held } } h40 (setMode_keepsWords s .held)
      (setMode_eq s .held) rfl (held := s.req.inflight) rfl fun t ht => setMode_reported (by rw [hm]; exact nofun) rfl ht
  · have hwork : s.holdEngine r =
        (((s.setEngine { s.engine with holds := s.engine.holds + 1 }).holdInFlight r .hold).setMode .holding, none) := by
      simp only [holdEngine, hm]
    have heq := setMode_eq ((s.setEngine { s.engine with holds := s.engine.holds + 1 }).holdInFlight r .hold) .holding
    refine answers_of_held (kind := .hold) (cmd := .engineHold) (work := fun r s => s.holdEngine r) h rfl hwork
      { s with engine := { s.engine with mode := .holding, holds := s.engine.holds + 1 } } h40
      (setMode_keepsWords ((s.setEngine { s.engine with holds := s.engine.holds + 1 }).holdInFlight r .hold) .holding) heq
      fun t ht => setMode_reported ?_ rfl ht
    show EngineMode.holding ≠ s.engine.mode
    rw [hm]
    exact nofun
  · have hwork : s.holdEngine r =
        ((s.setEngine { s.engine with holds := s.engine.holds + 1 }).holdInFlight r .hold, none) := by
      simp only [holdEngine, hm]
    have hans := answers_of_held (kind := .hold) (cmd := .engineHold) (work := fun r s => s.holdEngine r) h rfl hwork
      { s with engine := { s.engine with holds := s.engine.holds + 1 } } spares_nothing (.of_mem rfl) rfl
      (Q := fun _ => True) fun _ _ => trivial
    obtain ⟨t, ht, hholds, -⟩ := hans
    exact ⟨t, ht, hholds⟩
  · exact answers_of_idle h rfl (show s.holdEngine r = (s, some (.ok, 0)) by simp only [holdEngine, hm])
  · have hwork : s.resumeEngine = (s, some (.notActive, 0)) := by
      unfold resumeEngine
      rcases hm with hm | hm <;> rw [hm]
    exact answers_of_idle h rfl hwork
  · have hwork : s.resumeEngine = (s.setMode .idle, some (.ok, 0)) := by
      have hnext : s.startNext = s.setMode .idle := by simp [startNext, startHeads, hq]
      simp only [resumeEngine, hm, hnext]
    exact answers_of_work h rfl hwork { s with engine := { s.engine with mode := .idle } } h40 (setMode_keepsWords s .idle)
      (setMode_eq s .idle) rfl (held := s.req.inflight) rfl fun t ht => setMode_reported (by rw [hm]; exact nofun) rfl ht
  · have hwork : s.resumeEngine = (s.startRun e rest, some (.ok, 0)) := by
      simp only [resumeEngine, hm, startNext_of_good hq hgood]
    obtain ⟨hstarts, hkeep, hshows, heq⟩ := startRun_starts (s := s) e rest rfl
    generalize s.startRun e rest = w at *
    have hmode : w.peek 0x40 = w.word40 := by
      refine hshows.shown fun hw => ?_
      have hcode := (word40_eq_iff.1 hw).1
      rw [hstarts.1, hm] at hcode
      exact absurd hcode (show ¬ EngineMode.running.code % 4 = EngineMode.held.code % 4 by decide)
    obtain ⟨t, ht, hcomp, heng, hst, hshown⟩ := answers_of_work (cmd := .engineResume) (work := fun _ s => s.resumeEngine) h rfl
      hwork { s with engine := w.engine } hstart hkeep heq rfl (held := s.req.inflight) rfl
      (Q := fun t => t.engine = w.engine ∧ s.Starts t e.list e.source rest ∧ t.peek 0x40 = t.word40) fun t ht => by
        refine ⟨by rw [ht.2], ⟨by rw [ht.2]; exact hstarts.1, ?_, ?_⟩, ?_⟩
        · exact (ht.peek hstart (.inr (.inr rfl))).trans hstarts.2.1
        · exact snapshotShown_congr hstarts.2.2 (by rw [ht.2]) fun a ha => ht.peek hstart (.inl ha)
        · rw [ht.word40, ht.peek hstart (.inr (.inl rfl)), hmode]
    exact ⟨t, ht, by rwa [heng], hst, hshown⟩
  · have hwork : s.resumeEngine =
        (((s.setEngine { s.engine with holds := 0 }).setMode .running).completeHeld .hold .withdrawn 0, some (.ok, 0)) := by
      simp only [resumeEngine, hm]
    have hk1 := setMode_keepsWords (s.setEngine { s.engine with holds := 0 }) .running
    have he1 := setMode_eq (s.setEngine { s.engine with holds := 0 }) .running
    have hs1 : ((s.setEngine { s.engine with holds := 0 }).setMode .running).peek 0x40 =
        ((s.setEngine { s.engine with holds := 0 }).setMode .running).word40 :=
      setMode_shown .running (by show EngineMode.running ≠ s.engine.mode; rw [hm]; exact nofun)
    generalize (s.setEngine { s.engine with holds := 0 }).setMode .running = v at *
    have hk2 := completeHeld_keepsWords v .hold .withdrawn 0
    have hd2 := completeHeld_done v .hold .withdrawn 0
    have he2 := completeHeld_eq v .hold .withdrawn 0
    generalize v.completeHeld .hold .withdrawn 0 = w at *
    have hreq : v.req = s.req := by rw [he1]; rfl
    have hword (a : Nat) : v.HeldWord .hold a ↔ s.HeldWord .hold a := heldWord_congr (by rw [hreq])
    have hwake : v.wakeAfterHeld v (v.heldOf .hold) = s.wakeAfterHeld s (s.heldOf .hold) := by
      rw [heldOf_congr (s := s) (by rw [hreq])]
      exact wakeAfterHeld_congr (fun a hlo _ => hk1 a (by omega)) (by rw [he1]; rfl) (by rw [he1]; rfl) (by rw [he1]; rfl) _
    have hspares : Spares r fun a => a = 0x40 ∨ s.HeldWord .hold a := h40.or (spares_heldWord h .hold)
    have hkeep : s.KeepsWords w fun a => a = 0x40 ∨ s.HeldWord .hold a := fun a ha => by
      simp only [not_or] at ha
      obtain ⟨ha, hheld⟩ := ha
      exact (hk2 a fun hx => hheld ((hword a).1 hx)).trans (hk1 a ha)
    refine answers_of_work (cmd := .engineResume) (work := fun _ s => s.resumeEngine) h rfl hwork
      { s.heldGone .hold with engine := { s.engine with mode := .running, holds := 0 } } hspares hkeep ?_ rfl
      (held := (s.reqWithout .hold).inflight) rfl fun t ht => ⟨?_, ?_⟩
    · rw [heldGone, hwake, reqWithout, hreq] at he2
      rw [he2, he1]
      rfl
    · refine heldDone_congr (heldDone_since hd2 (by rw [hreq]) fun a ha => hk1 a ?_) fun a ha => ht.peek hspares (.inr ha)
      have := heldWord_bounds ha
      omega
    · have hw40 : w.word40 = v.word40 := by rw [he2]; rfl
      rw [ht.word40, ht.peek hspares (.inl rfl), hw40, ← hs1]
      exact hk2 _ fun hx => by
        have := heldWord_bounds hx
        omega

end

section
/-! PROOFS. The steps that need no bus, and the ends of runs at a step (R15, R16, R28, R44–R51; O35, O36, O37, O39). -/

namespace Sys2Proof.Machine.State

variable {s t u w : State} {c e : Ctx} {k : StepKind} {l : Fin 32} {src : Source} {i : Fin 16}

/-! ## A step at the step address (R15) -/

theorem exec_atStep {cmd : Sys2Proof.Instr} {α : Type} {fields : Ctx → Word → Word → Word → Option α}
    {body : α → Ctx → State → State} {f : α} (hcmd : exec cmd s = .next (s.whenReady (atStep k fields body)))
    (h : s.AtStep c k) (hf : fields c (s.stepWord c 0) (s.stepWord c 1) (s.stepWord c 2) = some f) :
    exec cmd s = .next (body f c (s.beginStep c)) := by
  rw [hcmd, whenReady_of_ready _ h.1, atStep_eq_body h hf]

/-- The context as the step begins. -/
theorem beginStep_ctx (s : State) (c : Ctx) : (s.beginStep c).engine.ctx = some { c with executed := c.executed + 1 } := rfl

theorem GoesOn.runsOn (h : GoesOn c) : RunsOn { c with executed := c.executed + 1 } := ⟨h.1, Nat.succ_lt_succ h.2⟩

/-- A step completes at its reading, and the run goes on. -/
theorem finishStep_goesOn (h : GoesOn c) (hctx : w.engine.ctx = some { c with executed := c.executed + 1 }) (a : Nat) :
    w.finishStep none a = w.setCtx (some (c.stepped a)) := finishStep_of_runsOn a hctx h.runsOn

/-- A step that changes nothing but the context. -/
theorem beginStep_setCtx (ht : t = (s.beginStep c).setCtx (some e)) :
    t.peek 0x45 = runningWord (some c) ∧ s.KeepsWords t (· = 0x45) ∧
      t = { s with mem := t.mem, engine := { s.engine with ctx := some e } } := by
  subst ht
  exact ⟨peek_beginStep_running s c, beginStep_keepsWords s c, rfl⟩

/-- A step that offers a record, and goes on. -/
theorem beginStep_offer_setCtx {r : Record} (hroom : s.RoomFor i r.length)
    (ht : t = ((s.beginStep c).offer r).setCtx (some e)) :
    t.peek 0x45 = runningWord (some c) ∧ s.Recorded t i r ∧
      s.KeepsWords t (fun a => a = 0x45 ∨ s.RecordWord i r.length a) ∧
      t = { s with mem := t.mem, engine := { s.engine with ctx := some e }, coll := s.collAfter r.length } := by
  obtain ⟨hrec, hkeep, heq⟩ := offer_from (s := s) (u := s.beginStep c) (i := i) (r := r) rfl rfl rfl hroom
  have hk1 := beginStep_keepsWords s c
  have h45 := peek_beginStep_running s c
  have he1 : s.beginStep c =
      { s with
        mem := (s.beginStep c).mem
        engine := { s.engine with ctx := some { c with executed := c.executed + 1 } } } := rfl
  generalize s.beginStep c = v at *
  generalize v.offer r = w at *
  subst ht
  refine ⟨(hkeep _ (not_recordWord hroom (by omega) (by omega) (by omega) (by omega))).trans h45,
    recorded_after hrec rfl fun a _ => rfl, hk1.trans hkeep, ?_⟩
  rw [heq, he1]
  rfl

/-! ## Triggers behind other effects (R5) -/

theorem triggered_since {o : Option Ctx} (h : w.Triggered t l src o) (hdir : readDir w.mem l = readDir s.mem l)
    (hk : ∀ a, TriggerWord l a → w.peek a = s.peek a) {x : Option Ctx} (heng : w.engine = { s.engine with ctx := x })
    (hd : w.duty.shed = s.duty.shed) : s.Triggered t l src o := by
  unfold Triggered at h ⊢
  rw [hdir, hd, heng, hk _ (.inr (.inr rfl)), hk _ (.inr (.inl rfl))] at h
  split at h
  · rw [if_pos ‹_›]
    exact ⟨h.1, fun a ha => (h.2 a ha).trans (hk a ha)⟩
  · rw [if_neg ‹_›]
    split at h
    · rw [if_pos ‹_›]
      exact ⟨h.1, h.2.1, fun a ha hne => (h.2.2 a ha hne).trans (hk a ha)⟩
    · rw [if_neg ‹_›]
      split at h
      · rw [if_pos ‹_›]
        exact ⟨h.1, h.2.1, fun a ha hne => (h.2.2 a ha hne).trans (hk a ha)⟩
      · rw [if_neg ‹_›]
        exact ⟨h.1, h.2.1, fun a ha hne => (h.2.2 a ha hne).trans (hk a ha)⟩

theorem triggered_after {o x : Option Ctx} (h : s.Triggered w l src o) (hk : ∀ a, TriggerWord l a → t.peek a = w.peek a)
    (heng : t.engine = { w.engine with ctx := x }) : s.Triggered t l src x := by
  unfold Triggered at h ⊢
  split at h
  · obtain ⟨he, hkeep⟩ := h
    rw [if_pos ‹_›]
    exact ⟨by rw [heng, he], fun a ha => (hk a ha).trans (hkeep a ha)⟩
  · rw [if_neg ‹_›]
    split at h
    · obtain ⟨he, hword, hkeep⟩ := h
      rw [if_pos ‹_›]
      exact ⟨by rw [heng, he], (hk _ (.inr (.inr rfl))).trans hword, fun a ha hne => (hk a ha).trans (hkeep a ha hne)⟩
    · rw [if_neg ‹_›]
      split at h
      · obtain ⟨he, hword, hkeep⟩ := h
        rw [if_pos ‹_›]
        exact ⟨by rw [heng, he], (hk _ (.inr (.inl rfl))).trans hword, fun a ha hne => (hk a ha).trans (hkeep a ha hne)⟩
      · obtain ⟨he, hsnap, hkeep⟩ := h
        rw [if_neg ‹_›]
        exact ⟨by rw [heng, he], snapshotShown_congr hsnap (by rw [heng]) fun a ha => hk a (.inl ha),
          fun a ha hne => (hk a ha).trans (hkeep a ha hne)⟩

/-- A trigger leaves the running list's context and the rest of the engine but its queue. -/
theorem triggered_ctx (s : State) (l : Fin 32) (src : Source) : (s.triggered l src).engine.ctx = s.engine.ctx := by
  unfold triggered
  split
  · rfl
  · split
    · rfl
    · split
      · rfl
      · rw [setQueue_engine]

end Sys2Proof.Machine.State

open Sys2Proof.Machine State in
/-- Settles O36: the records of STAMP and RAISE, RAISE's word and cause, and CHAIN's trigger. -/
theorem stampRaiseAndChainAct : Obligations.StampRaiseAndChainAct := by
  intro s c hgo engine
  refine ⟨fun i hroom hat => ?_, fun i hroom hat => ?_, fun l hat hf hm => ?_⟩
  · have hexec := exec_atStep (cmd := .stamp) rfl hat (f := field (s.stepWord c 0) 16 16) rfl
    have hroom' : s.RoomFor i (stampRecord (field (s.stepWord c 0) 16 16) c.list c.addr).length := hroom
    have hfin : ((s.beginStep c).offer (stampRecord (field (s.stepWord c 0) 16 16) c.list c.addr)).finishStep none
        (c.addr + 1) = _ := finishStep_goesOn hgo (by simp [beginStep_ctx]) _
    rw [hfin] at hexec
    exact ⟨_, hexec, beginStep_offer_setCtx hroom' rfl⟩
  · have hexec := exec_atStep (cmd := .raise) rfl hat (f := field (s.stepWord c 0) 16 8) rfl
    have hroom' : s.RoomFor i (raiseRecord (field (s.stepWord c 0) 16 8) c.list c.addr).length := hroom
    have hfin : ((s.beginStep c).raiseStep (field (s.stepWord c 0) 16 8) c).finishStep none
        (c.addr + 1) = _ := finishStep_goesOn hgo (by simp [raiseStep, beginStep_ctx]) _
    rw [hfin] at hexec
    obtain ⟨h45, hrec, hkeep, heq⟩ := beginStep_offer_setCtx (c := c) (e := c.stepped (c.addr + 1)) hroom' rfl
    have hsplit : ((s.beginStep c).raiseStep (field (s.stepWord c 0) 16 8) c).setCtx (some (c.stepped (c.addr + 1))) =
        ((fun x : State => x.poke 0x42 (x.word42 (field (s.stepWord c 0) 16 8)))
          (((s.beginStep c).offer (raiseRecord (field (s.stepWord c 0) 16 8) c.list c.addr)).setCtx
            (some (c.stepped (c.addr + 1))))).raiseCause .raise := rfl
    rw [hsplit] at hexec
    refine ⟨_, hexec, ?_⟩
    generalize ((s.beginStep c).offer (raiseRecord (field (s.stepWord c 0) 16 8) c.list c.addr)).setCtx
      (some (c.stepped (c.addr + 1))) = w at *
    have hw42 : w.word42 (field (s.stepWord c 0) 16 8) = pack [(16, s.time.wrapCount), (8, field (s.stepWord c 0) 16 8)] := by
      unfold word42
      rw [show w.time = s.time by rw [heq]]
    have hk2 : w.KeepsWords (w.poke 0x42 (w.word42 (field (s.stepWord c 0) 16 8))) (· = 0x42) := poke_keepsWords _ _ _
    have h42 : (w.poke 0x42 (w.word42 (field (s.stepWord c 0) 16 8))).peek 0x42 = _ := peek_poke_same _ _ _ (by decide)
    refine ⟨(hk2 _ (by omega)).trans h45, recorded_after hrec rfl fun a ha => hk2 a ?_, h42.trans hw42,
      (hkeep.trans hk2).mono fun a h => ?_, ?_⟩
    · have := RecordWord.place hroom' ha
      omega
    · rcases h with (h | h) | h
      · exact .inr (.inl h)
      · exact .inr (.inr h)
      · exact .inl h
    · rw [raiseCause_eq, raised_congr (s := s) (by rw [show (w.poke 0x42 (w.word42 _)).wake = w.wake from rfl, heq])
        (by rw [show (w.poke 0x42 (w.word42 _)).duty = w.duty from rfl, heq])
        (by rw [show (w.poke 0x42 (w.word42 _)).settings = w.settings from rfl, heq])]
      show ({ w with mem := _, wake := _ } : State) = _
      rw [heq]
      rfl
  · have hexec := exec_atStep (cmd := .chain) rfl hat (f := l) hf
    have htrig : (s.beginStep c).offerTrigger l .chain = (s.beginStep c).triggered l .chain := offerTrigger_eq hm
    have hfin : ((s.beginStep c).triggered l .chain).finishStep none (c.addr + 1) = _ :=
      finishStep_goesOn hgo (triggered_ctx _ _ _) _
    rw [htrig, hfin] at hexec
    refine ⟨_, hexec, ?_⟩
    have hk1 := beginStep_keepsWords s c
    have h45 := peek_beginStep_running s c
    have he1 : s.beginStep c =
        { s with
          mem := (s.beginStep c).mem
          engine := { s.engine with ctx := some { c with executed := c.executed + 1 } } } := rfl
    have hd := dirAddr_bounds l
    generalize s.beginStep c = v at *
    have htr := triggered_triggered v l .chain
    have hk2 := triggered_keepsWords v l .chain
    have he2 := triggered_eq v l .chain
    generalize v.triggered l .chain = w at *
    have htr' : s.Triggered w l .chain v.engine.ctx := triggered_since htr
      (readDir_congr (hk1 _ (by omega)) (hk1 _ (by omega)))
      (fun a ha => hk1 a (by have := triggerWord_bounds ha; omega)) (by rw [he1]) (by rw [he1])
    refine ⟨(hk2 _ fun ha => ?_).trans h45, triggered_after htr' (fun a _ => rfl) rfl, hk1.trans hk2, ?_⟩
    · have := triggerWord_bounds ha
      omega
    · show ({ w with engine := _ } : State) = { s with mem := w.mem, engine := _ }
      rw [he2, he1]
      rfl

namespace Sys2Proof.Machine.State

variable {s t u w : State} {c d : Ctx} {k : StepKind} {l : Fin 32} {o : ListOutcome} {i : Fin 16}

/-! ## Runs that end at a step (R16, R17, R20, R28) -/

theorem heldGone_since {j : HeldKind} {g : Engine} (hk : ∀ a, 0x100 ≤ a → a < 0x180 → w.peek a = s.peek a)
    (he : w = { s with mem := w.mem, engine := g }) : w.heldGone j = { s.heldGone j with mem := w.mem, engine := g } := by
  have hreq : w.req = s.req := by rw [he]
  have hwake : w.wakeAfterHeld w (w.heldOf j) = s.wakeAfterHeld s (s.heldOf j) := by
    rw [heldOf_congr (s := s) (by rw [hreq])]
    exact wakeAfterHeld_congr hk (by rw [he]) (by rw [he]) (by rw [he]) _
  rw [heldGone, hwake, reqWithout, hreq, he]
  rfl

/-- A run over since its step began is over since before it. -/
theorem runOver_since {x : Option Ctx} (h : w.RunOver t l o) (hk : s.KeepsWords w (· = 0x45))
    (he : w = { s with mem := w.mem, engine := { s.engine with ctx := x } }) : s.RunOver t l o := by
  obtain ⟨hrun, h45, hcuts, hkeep, heq⟩ := h
  have hd := dirAddr_bounds l
  have ho := outcomeAddr_bounds l
  refine ⟨runShown_since hrun (hk _ (by omega)) (hk _ (by omega)) (by rw [he]) (by rw [he]), h45,
    heldDone_since hcuts (by rw [he]) fun a ha => hk a ?_, fun a ha => ?_, ?_⟩
  · have := heldWord_bounds ha
    omega
  · simp only [not_or] at ha
    obtain ⟨hr, h40, hh⟩ := ha
    refine (hkeep a ?_).trans (hk a fun h => hr (h ▸ .inr (.inr (.inr (.inr rfl)))))
    rintro (h | h | h)
    · exact hr h
    · exact h40 h
    · exact hh ((heldWord_congr (by rw [he])).1 h)
  · rw [heldGone_since (fun a _ _ => hk a (by omega)) he] at heq
    rw [heq, he]
    rfl

theorem runOverWith_since {x : Option Ctx} {r : Record} (h : w.RunOverWith t l o i r) (hk : s.KeepsWords w (· = 0x45))
    (he : w = { s with mem := w.mem, engine := { s.engine with ctx := x } }) : s.RunOverWith t l o i r := by
  obtain ⟨hrun, h45, hrec, hcuts, hkeep, heq⟩ := h
  have hd := dirAddr_bounds l
  have ho := outcomeAddr_bounds l
  refine ⟨runShown_since hrun (hk _ (by omega)) (hk _ (by omega)) (by rw [he]) (by rw [he]), h45,
    (recorded_congr (by rw [he]) (by rw [he]) (by rw [he])).1 hrec,
    heldDone_since hcuts (by rw [he]) fun a ha => hk a ?_, fun a ha => ?_, ?_⟩
  · have := heldWord_bounds ha
    omega
  · simp only [not_or] at ha
    obtain ⟨hr, h40, hh, hw⟩ := ha
    refine (hkeep a ?_).trans (hk a fun h => hr (h ▸ .inr (.inr (.inr (.inr rfl)))))
    rintro (h | h | h | h)
    · exact hr h
    · exact h40 h
    · exact hh ((heldWord_congr (by rw [he])).1 h)
    · exact hw ((recordWord_congr (by rw [he]) (by rw [he]) a).1 h)
  · rw [heldGone_since (fun a _ _ => hk a (by omega)) he] at heq
    rw [heq, he]
    rfl

/-- A run that ends at the step that began it. -/
theorem endRun_at_step {failing : Option StepOutcome} {addr : Option Nat} {x : Option Ctx} (hctx : w.engine.ctx = some d)
    (hquiet : s.EndsQuiet d) (hk : s.KeepsWords w (· = 0x45))
    (he : w = { s with mem := w.mem, engine := { s.engine with ctx := x } }) (ht : t = w.endRun o failing addr) :
    s.RunOver t d.list o ∧ t.peek 0x40 = t.word40 := by
  have hquiet' : w.EndsQuiet d := by
    rw [he]
    exact hquiet
  obtain ⟨hover, h40⟩ := endRun_runOver hctx hquiet' ht
  exact ⟨runOver_since hover hk he, h40⟩

theorem endRun_at_step_with {failing : Option StepOutcome} {addr : Option Nat} {x : Option Ctx} (hctx : w.engine.ctx = some d)
    (hquiet : s.EndsQuiet { d with endRecord := false }) (hend : d.endRecord = true) (hroom : s.RoomFor i 5)
    (hk : s.KeepsWords w (· = 0x45)) (he : w = { s with mem := w.mem, engine := { s.engine with ctx := x } })
    (ht : t = w.endRun o failing addr) :
    s.RunOverWith t d.list o i (listEndRecord d o failing addr) ∧ t.peek 0x40 = t.word40 := by
  obtain ⟨-, hq, hm⟩ := hquiet
  obtain ⟨hover, h40⟩ := endRun_runOverWith (s := w) hctx (by rw [he]; exact hm) (by rw [he]; exact hq) hend
    ((roomFor_congr (by rw [he]) (by rw [he])).2 hroom) ht
  exact ⟨runOverWith_since hover hk he, h40⟩

/-! ## Faulty steps (R15, R28, R46) -/

theorem atStep_eq_bad {α : Type} {fields : Ctx → Word → Word → Word → Option α} {body : α → Ctx → State → State}
    (hctx : s.engine.ctx = some c) (hphase : c.phase = .between)
    (hfault : stepKindAt s.mem c.addr = none ∨
      (stepKindAt s.mem c.addr = some k ∧
        (fields c (s.stepWord c 0) (s.stepWord c 1) (s.stepWord c 2)).isSome = false)) :
    atStep k fields body s = s.badStep c := by
  unfold atStep
  simp only [hctx, hphase, if_true]
  rcases hfault with hnone | ⟨hkind, hf⟩
  · rw [hnone]
  · rw [hkind]
    simp only [if_true]
    rw [show fields c (s.peek c.addr) (s.peek (c.addr + 1)) (s.peek (c.addr + 2)) = none from
      Option.not_isSome_iff_eq_none.1 (by rw [Bool.not_eq_true]; exact hf)]

/-- Words that are no step, or whose fields fail a check, end the run at their own command. -/
theorem exec_faulty (hr : s.ready) (hctx : s.engine.ctx = some c) (hphase : c.phase = .between)
    (hfault : stepKindAt s.mem c.addr = none ∨ (stepKindAt s.mem c.addr = some k ∧ s.fieldsOk c k = false)) :
    exec (stepCommand k) s = .next (s.badStep c) := by
  cases k
  all_goals
    exact congrArg Host.Outcome.next ((whenReady_of_ready _ hr).trans
      (atStep_eq_bad hctx hphase hfault))

theorem showRunning_keepsWords (s : State) : s.KeepsWords s.showRunning (· = 0x45) := poke_keepsWords _ _ _

/-- The cut and the runaway guard (R16). -/
theorem finishStep_of_cut (hctx : w.engine.ctx = some d) (hcut : d.cut = true) (a : Nat) :
    w.finishStep none a = w.endRun .cut none (some d.addr) := by
  simp only [finishStep, hctx, hcut, if_true]

theorem finishStep_of_limit (hctx : w.engine.ctx = some d) (hcut : d.cut = false) (hlimit : 4096 ≤ d.executed) (a : Nat) :
    w.finishStep none a = w.endRun .stepLimit none (some d.addr) := by
  simp only [finishStep, hctx, hcut, hlimit, if_true, Bool.false_eq_true, if_false]

end Sys2Proof.Machine.State
namespace Sys2Proof.Machine.State

variable {s t : State} {c : Ctx} {k : StepKind}

/-- MARK, LOOP and a CLOSE with nothing to close change the mark at most. -/
theorem exec_plainStep (hr : s.ready) (hctx : s.engine.ctx = some c) (hphase : c.phase = .between)
    (hkind : stepKindAt s.mem c.addr = some k) (hf : s.fieldsOk c k = true)
    (hk : k = .mark ∨ k = .loop ∨ (k = .close ∧ s.coll.recs = 0)) :
    ∃ m a, exec (stepCommand k) s =
      .next (((s.beginStep c).setCtx (some { c with executed := c.executed + 1, mark := m })).finishStep none a) := by
  have hat : s.AtStep c k := ⟨hr, hctx, hphase, hkind⟩
  rcases hk with rfl | rfl | ⟨rfl, hrecs⟩
  · obtain ⟨n, hn⟩ := Option.isSome_iff_exists.1 hf
    exact ⟨some (c.addr + 1, n - 1), c.addr + 1, exec_atStep (cmd := .mark) rfl hat hn⟩
  · obtain ⟨m, hm⟩ := Option.isSome_iff_exists.1 hf
    have hexec := exec_atStep (cmd := .loop) rfl hat hm
    unfold loopStep at hexec
    by_cases hzero : m.2 = 0
    · rw [if_pos hzero] at hexec
      exact ⟨c.mark, c.addr + 1, hexec⟩
    · rw [if_neg hzero] at hexec
      exact ⟨some (m.1, m.2 - 1), m.1, hexec⟩
  · have hexec := exec_atStep (cmd := .close) rfl hat (f := ()) rfl
    rw [if_pos (show (s.beginStep c).coll.recs = 0 from hrecs)] at hexec
    exact ⟨c.mark, c.addr + 1, hexec⟩

/-- The run that a faulty step ends (R28). -/
theorem exec_faulty_over (hr : s.ready) (hctx : s.engine.ctx = some c) (hphase : c.phase = .between)
    (hfault : stepKindAt s.mem c.addr = none ∨ (stepKindAt s.mem c.addr = some k ∧ s.fieldsOk c k = false))
    (hquiet : s.EndsQuiet c) :
    Answers (exec (stepCommand k) s) fun t => s.RunOver t c.list .badStep ∧ t.peek 0x40 = t.word40 :=
  ⟨_, exec_faulty hr hctx hphase hfault, endRun_at_step (w := s.showRunning) (x := s.engine.ctx) hctx hquiet
    (showRunning_keepsWords s) rfl rfl⟩

theorem exec_faulty_overWith {i : Fin 16} (hr : s.ready) (hctx : s.engine.ctx = some c) (hphase : c.phase = .between)
    (hfault : stepKindAt s.mem c.addr = none ∨ (stepKindAt s.mem c.addr = some k ∧ s.fieldsOk c k = false))
    (hquiet : s.EndsQuiet { c with endRecord := false }) (hend : c.endRecord = true) (hroom : s.RoomFor i 5) :
    Answers (exec (stepCommand k) s) fun t =>
      s.RunOverWith t c.list .badStep i (listEndRecord c .badStep none (some c.addr)) ∧ t.peek 0x40 = t.word40 :=
  ⟨_, exec_faulty hr hctx hphase hfault, endRun_at_step_with (w := s.showRunning) (x := s.engine.ctx) hctx hquiet hend hroom
    (showRunning_keepsWords s) rfl rfl⟩

end Sys2Proof.Machine.State

open Sys2Proof.Machine State in
/-- Settles O35: the faulty step, the cut and the runaway guard. -/
theorem stepsThatEndTheRun : Obligations.StepsThatEndTheRun := by
  intro s c k hr hctx hphase faulty
  refine ⟨fun hfault hquiet => exec_faulty_over hr hctx hphase hfault hquiet,
    fun i hfault hquiet hend hroom => exec_faulty_overWith hr hctx hphase hfault hquiet hend hroom,
    fun hkind hf hquiet hk => ?_⟩
  obtain ⟨m, a, hexec⟩ := exec_plainStep hr hctx hphase hkind hf hk
  have hwctx : ((s.beginStep c).setCtx (some { c with executed := c.executed + 1, mark := m })).engine.ctx =
      some { c with executed := c.executed + 1, mark := m } := rfl
  have hkeep : s.KeepsWords ((s.beginStep c).setCtx (some { c with executed := c.executed + 1, mark := m })) (· = 0x45) :=
    beginStep_keepsWords s c
  refine ⟨fun hcut => ?_, fun hcut hlimit => ?_⟩
  · rw [finishStep_of_cut hwctx hcut] at hexec
    exact ⟨_, hexec, (endRun_at_step (x := some { c with executed := c.executed + 1, mark := m }) hwctx hquiet hkeep rfl
      rfl).1⟩
  · rw [finishStep_of_limit hwctx hcut (Nat.succ_le_succ hlimit)] at hexec
    exact ⟨_, hexec, (endRun_at_step (x := some { c with executed := c.executed + 1, mark := m }) hwctx hquiet hkeep rfl
      rfl).1⟩

namespace Sys2Proof.Machine.State

variable {s t : State} {c : Ctx} {k : StepKind} {step : BusStep} {w : Work}

/-! ## Work handed to the bus (R24, R52) -/

/-- A bus step hands its work to a free controller, which takes it at once. -/
theorem handStep_taken (hfree : s.BusFree) (step : BusStep) (w : Work) :
    s.handStep step w = ((s.setPhase (.bus step)).setWaiting none).takeWork w := by
  obtain ⟨hctl, hvisit, -⟩ := hfree
  exact takeWaiting_of_work (s := (s.setPhase (.bus step)).setWaiting (some w)) hctl hvisit rfl

/-- The frame goes out at once where nothing hinders it (R56). -/
theorem handStep_sends (hfree : s.BusFree) (hlost : s.workLost w = false)
    (hvisit : w.writeType = true → s.visit.state = .off) (hctx : s.engine.ctx = some c) (ht : t = s.handStep step w) :
    t.bus.lineBits = w.frameBits ∧ t.peek 0x40 = t.word40 ∧ s.KeepsWords t (· = 0x40) ∧
      t =
        { s with
          mem := t.mem
          engine := { s.engine with ctx := some { c with phase := .bus step } }
          bus := { s.bus with waiting := none, ctl := .sending (.work w s.settings.replyTimeout) } } := by
  have hmap : s.engine.ctx.map (fun c => { c with phase := Phase.bus step }) = some { c with phase := .bus step } := by
    rw [hctx]
    rfl
  rw [handStep_taken hfree, takeWork_sends (s := (s.setPhase (.bus step)).setWaiting none) hfree.2.2 hlost hvisit, setPhase,
    hmap] at ht
  have hk := setCtl_keepsWords ((s.setCtx (some { c with phase := .bus step })).setWaiting none)
    (.sending (.work w s.settings.replyTimeout))
  have he := setCtl_eq ((s.setCtx (some { c with phase := .bus step })).setWaiting none)
    (.sending (.work w s.settings.replyTimeout))
  have h40 := setCtl_shown (s := (s.setCtx (some { c with phase := .bus step })).setWaiting none)
    (.sending (.work w s.settings.replyTimeout)) (by
      show (BusCtl.sending _).code ≠ s.bus.ctl.code
      rw [hfree.1]
      exact show (2 : Nat) ≠ 1 by decide)
  change t = ((s.setCtx (some { c with phase := .bus step })).setWaiting none).setCtl
    (.sending (.work w s.settings.replyTimeout)) at ht
  rw [← ht] at hk he h40
  refine ⟨by rw [he]; rfl, h40, hk, he⟩

end Sys2Proof.Machine.State

open Sys2Proof.Machine State in
/-- Settles O37: MARK and LOOP by the mark, and the intervals that WAIT and a retry spacing run. -/
theorem loopsAndWaitsDirectTheRun : Obligations.LoopsAndWaitsDirectTheRun := by
  intro s c
  refine ⟨fun hgo => ?_, fun n hat hn hne => ?_, fun due hr hctx hphase hdue hruns => ?_,
    fun st left due hr hctx hphase hdue hfree hst => ?_⟩
  · intro goes
    refine ⟨fun n hat hn => ?_, fun a n hat hmark => ?_, fun a hat hmark => ?_, fun hat hmark hquiet => ?_,
      fun i hat hmark hquiet hend hroom => ?_⟩
    · have hexec := exec_atStep (cmd := .mark) rfl hat (f := n + 1) (by
        show markField _ = _
        unfold markField
        simp [hn])
      have hfin := finishStep_of_runsOn (s := (s.beginStep c).setCtx
        (some { c with executed := c.executed + 1, mark := some (c.addr + 1, n + 1 - 1) })) (c.addr + 1) rfl ⟨hgo.1, Nat.succ_lt_succ hgo.2⟩
      exact ⟨_, hexec.trans (congrArg _ hfin), beginStep_setCtx rfl⟩
    · have hexec := exec_atStep (cmd := .loop) rfl hat hmark
      have hfin := finishStep_of_runsOn (s := (s.beginStep c).setCtx
        (some { c with executed := c.executed + 1, mark := some (a, n + 1 - 1) })) a rfl ⟨hgo.1, Nat.succ_lt_succ hgo.2⟩
      exact ⟨_, hexec.trans (congrArg _ hfin), beginStep_setCtx rfl⟩
    · have hexec := exec_atStep (cmd := .loop) rfl hat hmark
      have hfin := finishStep_goesOn hgo (beginStep_ctx s c) (c.addr + 1)
      exact ⟨_, hexec.trans (congrArg _ hfin), beginStep_setCtx rfl⟩
    · obtain ⟨hr, hctx, hphase, hkind⟩ := hat
      obtain ⟨t, ht, hover, -⟩ := exec_faulty_over (k := .loop) hr hctx hphase (.inr ⟨hkind, by simp [fieldsOk, hmark]⟩) hquiet
      exact ⟨t, ht, hover⟩
    · obtain ⟨hr, hctx, hphase, hkind⟩ := hat
      exact exec_faulty_overWith (k := .loop) hr hctx hphase (.inr ⟨hkind, by simp [fieldsOk, hmark]⟩) hquiet hend hroom
  · have hexec := exec_atStep (cmd := .wait) rfl hat (f := n) (by
      show timeField _ = _
      unfold timeField
      simp [hn, hne])
    exact ⟨_, hexec, beginStep_setCtx rfl⟩
  · refine congrArg Host.Outcome.next ((whenReady_of_ready _ hr).trans ?_)
    obtain ⟨list, source, endRecord, addr, executed, mark, cut, start, lastDone, phase⟩ := c
    obtain rfl : phase = .waiting due := hphase
    rw [hctx]
    exact (whenDue_of_le s _ hdue).trans (finishStep_of_runsOn _ hctx hruns)
  · have hexec : exec .retrySpacingExpiry s = .next (s.handStep (.read st left) (readWork st)) := by
      refine congrArg Host.Outcome.next ((whenReady_of_ready _ hr).trans ?_)
      obtain ⟨list, source, endRecord, addr, executed, mark, cut, start, lastDone, phase⟩ := c
      obtain rfl : phase = .spacing st left due := hphase
      rw [hctx]
      exact whenDue_of_le s _ hdue
    refine ⟨_, hexec, handStep_sends hfree ?_ nofun hctx rfl⟩
    simpa [workLost, workStation, readWork, Transaction.station] using hst

end

section
/-! PROOFS. How a bus step ends its run or lets it go on (R16, R19, R25, R26; O32–O34, O39). -/

namespace Sys2Proof.Machine.State

variable {s t u v w : State} {c : Ctx} {k : Fin 16} {rs : List Record} {p : Nat → Prop} {ready : ReadyPolicy}
  {failure : FailurePolicy} {o : StepOutcome} {own : OwnEnd} {next : Nat} {ph : Phase}

/-- The policies, then a cut requested, then the next step (R16). -/
theorem finishStep_runEnd (hctx : v.engine.ctx = some { c with phase := ph })
    (hguard : runEnd c ready failure o = none → c.executed < 4096) :
    v.finishStep (policyEnd ready failure o) next =
      match runEnd c ready failure o with
      | none => v.setCtx (some (c.next next))
      | some (l, failing) => v.endRun l failing (some c.addr) := by
  have hcut (hnone : runEnd c ready failure o = if c.cut then some (.cut, none) else none) :
      v.finishStep none next =
        match runEnd c ready failure o with
        | none => v.setCtx (some (c.next next))
        | some (l, failing) => v.endRun l failing (some c.addr) := by
    rw [hnone] at hguard ⊢
    by_cases h : c.cut = true
    · rw [if_pos h]
      exact finishStep_of_cut hctx h next
    · rw [if_neg h] at hguard ⊢
      exact finishStep_of_runsOn (c := { c with phase := ph }) next hctx ⟨by simpa using h, hguard rfl⟩
  have hown (l : ListOutcome) (f : Option StepOutcome) (hl : l ≠ .completed) :
      v.finishStep (some (l, f)) next = v.endRun l f (some c.addr) := by
    simp only [finishStep, hctx, if_neg hl]
  by_cases hstop : o = .notReady ∧ ready = .stop
  · obtain ⟨rfl, rfl⟩ := hstop
    exact hown .stopped (some .notReady) nofun
  by_cases habort : failure = .abort ∧ (o = .silent ∨ o = .refused ∨ o = .garbled ∨ o = .odd ∨ o = .lost)
  · have hend : runEnd c ready failure o = some (.aborted, some o) := by rw [runEnd, if_neg hstop, if_pos habort]
    have hpol : policyEnd ready failure o = some (.aborted, some o) := by
      obtain ⟨rfl, rfl | rfl | rfl | rfl | rfl⟩ := habort <;> rfl
    rw [hend, hpol]
    exact hown .aborted (some o) nofun
  · have hend : runEnd c ready failure o = if c.cut then some (.cut, none) else none := by
      rw [runEnd, if_neg hstop, if_neg habort]
    have hpol : policyEnd ready failure o = none := by
      cases o <;> simp_all [policyEnd]
    rw [hpol]
    exact hcut hend

/-- Where a bus step leaves words besides the run's own: the bus counts, the stations and the watches (11.4, 11.5). -/
def BusPlace (a : Nat) : Prop := (0x57 ≤ a ∧ a < 0x9A) ∨ (0x200 ≤ a ∧ a < 0x440)

/-- The end of a step, once its effects stand in `v`. -/
theorem finishStep_concludes (hown : runEnd c ready failure o = own) (hmay : s.MayConclude c own rs k)
    (hctx : v.engine.ctx = some { c with phase := ph }) {x : Option Ctx} (heng : v.engine = { s.engine with ctx := x })
    (hreq : v.req = s.req) (hrec : s.RecordedAll v k rs) (h40 : own = none → v.peek 0x40 = v.word40)
    (hp : ∀ a, p a → BusPlace a)
    (hkeep : s.KeepsWords v fun a => a = 0x40 ∨ p a ∨ (own ≠ none ∧ a = 0x45) ∨ s.RecordWords k rs a)
    (heq : v = { u with mem := v.mem, engine := v.engine, coll := v.coll, req := v.req })
    (hset : u.settings = s.settings) (hst : u.time.timestamp = s.time.timestamp)
    (ht : t = v.finishStep (policyEnd ready failure o) next) : s.StepConcludes t c own next rs k p u := by
  obtain ⟨hguard, hquiet, hroom⟩ := hmay
  subst hown
  have hvset : v.settings = s.settings := by rw [heq]; exact hset
  have hvst : v.time.timestamp = s.time.timestamp := by rw [heq]; exact hst
  rw [finishStep_runEnd hctx hguard] at ht
  have hroom1 : s.RoomForAll k rs := fun hne => (hroom (by simp [hne])).mono (by rw [recordWords_append]; simp)
  cases hend : runEnd c ready failure o with
  | none =>
    simp only [hend] at ht hkeep hroom
    subst ht
    refine ⟨⟨?_, hreq⟩, ?_, ?_, ?_, ?_⟩
    · rw [setCtx_engine, heng]
    · exact h40 hend
    · rw [endRecords, List.append_nil]
      exact recordedAll_after hrec rfl fun a _ => rfl
    · rw [endRecords, List.append_nil]
      refine KeepsWords.mono (p := _) hkeep fun a ha => ?_
      rcases ha with ha | ha | ⟨ha, -⟩ | ha
      · exact .inl ha
      · exact .inr (.inl ha)
      · exact absurd rfl ha
      · exact .inr (.inr (.inr ha))
    · show ({ v with engine := _ } : State) = _
      rw [if_pos rfl]
      conv_lhs => rw [heq]
      rfl
  | some r =>
    obtain ⟨l, failing⟩ := r
    have hne : runEnd c ready failure o ≠ none := by rw [hend]; exact nofun
    obtain ⟨-, hq, hm⟩ := hquiet hne
    simp only [hend] at ht hkeep hroom
    have hrecs : runEndRecords { c with phase := ph } l failing (some c.addr) = endRecords c (some (l, failing)) := rfl
    obtain ⟨hrun, h45, h40t, hall, hcuts, hk, he⟩ := endRun_over (s := v) (i := k) hctx (by rw [heng]; exact hm)
      (by rw [heng]; exact hq) (by rw [hrecs]; exact roomForAll_behind hrec hvset hvst hroom) ht
    rw [hrecs] at hall hk
    have hd := dirAddr_bounds c.list
    have ho := outcomeAddr_bounds c.list
    have hbehind {a : Nat} (ha : v.RecordWords k (endRecords c (some (l, failing))) a) :
        s.RecordWords k (rs ++ endRecords c (some (l, failing))) a := recordWords_behind hrec hvset hvst ha
    have hstands (a : Nat) (ha : (0x100 ≤ a ∧ a < 0x200) ∨ (0xA2 ≤ a ∧ a < 0x100)) : v.peek a = s.peek a := by
      refine hkeep a fun h => ?_
      rcases h with h | h | ⟨-, h⟩ | h
      · omega
      · have := hp a h
        unfold BusPlace at this
        omega
      · omega
      · have := RecordWords.place hroom1 h
        omega
    have hheldk : v.heldOf .cut = s.heldOf .cut := heldOf_congr (by rw [hreq]) _
    have hcompl : v.engine.completed = s.engine.completed := by rw [heng]
    refine ⟨⟨runShown_since hrun (hstands _ (by omega)) (hstands _ (by omega)) hvst hcompl, h45, ?_, ?_, ?_⟩, h40t, ?_, ?_, ?_⟩
    · refine heldDone_since hcuts (by rw [hreq]) fun a ha => hstands a ?_
      have := heldWord_bounds ha
      omega
    · rw [he]
      show v.idleEngine = _
      rw [idleEngine, heng]
      rfl
    · rw [he]
      show v.reqWithout .cut = _
      rw [reqWithout, hreq]
      rfl
    · refine hrec.append hall hvset hvst hroom fun a ha hnot => hk a ?_
      have hpl := RecordWords.place hroom1 ha
      rintro (h | h | h | h)
      · have := runEndWord_bounds h
        omega
      · omega
      · have := heldWord_bounds h
        omega
      · exact hnot h
    · intro a ha
      simp only [not_or, not_and] at ha
      obtain ⟨ha40, hap, har, haw⟩ := ha
      obtain ⟨hnr, hnh⟩ := har nofun
      refine (hk a ?_).trans (hkeep a ?_)
      · rintro (h | h | h | h)
        · exact hnr h
        · exact ha40 h
        · exact hnh ((heldWord_congr (by rw [hreq])).1 h)
        · exact haw (hbehind h)
      · rintro (h | h | ⟨-, h⟩ | h)
        · exact ha40 h
        · exact hap h
        · exact hnr (h ▸ .inr (.inr (.inr (.inr rfl))))
        · exact haw (recordWords_before h)
    · have hwake : (v.heldGone .cut).wake = s.wakeAfterHeld u (s.heldOf .cut) := by
        show v.wakeAfterHeld v (v.heldOf .cut) = _
        rw [hheldk]
        exact wakeAfterHeld_congr (fun a h1 h2 => hstands a (by omega)) (by rw [heq]) (by rw [heq]) (by rw [heq]) _
      rw [if_neg nofun, ← hwake]
      have hgone : v.heldGone .cut = { v with req := v.reqWithout .cut, wake := (v.heldGone .cut).wake } := rfl
      generalize (v.heldGone .cut).wake = x at *
      rw [he, hgone]
      conv_lhs => rw [heq]
      rfl

end Sys2Proof.Machine.State
namespace Sys2Proof.Machine.State

variable {s t u v : State} {c : Ctx} {k : StepKind} {step : BusStep} {w : Work}

/-! ## Bus steps at the step address (R24, R52) -/

theorem takeWork_stray (hs : s.bus.strayArriving = true) :
    s.takeWork w = (s.setWaiting (some w)).setCtl (.draining s.settings.replyTimeout none) := by
  unfold takeWork startDrain
  rw [if_pos hs, if_pos (show (s.setWaiting (some w)).bus.strayArriving = true from hs)]
  rfl

theorem takeWork_held (hs : s.bus.strayArriving = false) (hw : w.writeType = true) (hv : s.visit.state ≠ .off) :
    s.takeWork w = s.busResult .held := by
  unfold takeWork
  rw [if_neg (by simp [hs]), if_pos ⟨hw, hv⟩]

theorem takeWork_lost (hs : s.bus.strayArriving = false) (hv : w.writeType = true → s.visit.state = .off)
    (hl : s.workLost w = true) : s.takeWork w = s.busResult (lostResult w) := by
  unfold takeWork
  rw [if_neg (by simp [hs]), if_neg fun ⟨hw, h⟩ => h (hv hw), if_pos hl]

/-- A bus step whose fields pass hands its work. -/
theorem exec_busStep (h : s.AtStep c k) (hb : s.busStepOf c k = some (step, w)) :
    exec (stepCommand k) s = .next ((s.beginStep c).handStep step w) := by
  cases k <;> simp only [busStepOf, Option.map_eq_some_iff, Prod.mk.injEq, Option.some.injEq] at hb
  case read =>
    obtain ⟨st, hf, rfl, rfl⟩ := hb
    exact exec_atStep (cmd := .read) rfl h hf
  case blockRead =>
    obtain ⟨st, hf, rfl, rfl⟩ := hb
    exact exec_atStep (cmd := .blockRead) rfl h hf
  case write =>
    obtain ⟨st, hf, rfl, rfl⟩ := hb
    exact exec_atStep (cmd := .write) rfl h hf
  case control =>
    obtain ⟨st, hf, rfl, rfl⟩ := hb
    exact exec_atStep (cmd := .control) rfl h hf
  case statusPoll =>
    obtain ⟨st, hf, rfl, rfl⟩ := hb
    exact exec_atStep (cmd := .statusPoll) rfl h hf
  case clear =>
    obtain ⟨st, hf, rfl, rfl⟩ := hb
    exact exec_atStep (cmd := .clear) rfl h hf
  case rollCall =>
    obtain ⟨rfl, rfl⟩ := hb
    exact exec_atStep (cmd := .rollCall) rfl h (f := ()) rfl
  case sampleAll =>
    obtain ⟨rfl, rfl⟩ := hb
    exact exec_atStep (cmd := .sampleAll) rfl h (f := ()) rfl
  all_goals exact absurd hb nofun

/-- The state in which the controller takes a step's work: the step counted, shown at 0045H, and waiting for its result. -/
def handed (s : State) (c : Ctx) (step : BusStep) : State := ((s.beginStep c).setPhase (.bus step)).setWaiting none

theorem handed_keepsWords (s : State) (c : Ctx) (step : BusStep) : s.KeepsWords (s.handed c step) (· = 0x45) :=
  beginStep_keepsWords s c

theorem handed_eq (s : State) (c : Ctx) (step : BusStep) :
    s.handed c step =
      { s with
        mem := (s.handed c step).mem
        engine := { s.engine with ctx := some { c with executed := c.executed + 1, phase := .bus step } }
        bus := { s.bus with waiting := none } } := rfl

theorem exec_busStep_taken (h : s.AtStep c k) (hb : s.busStepOf c k = some (step, w)) (hfree : s.BusFree) :
    exec (stepCommand k) s = .next ((s.handed c step).takeWork w) := by
  rw [exec_busStep h hb, handStep_taken (s := s.beginStep c) hfree]
  rfl

/-- A write-type step is taken HELD: it completes, and the run goes on (R27). -/
theorem stepResult_held (hb : s.busStepOf c k = some (step, w)) (hw : w.writeType = true) (u : State) :
    u.stepResult step .held = u.finishStep none (u.stepAddr + k.words) := by
  cases k <;> simp only [busStepOf, Option.map_eq_some_iff, Prod.mk.injEq, Option.some.injEq] at hb
  case write =>
    obtain ⟨st, -, rfl, rfl⟩ := hb
    rfl
  case control =>
    obtain ⟨st, -, rfl, rfl⟩ := hb
    rfl
  case clear =>
    obtain ⟨st, -, rfl, rfl⟩ := hb
    rfl
  case read =>
    obtain ⟨st, -, rfl, rfl⟩ := hb
    exact absurd hw nofun
  case blockRead =>
    obtain ⟨st, -, rfl, rfl⟩ := hb
    exact absurd hw nofun
  case statusPoll =>
    obtain ⟨st, -, rfl, rfl⟩ := hb
    exact absurd hw nofun
  case rollCall =>
    obtain ⟨rfl, rfl⟩ := hb
    exact absurd hw nofun
  case sampleAll =>
    obtain ⟨rfl, rfl⟩ := hb
    exact absurd hw nofun
  all_goals exact absurd hb nofun

/-- The failure policy of a bus step; a step that has none goes on (R26). -/
def failurePolicy : BusStep → FailurePolicy
  | .read st _ => st.failure
  | .block st => st.failure
  | .write st => st.failure
  | .control st => st.failure
  | .statusPoll _ | .rollCall | .sampleAll | .clear => .continue

/-- The record a bus step offers when its station is LOST (R29, R35, R38). -/
def lostRecord : BusStep → Option Record
  | .read st _ => if st.record then some (readingRecord (stationPlace st) .lost none st.watch false) else none
  | .block st => some (blockRecord st .lost [])
  | .statusPoll i => some (statusRecord i .lost none)
  | .write _ | .control _ | .rollCall | .sampleAll | .clear => none

/-- The records are offered one behind another. -/
def offerAll (s : State) (rs : List Record) : State := rs.foldl offer s

theorem stepAddr_congr (h : v.engine = u.engine) : v.stepAddr = u.stepAddr := by rw [stepAddr, stepAddr, h]

/-- A step whose station is LOST offers its record and goes by its failure policy (R26, R56, R63). -/
theorem stepResult_lost (hb : s.busStepOf c k = some (step, w)) (hl : v.workLost w = true) (u : State) (hu : u.stepAddr = c.addr) :
    u.stepResult step (lostResult w) =
      (u.offerAll (lostRecord step).toList).finishStep (policyEnd .pass (failurePolicy step) .lost) (c.addr + k.words) := by
  rw [← hu]
  cases k <;> simp only [busStepOf, Option.map_eq_some_iff, Prod.mk.injEq, Option.some.injEq] at hb
  case read =>
    obtain ⟨st, -, rfl, rfl⟩ := hb
    have hkept : u.deliverTo st.watch .lost st.wide 0 = (u, false) := by
      unfold deliverTo
      split <;> rfl
    simp only [stepResult, lostResult, readResult, readComplete, hkept, lostRecord]
    rw [if_neg (show ¬ (StepOutcome.lost = .notReady ∧ _) from fun h => absurd h.1 nofun)]
    cases st.record
    · rfl
    · simp only [if_true]
      rw [stepAddr_congr (v := u.offer _) (u := u) (by simp)]
      rfl
  case blockRead =>
    obtain ⟨st, -, rfl, rfl⟩ := hb
    rfl
  case write =>
    obtain ⟨st, -, rfl, rfl⟩ := hb
    rfl
  case control =>
    obtain ⟨st, -, rfl, rfl⟩ := hb
    rfl
  case statusPoll =>
    obtain ⟨st, -, rfl, rfl⟩ := hb
    rfl
  case clear =>
    obtain ⟨st, -, rfl, rfl⟩ := hb
    cases st with
    | some i => rfl
    | none => exact absurd hl nofun
  case rollCall =>
    obtain ⟨rfl, rfl⟩ := hb
    exact absurd hl nofun
  case sampleAll =>
    obtain ⟨rfl, rfl⟩ := hb
    exact absurd hl nofun
  all_goals exact absurd hb nofun

end Sys2Proof.Machine.State
open Sys2Proof.Machine State in
/-- Settles O32: the step is counted and hands its work, and the free controller sends its frame. -/
theorem busStepsSendFrames : Obligations.BusStepsSendFrames := by
  intro s c k step w hat hb hfree hlost hvisit
  obtain ⟨hline, h40, hkeep, heq⟩ := handStep_sends (s := s.beginStep c) (step := step) hfree hlost hvisit (beginStep_ctx s c) rfl
  refine ⟨_, exec_busStep hat hb, ?_⟩
  have hk1 := beginStep_keepsWords s c
  have h45 := peek_beginStep_running s c
  generalize (s.beginStep c).handStep step w = t at *
  refine ⟨hline, (hkeep _ (by omega)).trans h45, h40, (hk1.trans hkeep).mono fun a ha => ha.symm, ?_⟩
  rw [heq]
  rfl

open Sys2Proof.Machine State in
/-- Settles O33: the work waits in SETTLING and DRAINING, a stray frame begins a drain, and a write-type step in a visit is
HELD. -/
theorem busStepsWaitOrAreHeld : Obligations.BusStepsWaitOrAreHeld := by
  intro s c k step w hat hb engine
  have hexec := exec_busStep hat hb
  have hk1 := beginStep_keepsWords s c
  have h45 := peek_beginStep_running s c
  refine ⟨fun hctl => ?_, fun hctl hvisit hstray => ?_, fun hfree hw hvisit hgo => ?_⟩
  · have hwaits : (s.beginStep c).handStep step w = ((s.beginStep c).setPhase (.bus step)).setWaiting (some w) := by
      refine takeWaiting_of_busy (s := ((s.beginStep c).setPhase (.bus step)).setWaiting (some w)) ?_
      show s.bus.ctl ≠ .idle
      rcases hctl with ⟨due, h⟩ | ⟨n, due, h⟩ <;> rw [h] <;> exact nofun
    rw [hwaits] at hexec
    exact ⟨_, hexec, h45, hk1, rfl⟩
  · have hdrains : (s.beginStep c).handStep step w =
        ((((s.beginStep c).setPhase (.bus step)).setWaiting none).setWaiting (some w)).setCtl
          (.draining s.settings.replyTimeout none) := by
      exact (takeWaiting_of_work (s := ((s.beginStep c).setPhase (.bus step)).setWaiting (some w)) hctl hvisit rfl).trans
        (takeWork_stray hstray)
    rw [hdrains] at hexec
    refine ⟨_, hexec, ?_⟩
    have hv : (((s.beginStep c).setPhase (.bus step)).setWaiting none).setWaiting (some w) =
        { s with
          mem := (s.beginStep c).mem
          engine := { s.engine with ctx := some { c with executed := c.executed + 1, phase := .bus step } }
          bus := { s.bus with waiting := some w } } := rfl
    have hkv : s.KeepsWords ((((s.beginStep c).setPhase (.bus step)).setWaiting none).setWaiting (some w)) (· = 0x45) := hk1
    have h45v : ((((s.beginStep c).setPhase (.bus step)).setWaiting none).setWaiting (some w)).peek 0x45 =
      runningWord (some c) := h45
    generalize (((s.beginStep c).setPhase (.bus step)).setWaiting none).setWaiting (some w) = v at *
    have hk := setCtl_keepsWords v (.draining s.settings.replyTimeout none)
    have he := setCtl_eq v (.draining s.settings.replyTimeout none)
    have h40 := setCtl_shown (s := v) (.draining s.settings.replyTimeout none) (by
      rw [hv]
      show _ ≠ s.bus.ctl.code
      rw [hctl]
      exact show (6 : Nat) ≠ 1 by decide)
    refine ⟨(hk _ (by omega)).trans h45v, h40, (hkv.trans hk).mono fun a ha => ha.symm, ?_⟩
    generalize v.setCtl (.draining s.settings.replyTimeout none) = t at *
    rw [he, hv]
  · have htaken := exec_busStep_taken hat hb hfree
    have hheld : (s.handed c step).takeWork w = (s.handed c step).busResult .held :=
      takeWork_held hfree.2.2 hw hvisit
    have hctx : (s.handed c step).engine.ctx = some { c with executed := c.executed + 1, phase := .bus step } := rfl
    rw [hheld, busResult_of_bus hctx rfl, stepResult_held hb hw, stepAddr_of_ctx hctx,
      finishStep_of_runsOn _ hctx ⟨hgo.1, Nat.succ_lt_succ hgo.2⟩] at htaken
    exact ⟨_, htaken, h45, hk1, rfl⟩

namespace Sys2Proof.Machine.State

variable {s t u v w : State} {c : Ctx} {step : BusStep} {i : Fin 16} {own : OwnEnd}

/-- One record at most, offered behind what changes neither the collection nor its settings nor the time. -/
theorem offerAll_recorded {x : Option Record} (hc : u.coll = s.coll) (hs : u.settings = s.settings)
    (ht : u.time.timestamp = s.time.timestamp) (hroom : s.RoomForAll i x.toList) (hw : w = u.offerAll x.toList) :
    s.RecordedAll w i x.toList ∧ u.KeepsWords w (s.RecordWords i x.toList) ∧
      w = { u with mem := w.mem, coll := w.coll } := by
  cases x with
  | none =>
    obtain rfl : w = u := hw
    exact ⟨RecordedAll.nil hc, .refl _ _, rfl⟩
  | some r => exact offerIf_recorded (b := true) hc hs ht hroom hw

/-- The run of a LOST station's step goes on. -/
theorem lost_goesOn {x : Option Record} (hgo : GoesOn c) (hroom : s.RoomForAll i x.toList) (next : Nat)
    (ht : t = ((s.handed c step).offerAll x.toList).finishStep none next) :
    t.peek 0x45 = runningWord (some c) ∧ s.RecordedAll t i x.toList ∧
      s.KeepsWords t (fun a => a = 0x45 ∨ s.RecordWords i x.toList a) ∧
      t =
        { s with
          mem := t.mem, engine := { s.engine with ctx := some (c.stepped next) }
          bus := { s.bus with waiting := none }, coll := t.coll } := by
  have hk1 := handed_keepsWords s c step
  have h45 : (s.handed c step).peek 0x45 = runningWord (some c) := peek_beginStep_running s c
  have he1 := handed_eq s c step
  obtain ⟨hrec, hk2, he2⟩ := offerAll_recorded (s := s) (u := s.handed c step) rfl rfl rfl hroom rfl
  generalize (s.handed c step).offerAll x.toList = w at *
  have hctx : w.engine.ctx = some { c with executed := c.executed + 1, phase := .bus step } := by rw [he2]; rfl
  rw [finishStep_of_runsOn _ hctx ⟨hgo.1, Nat.succ_lt_succ hgo.2⟩] at ht
  subst ht
  refine ⟨(hk2 _ fun h => ?_).trans h45, recordedAll_after hrec rfl fun a _ => rfl, hk1.trans hk2, ?_⟩
  · have := RecordWords.place hroom h
    omega
  · show ({ w with engine := _ } : State) = _
    conv_lhs => rw [he2]
    rfl

/-- The run of a LOST station's step ends, or goes on, as its policy and a cut say. -/
theorem lost_concludes {x : Option Record} {policy : FailurePolicy} {next : Nat}
    (hends : policy = .abort ∨ c.cut = true)
    (hown : runEnd { c with executed := c.executed + 1 } .pass policy .lost = own)
    (hmay : s.MayConclude { c with executed := c.executed + 1 } own x.toList i)
    (ht : t = ((s.handed c step).offerAll x.toList).finishStep (policyEnd .pass policy .lost) next) :
    s.StepConcludes t { c with executed := c.executed + 1 } own next x.toList i (fun _ => False)
      { s with bus := { s.bus with waiting := none } } := by
  have hne : own ≠ none := by
    subst hown
    rcases hends with rfl | hcut
    · exact nofun
    · unfold runEnd
      rw [if_neg (fun h => absurd h.1 nofun)]
      split
      · exact nofun
      · simp
  have hk1 := handed_keepsWords s c step
  have he1 := handed_eq s c step
  obtain ⟨-, -, hroom⟩ := id hmay
  have hroom1 : s.RoomForAll i x.toList := fun h => (hroom (by simp [h])).mono (by rw [recordWords_append]; simp)
  obtain ⟨hrec, hk2, he2⟩ := offerAll_recorded (s := s) (u := s.handed c step) rfl rfl rfl hroom1 rfl
  generalize (s.handed c step).offerAll x.toList = w at *
  refine finishStep_concludes (v := w) (c := { c with executed := c.executed + 1 }) (ph := .bus step) hown hmay
    (by rw [he2]; rfl) (x := some { c with executed := c.executed + 1, phase := .bus step }) (by rw [he2]; rfl)
    (by rw [he2]; rfl) hrec (fun h => absurd h hne) (fun _ h => h.elim) ((hk1.trans hk2).mono fun a ha => ?_) ?_ rfl rfl ht
  · exact ha.elim (fun h => .inr (.inr (.inl ⟨hne, h⟩))) fun h => .inr (.inr (.inr h))
  · refine he2.trans ?_
    rw [show w.engine = (s.handed c step).engine by rw [he2], show w.req = (s.handed c step).req by rw [he2]]
    rfl

end Sys2Proof.Machine.State

open Sys2Proof.Machine State in
/-- Settles O34: a LOST station's step offers its record and completes, or ends the run. -/
theorem lostStationsGetNoFrame : Obligations.LostStationsGetNoFrame := by
  intro s c k step w hat hb hfree hlost hvisit policy offered
  have hpolicy : policy = failurePolicy step := by cases step <;> rfl
  have hoffered : offered = lostRecord step := by cases step <;> rfl
  clear_value policy offered
  have hctx : (s.handed c step).engine.ctx = some { c with executed := c.executed + 1, phase := .bus step } := rfl
  have hexec := exec_busStep_taken hat hb hfree
  rw [takeWork_lost (s := s.handed c step) hfree.2.2 hvisit hlost, busResult_of_bus hctx rfl,
    stepResult_lost hb hlost (s.handed c step) (stepAddr_of_ctx (c := { c with executed := c.executed + 1, phase := .bus step }) hctx), ← hpolicy, ← hoffered] at hexec
  refine ⟨fun hgoes hgo hnone => ?_, fun rec i hgoes hgo hsome hroom => ?_, fun habort hquiet hnone => ?_, fun i hends => ?_⟩
  · rw [hnone, hgoes, show policyEnd .pass .continue .lost = none from rfl] at hexec
    obtain ⟨h45, hrec, hkeep, heq⟩ := lost_goesOn (s := s) (x := none) (i := 0) hgo (fun h => absurd rfl h) (c.addr + k.words) rfl
    refine ⟨_, hexec, h45, hkeep.mono fun a ha => ha.elim id fun h => absurd rfl h.1, ?_⟩
    exact heq.trans (by rw [hrec.nil_coll])
  · rw [hsome, hgoes, show policyEnd .pass .continue .lost = none from rfl] at hexec
    obtain ⟨h45, hrec, hkeep, heq⟩ := lost_goesOn (s := s) (x := some rec) (i := i) hgo (roomForAll_singleton.2 hroom)
      (c.addr + k.words) rfl
    have hrec := recorded_of_recordedAll hrec
    refine ⟨_, hexec, h45, hrec, hkeep.mono fun a ha => ha.imp_right recordWords_singleton_iff.1, heq.trans ?_⟩
    rw [hrec.2.2.2]
  · rw [hnone, habort] at hexec
    have hend : (s.handed c step).finishStep (some (.aborted, some .lost)) (c.addr + k.words) =
        (s.handed c step).endRun .aborted (some .lost) (some c.addr) := by
      simp only [finishStep, hctx, if_neg (show ListOutcome.aborted ≠ .completed from nofun)]
    exact ⟨_, hexec.trans (congrArg _ hend), (endRun_at_step (s := { s with bus := { s.bus with waiting := none } })
      (x := some { c with executed := c.executed + 1, phase := .bus step }) hctx hquiet (handed_keepsWords s c step) rfl
      rfl).1⟩
  · intro counted own hmay
    exact ⟨_, hexec, lost_concludes hends rfl hmay rfl⟩

namespace Sys2Proof.Machine.State

variable {s t u v w : State} {c d : Ctx} {o : ListOutcome} {a : Option Nat} {x : Option Ctx} {j : HeldKind}
  {es fs : List HeldRequest}

/-- A run's end without a record, since the step that ends it began: what stands before the engine's move (R20). -/
theorem finishRun_at_step (hrec : d.endRecord = false) (hk : s.KeepsWords v (· = 0x45))
    (he : v = { s with mem := v.mem, engine := { s.engine with ctx := x } }) (hw : w = v.finishRun d o none a) :
    s.RunShown w d.list o ∧ w.peek 0x45 = 0 ∧ s.CutsDone w o ∧
      s.KeepsWords w (fun a => RunEndWord d.list a ∨ s.HeldWord .cut a) ∧
      w =
        { s.heldGone .cut with
          mem := w.mem
          engine := { s.engine with ctx := none, cuts := 0, completed := s.engine.completed + 1 } } := by
  have hnone : runEndRecords d o none a = [] := by simp [runEndRecords, hrec]
  obtain ⟨hrun, h45, hall, hcuts, hkeep, heq⟩ :=
    finishRun_over (s := v) (i := 0) (by rw [hnone]; exact fun h => absurd rfl h) hw
  rw [hnone] at hall hkeep
  have hd := dirAddr_bounds d.list
  have ho := outcomeAddr_bounds d.list
  refine ⟨runShown_since hrun (hk _ (by omega)) (hk _ (by omega)) (by rw [he]) (by rw [he]), h45,
    heldDone_since hcuts (by rw [he]) fun a ha => hk a ?_, fun a ha => ?_, ?_⟩
  · have := heldWord_bounds ha
    omega
  · simp only [not_or] at ha
    obtain ⟨hr, hh⟩ := ha
    refine (hkeep a ?_).trans (hk a fun h => hr (h ▸ .inr (.inr (.inr (.inr rfl)))))
    rintro (h | h | h)
    · exact hr h
    · exact hh ((heldWord_congr (by rw [he])).1 h)
    · exact h.1 rfl
  · rw [heldGone_since (fun a _ _ => hk a (by omega)) he, hall.nil_coll] at heq
    rw [heq, he]
    rfl

/-- A slot whose held requests completed reads TAKEN no longer, and every other stands. -/
theorem slotState_after_held {res : Result} {v : Word} (hdone : s.HeldDone w j res v)
    (hkeep : ∀ k : Fin 16, (∀ e ∈ s.heldOf j, e.slot ≠ k) → w.peek (slotAddr k) = s.peek (slotAddr k)) (k : Fin 16) :
    slotState w.mem k = 2 ↔ slotState s.mem k = 2 ∧ ∀ e ∈ s.heldOf j, e.slot ≠ k := by
  by_cases hin : ∃ e ∈ s.heldOf j, e.slot = k
  · obtain ⟨e, he, rfl⟩ := hin
    have hslot := hdone e he
    unfold SlotDone at hslot
    have hnot : ¬ ∀ f ∈ s.heldOf j, f.slot ≠ e.slot := fun h => h e he rfl
    by_cases htaken : slotState s.mem e.slot = 2
    · rw [if_pos htaken] at hslot
      have hstate : slotState w.mem e.slot ≠ 2 := by
        rw [slotState_eq, hslot.1]
        split <;> decide
      simp [hstate, hnot]
    · rw [if_neg htaken] at hslot
      rw [slotState_congr (hslot _ (.inl rfl))]
      simp [htaken]
  · have hall : ∀ e ∈ s.heldOf j, e.slot ≠ k := fun e he h => hin ⟨e, he, h⟩
    rw [slotState_congr (hkeep k hall)]
    simp only [and_iff_left hall]

/-- Requests that complete behind others raise REQUEST with them. -/
theorem wakeAfterHeld_behind (hw : w.wake = s.wakeAfterHeld s es)
    (hslots : ∀ k, slotState w.mem k = 2 ↔ slotState s.mem k = 2 ∧ ∀ e ∈ es, e.slot ≠ k) (hd : w.duty.shed = s.duty.shed)
    (hs : w.settings = s.settings) : w.wakeAfterHeld w fs = s.wakeAfterHeld s (es ++ fs) := by
  have hfind (k : Fin 16) : ((es ++ fs).find? fun e => e.slot = k) =
      (es.find? fun e => e.slot = k).or (fs.find? fun e => e.slot = k) := List.find?_append
  have hnone (k : Fin 16) : (∀ e ∈ es, e.slot ≠ k) ↔ (es.find? fun e => e.slot = k) = none := by
    rw [List.find?_eq_none]
    simp
  have hiff : (∃ k : Fin 16, slotState s.mem k = 2 ∧ ((es ++ fs).find? fun e => e.slot = k).any (·.wake) = true) ↔
      (∃ k : Fin 16, slotState s.mem k = 2 ∧ (es.find? fun e => e.slot = k).any (·.wake) = true) ∨
        ∃ k : Fin 16, slotState w.mem k = 2 ∧ (fs.find? fun e => e.slot = k).any (·.wake) = true := by
    rw [← exists_or]
    refine exists_congr fun k => ?_
    rw [hfind, hslots, hnone]
    cases hes : es.find? fun e => e.slot = k with
    | none => simp
    | some e => simp
  have hraised : w.raised .request = s.raised .request := by
    unfold wakeAfterHeld at hw
    split at hw
    · exact raised_raised hw hd hs
    · exact raised_congr hw hd hs _
  unfold wakeAfterHeld at hw ⊢
  simp only [hiff]
  by_cases hfirst : ∃ k : Fin 16, slotState s.mem k = 2 ∧ (es.find? fun e => e.slot = k).any (·.wake) = true
  · rw [if_pos hfirst] at hw
    rw [if_pos (Or.inl hfirst), hraised, hw, ite_self]
  · rw [if_neg hfirst] at hw
    simp only [hfirst, false_or, hraised, hw]

end Sys2Proof.Machine.State
open Sys2Proof.Machine State in
/-- Settles O39: END ends the run, and the engine is IDLE, runs its next head, or is HELD. -/
theorem endCompletesTheRun : Obligations.EndCompletesTheRun := by
  intro s c hat
  have hk1 := beginStep_keepsWords s c
  have hctx := beginStep_ctx s c
  have he1 : s.beginStep c =
      { s with
        mem := (s.beginStep c).mem
        engine := { s.engine with ctx := some { c with executed := c.executed + 1 } } } := rfl
  have hexec : exec .endStep s = .next ((s.beginStep c).endRun .completed none none) := by
    rw [exec_atStep (cmd := .endStep) rfl hat (f := ()) rfl]
    simp only [finishStep, hctx, if_true]
  generalize s.beginStep c = v at *
  have hend : v.endRun .completed none none =
      (v.finishRun { c with executed := c.executed + 1 } .completed none none).leaveRun := by simp only [endRun, hctx]
  refine ⟨fun hquiet => ⟨_, hexec, endRun_at_step (d := { c with executed := c.executed + 1 }) hctx hquiet hk1 he1
      rfl⟩,
    fun i hquiet hrec hroom => ⟨_, hexec, endRun_at_step_with
      (d := { c with executed := c.executed + 1 }) hctx hquiet hrec hroom hk1 he1 rfl⟩,
    fun e rest hrec hm hq hgood => ?_, fun hrec hm => ?_⟩
  · obtain ⟨hrun, h45, hcuts, hk2, he2⟩ := finishRun_at_step (d := { c with executed := c.executed + 1 }) hrec hk1 he1 rfl
    change s.RunShown _ c.list _ at hrun
    change s.KeepsWords _ fun a => RunEndWord c.list a ∨ s.HeldWord .cut a at hk2
    generalize v.finishRun { c with executed := c.executed + 1 } .completed none none = w at *
    have hd := dirAddr_bounds c.list
    have hde := dirAddr_bounds e.list
    have ho := outcomeAddr_bounds c.list
    have hdirs : readDir w.mem e.list = readDir s.mem e.list := by
      have hother (j : Nat) (hj : j = 0 ∨ j = 1) : w.peek (dirAddr e.list + j) = s.peek (dirAddr e.list + j) := by
        refine hk2 _ fun h => ?_
        rcases h with h | h
        · unfold RunEndWord dirAddr at h
          unfold dirAddr at hde hd
          have ho' := outcomeAddr_bounds c.list
          omega
        · have := heldWord_bounds h
          omega
      exact readDir_congr (hother 0 (.inl rfl)) (hother 1 (.inr rfl))
    have hleave : w.leaveRun = w.startRun e rest := by
      have hmode : w.engine.mode = .running := by rw [he2]; exact hm
      rw [leaveRun, hmode]
      exact startNext_of_good (by rw [he2]; exact hq) (by rw [hdirs]; exact hgood)
    rw [hend, hleave] at hexec
    refine ⟨_, hexec, ?_⟩
    obtain ⟨⟨heng, h45t, hsnap⟩, hk3, -, he3⟩ := startRun_starts (s := w) e rest rfl
    generalize w.startRun e rest = t at *
    have hfresh : w.freshCtx e.list e.source = s.freshCtx e.list e.source := by
      rw [freshCtx, hdirs, he2]
      rfl
    rw [hfresh] at h45t heng
    refine ⟨?_, ?_, hsnap, h45t, (hk2.trans hk3).mono fun a ha => ?_, ?_⟩
    · obtain ⟨h2, hout, h3, h44⟩ := hrun
      exact ⟨(hk3 _ fun h => by have := startWord_bounds h; omega).trans h2,
        (hk3 _ fun h => by have := startWord_bounds h; omega).trans hout,
        (hk3 _ fun h => by have := startWord_bounds h; omega).trans h3,
        (hk3 _ fun h => by have := startWord_bounds h; omega).trans h44⟩
    · refine heldDone_congr hcuts fun a ha => hk3 a fun h => ?_
      have := heldWord_bounds ha
      have := startWord_bounds h
      omega
    · rcases ha with (ha | ha) | ha
      · exact .inl ha
      · exact .inr (.inr ha)
      · exact .inr (.inl ha)
    · rw [he3, heng, he2]
      show ({ s.heldGone .cut with mem := _, engine := _ } : State) = _
      simp only [hm]
  · obtain ⟨hrun, h45, hcuts, hk2, he2⟩ := finishRun_at_step (d := { c with executed := c.executed + 1 }) hrec hk1 he1 rfl
    change s.RunShown _ c.list _ at hrun
    change s.KeepsWords _ fun a => RunEndWord c.list a ∨ s.HeldWord .cut a at hk2
    generalize v.finishRun { c with executed := c.executed + 1 } .completed none none = w at *
    have hd := dirAddr_bounds c.list
    have ho := outcomeAddr_bounds c.list
    have hleave : w.leaveRun = ((w.setEngine { w.engine with holds := 0 }).setMode .held).completeHeld .hold .ok 0 := by
      have hmode : w.engine.mode = .holding := by rw [he2]; exact hm
      rw [leaveRun, hmode]
    rw [hend, hleave] at hexec
    refine ⟨_, hexec, ?_⟩
    have hk3 := setMode_keepsWords (w.setEngine { w.engine with holds := 0 }) .held
    have he3 := setMode_eq (w.setEngine { w.engine with holds := 0 }) .held
    have h40 : ((w.setEngine { w.engine with holds := 0 }).setMode .held).peek 0x40 =
        ((w.setEngine { w.engine with holds := 0 }).setMode .held).word40 := setMode_shown .held (by
      show EngineMode.held ≠ w.engine.mode
      rw [he2]
      show EngineMode.held ≠ s.engine.mode
      rw [hm]
      exact nofun)
    have hkw : w.KeepsWords ((w.setEngine { w.engine with holds := 0 }).setMode .held) (· = 0x40) := hk3
    generalize (w.setEngine { w.engine with holds := 0 }).setMode .held = y at *
    have hk4 := completeHeld_keepsWords y .hold .ok 0
    have hd4 := completeHeld_done y .hold .ok 0
    have he4 := completeHeld_eq y .hold .ok 0
    generalize y.completeHeld .hold .ok 0 = t at *
    have hreq : y.req = s.reqWithout .cut := by rw [he3]; show w.req = _; rw [he2]; rfl
    have hholds : y.heldOf .hold = s.heldOf .hold := by
      unfold heldOf
      rw [hreq, reqWithout, List.filter_filter]
      refine List.filter_congr fun q _ => ?_
      cases q.kind <;> rfl
    have hheld (x : Nat) : y.HeldWord .hold x ↔ s.HeldWord .hold x := by unfold HeldWord; rw [hholds]
    have hslotkeep (k : Fin 16) (hk : ∀ e ∈ s.heldOf .cut, e.slot ≠ k) (x : Nat) (hx : SlotReport k x) :
        y.peek x = s.peek x := by
      have hb := slotReport_bounds hx
      refine (hkw x (by omega)).trans (hk2 x fun h => ?_)
      rcases h with h | ⟨e, he, h⟩
      · have := runEndWord_bounds h
        omega
      · exact slotReport_other (hk e he) hx h
    have hcutsy : s.CutsDone y .completed := heldDone_congr hcuts fun x hx => hkw x (by
      have := heldWord_bounds hx
      omega)
    have hwake : (y.heldGone .hold).wake = s.wakeAfterHeld s (s.heldOf .cut ++ s.heldOf .hold) := by
      show y.wakeAfterHeld y (y.heldOf .hold) = _
      rw [hholds]
      refine wakeAfterHeld_behind (s := s) (w := y) ?_ (slotState_after_held hcutsy fun k hk =>
        hslotkeep k hk _ (.inl rfl)) ?_ ?_
      · rw [he3]; show w.wake = _; rw [he2]; rfl
      · rw [he3]; show w.duty.shed = _; rw [he2]; rfl
      · rw [he3]; show w.settings = _; rw [he2]; rfl
    have hlow (x : Nat) (hx : x ≠ 0x40) (hb : x < 0x100 ∨ 0x180 ≤ x) : t.peek x = w.peek x :=
      (hk4 x fun h => by have := heldWord_bounds h; omega).trans (hkw x hx)
    refine ⟨?_, (hlow _ (by omega) (by omega)).trans h45, ?_, ?_, fun q hq hcut => ?_, fun x hx => ?_, ?_⟩
    · exact runShown_congr hrun fun x hx => hlow x (by have := runEndWord_bounds hx; omega)
        (by have := runEndWord_bounds hx; omega)
    · have hw40 : t.word40 = y.word40 := by rw [he4]; rfl
      rw [hw40, ← h40]
      exact hk4 _ fun h => by have := heldWord_bounds h; omega
    · refine fun e he => slotDone_congr (hcutsy e he) fun x hx => ?_
      have hgone : slotState y.mem e.slot ≠ 2 := fun h =>
        (slotState_after_held hcutsy (fun k hk => hslotkeep k hk _ (.inl rfl)) e.slot).1 h |>.2 e he rfl
      by_cases hin : ∃ q ∈ y.heldOf .hold, q.slot = e.slot
      · obtain ⟨q, hq, hqe⟩ := hin
        have hdone := hd4 q hq
        unfold SlotDone at hdone
        rw [hqe, if_neg hgone] at hdone
        exact hdone x hx
      · exact hk4 x fun ⟨q, hq, hx'⟩ => slotReport_other (fun h => hin ⟨q, hq, h.symm⟩) hx' hx
    · have hdone := hd4 q (by rw [hholds]; exact hq)
      exact slotDone_since hdone fun x hx => hslotkeep q.slot hcut x hx
    · simp only [not_or] at hx
      obtain ⟨hr, hx40, hc, hh⟩ := hx
      exact (hk4 x fun h => hh ((hheld x).1 h)).trans ((hkw x hx40).trans (hk2 x fun h => h.elim hr hc))
    · have hfilter : (y.reqWithout .hold) =
          { s.req with inflight := s.req.inflight.filter fun q => q.kind ≠ .cut ∧ q.kind ≠ .hold } := by
        rw [reqWithout, hreq, reqWithout]
        simp only [List.filter_filter]
        refine congrArg (fun l => { s.req with inflight := l }) (List.filter_congr fun q _ => ?_)
        cases q.kind <;> rfl
      have hgone : y.heldGone .hold = { y with req := y.reqWithout .hold, wake := (y.heldGone .hold).wake } := rfl
      rw [hgone, hfilter, hwake] at he4
      have hy : y =
          { s with
            mem := y.mem, req := y.req, wake := y.wake
            engine :=
              { s.engine with
                mode := .held, ctx := none, cuts := 0, holds := 0, completed := s.engine.completed + 1 } } := by
        rw [he3, he2]
        rfl
      rw [he4, hy]

end

section
/-! PROOFS. The survey timers and their series of triggers (R165; O52). -/

namespace Sys2Proof.Machine.State

variable {s t u v w : State} {l : Fin 32} {src : Source} {n : Fin 4} {e : QEntry} {q : List QEntry}

/-! ## What a trigger does to the queue (R5, R7) -/

theorem mem_place {x : QEntry} : x ∈ place e q ↔ x = e ∨ x ∈ q := by
  rw [(place_perm e q).mem_iff, List.mem_cons]

theorem sublist_place (e : QEntry) (q : List QEntry) : q.Sublist (place e q) := by
  unfold place
  split
  · obtain ⟨ahead, behind, hq, hins, -, -⟩ := insertUrgent_splits e q
    rw [hins]
    nth_rw 1 [hq]
    exact (List.Sublist.refl ahead).append (List.sublist_cons_self e behind)
  · exact List.sublist_append_left q [e]

/-- The list asks for its place in the queue: it is enabled, and its trigger is not shed (R5). -/
def Asks (s : State) (src : Source) (l : Fin 32) : Prop :=
  (readDir s.mem l).enabled = true ∧ ¬ ((readDir s.mem l).sheddable = true ∧ s.duty.shed.drops src = true)

/-- What triggers from one source do to the run queue, the engine not being IDLE. -/
structure QueueGrows (s t : State) (src : Source) (ls : List (Fin 32)) : Prop where
  lists : ∀ l, (∃ q ∈ t.engine.queue, q.list = l) ↔ (∃ q ∈ s.engine.queue, q.list = l) ∨ (l ∈ ls ∧ s.Asks src l)
  stays : s.engine.queue.Sublist t.engine.queue
  source : ∀ q ∈ t.engine.queue, q ∉ s.engine.queue → q.source = src
  keeps : s.KeepsWords t fun a => ∃ l, TriggerWord l a
  rest : t = { s with mem := t.mem, engine := { s.engine with queue := t.engine.queue } }

theorem readDir_of_triggered (hk : s.KeepsWords t fun a => ∃ l, TriggerWord l a) (l : Fin 32) :
    readDir t.mem l = readDir s.mem l := by
  have hd := dirAddr_bounds l
  have hnot (j : Nat) (hj : j < 2) : ¬ ∃ m, TriggerWord m (dirAddr l + j) := by
    rintro ⟨m, h | h | h⟩
    · unfold QueueWord at h
      omega
    · unfold dirAddr at h
      omega
    · have := shedDropAddr_bounds m
      omega
  exact readDir_congr (hk _ (hnot 0 (by omega))) (hk _ (hnot 1 (by omega)))

theorem asks_congr (hk : s.KeepsWords t fun a => ∃ l, TriggerWord l a) (hd : t.duty = s.duty) :
    t.Asks src l ↔ s.Asks src l := by
  unfold Asks
  rw [readDir_of_triggered hk, hd]

theorem QueueGrows.refl (s : State) (src : Source) : QueueGrows s s src [] where
  lists := by simp
  stays := .refl _
  source := fun _ h hn => absurd h hn
  keeps := .refl s _
  rest := rfl

/-- One trigger. -/
theorem triggered_grows (s : State) (l : Fin 32) (src : Source) : QueueGrows s (s.triggered l src) src [l] := by
  have hk : s.KeepsWords (s.triggered l src) fun a => ∃ l, TriggerWord l a :=
    (triggered_keepsWords s l src).mono fun a h => ⟨l, h⟩
  have hstands (hq : (s.triggered l src).engine = s.engine) (hin : (∃ q ∈ s.engine.queue, q.list = l) ∨ ¬ s.Asks src l) :
      QueueGrows s (s.triggered l src) src [l] := by
    have heq := triggered_eq s l src
    generalize s.triggered l src = t at *
    refine ⟨fun m => ?_, by rw [hq], fun q h hn => absurd (hq ▸ h) hn, hk, by rw [heq, hq]⟩
    rw [hq]
    refine ⟨Or.inl, fun h => h.elim id fun ⟨hm, hasks⟩ => ?_⟩
    obtain rfl := List.mem_singleton.1 hm
    exact hin.elim id fun h => absurd hasks h
  by_cases hen : (readDir s.mem l).enabled = false
  · exact hstands (by rw [triggered, if_pos hen]) (.inr fun h => by simp [h.1] at hen)
  by_cases hshed : (readDir s.mem l).sheddable = true ∧ s.duty.shed.drops src = true
  · exact hstands (by rw [triggered, if_neg hen, if_pos hshed]; rfl) (.inr fun h => h.2 hshed)
  by_cases hin : ∃ q ∈ s.engine.queue, q.list = l
  · exact hstands (by rw [triggered, if_neg hen, if_neg hshed, if_pos hin]; rfl) (.inl hin)
  have htrig : s.triggered l src =
      s.setQueue (place { list := l, urgent := (readDir s.mem l).urgent, source := src } s.engine.queue) := by
    rw [triggered, if_neg hen, if_neg hshed, if_neg hin]
  have hqueue : (s.triggered l src).engine.queue =
      place { list := l, urgent := (readDir s.mem l).urgent, source := src } s.engine.queue := by
    rw [htrig, setQueue_engine]
  have heq : s.triggered l src =
      { s with mem := (s.triggered l src).mem, engine := { s.engine with queue := (s.triggered l src).engine.queue } } := by
    rw [htrig, setQueue_eq]
  have hasks : s.Asks src l := ⟨by simpa using hen, hshed⟩
  generalize s.triggered l src = t at *
  refine ⟨fun m => ?_, by rw [hqueue]; exact sublist_place _ _, fun q hq hn => ?_, hk, heq⟩
  · rw [hqueue]
    simp only [mem_place, exists_eq_or_imp, List.mem_singleton]
    constructor
    · rintro (h | h)
      · subst h
        exact .inr ⟨rfl, hasks⟩
      · exact .inl h
    · rintro (h | ⟨h, -⟩)
      · exact .inr h
      · exact .inl h.symm
  · rw [hqueue, mem_place] at hq
    obtain rfl := hq.resolve_right hn
    rfl

theorem QueueGrows.trans {ls ms : List (Fin 32)} (h1 : QueueGrows s t src ls) (h2 : QueueGrows t u src ms) :
    QueueGrows s u src (ls ++ ms) := by
  have hduty : t.duty = s.duty := by rw [h1.rest]
  refine ⟨fun l => ?_, h1.stays.trans h2.stays, fun q hq hn => ?_, (h1.keeps.trans h2.keeps).mono fun a h => h.elim id id, ?_⟩
  · rw [h2.lists, h1.lists, asks_congr h1.keeps hduty, List.mem_append, or_and_right, or_assoc]
  · by_cases hin : q ∈ t.engine.queue
    · exact h1.source q hin hn
    · exact h2.source q hq hin
  · have h1e := h1.rest
    have h2e := h2.rest
    rw [h2e, h1e]

/-- A series of triggers from one source. -/
theorem offerTriggers_grow {ls : List (Fin 32)} (hm : s.engine.mode ≠ .idle) :
    QueueGrows s (ls.foldl (fun s l => s.offerTrigger l src) s) src ls := by
  induction ls generalizing s with
  | nil => exact .refl s src
  | cons l ls ih =>
    have hone := triggered_grows s l src
    rw [List.foldl_cons, offerTrigger_eq hm]
    exact hone.trans (ih (by rw [hone.rest]; exact hm))

/-! ## The series of a survey timer -/

theorem beginSeries_of_stopped (hdue : s.time.surveyDue[n] = none) (hser : s.time.series[n] = []) : s.beginSeries n = s := by
  unfold beginSeries
  rw [hser, hdue]

theorem beginSeries_of_going {m : Fin 32} {rest : List (Fin 32)} (hser : s.time.series[n] = m :: rest) :
    s.beginSeries n = s := by
  unfold beginSeries
  rw [hser]

/-- The timer restarts from its expiry, and its series stands. -/
theorem beginSeries_of_due {due : Moment} (hdue : s.time.surveyDue[n] = some due) (hle : due ≤ s.now)
    (hser : s.time.series[n] = []) :
    s.beginSeries n =
      { s with
        time :=
          { s.time with
            surveyDue := s.time.surveyDue.set n (some (due + 1000 * s.settings.timers[n]))
            series := s.time.series.set n (s.timerLists n) } } := by
  have htens : tens s.settings.timers[n] = 1000 * s.settings.timers[n] := rfl
  unfold beginSeries
  rw [hser, hdue]
  simp only [whenDue_of_le s _ hle, htens]
  rfl

/-- The next triggers of a series. -/
theorem offerSeries_eq (k : Nat) :
    s.offerSeries n k =
      (s.time.series[n].take k).foldl (fun s l => s.offerTrigger l (.timer n))
        { s with time := { s.time with series := s.time.series.set n (s.time.series[n].drop k) } } := rfl

theorem series_set_self {v : Vector (List (Fin 32)) 4} {n : Fin 4} {x : List (Fin 32)} (h : v[n] = x) : v.set n x = v := by
  subst h
  ext i hi
  rw [Vector.getElem_set]
  split
  · next h => subst h; rfl
  · rfl

end Sys2Proof.Machine.State

open Sys2Proof.Machine State in
/-- Settles O52: the series of an expiry, in parts and in one. -/
theorem surveyTimersTriggerTheirLists : Obligations.SurveyTimersTriggerTheirLists := by
  intro s n hr lists restarted
  have hexec (k : Nat) : exec (.surveyTimerExpiry { timer := n, offers := k }) s = .next ((s.beginSeries n).offerSeries n k) :=
    congrArg Host.Outcome.next (whenReady_of_ready _ hr)
  refine ⟨fun k hdue hser => ?_, fun due hdue hle hser => ?_, fun l rest hser hm => ?_, fun due k hdue hle hser hk hm => ?_⟩
  · rw [hexec, beginSeries_of_stopped hdue hser, offerSeries_eq, hser, List.take_nil, List.drop_nil, List.foldl_nil, series_set_self hser]
  · rw [hexec, beginSeries_of_due hdue hle hser, offerSeries_eq]
    simp only [List.take_zero, List.drop_zero, List.foldl_nil, series_set_self rfl]
    rfl
  · have hone : (s.beginSeries n).offerSeries n 1 =
        ({ s with time := { s.time with series := s.time.series.set n rest } } : State).offerTrigger l (.timer n) := by
      rw [beginSeries_of_going hser, offerSeries_eq, hser]
      rfl
    have hexec1 := hexec 1
    rw [hone, offerTrigger_eq (s := { s with time := { s.time with series := s.time.series.set n rest } }) hm] at hexec1
    refine ⟨_, hexec1, triggered_triggered { s with time := { s.time with series := s.time.series.set n rest } } l (.timer n),
      triggered_keepsWords _ _ _, ?_⟩
    exact triggered_eq { s with time := { s.time with series := s.time.series.set n rest } } l (.timer n)
  · intro asks
    have hlen : lists.length ≤ k := (List.length_filter_le _ _).trans (by simpa using hk)
    have hall : (s.beginSeries n).offerSeries n k =
        lists.foldl (fun s l => s.offerTrigger l (.timer n))
          { s with time := { s.time with surveyDue := restarted due, series := s.time.series.set n [] } } := by
      rw [beginSeries_of_due hdue hle hser, offerSeries_eq]
      simp only [Fin.getElem_fin, Vector.getElem_set_self, Vector.set_set]
      rw [show s.timerLists n = lists from rfl, List.take_of_length_le hlen, List.drop_of_length_le hlen]
      rfl
    have hgrows := offerTriggers_grow (src := .timer n) (ls := lists)
      (s := { s with time := { s.time with surveyDue := restarted due, series := s.time.series.set n [] } }) hm
    rw [← hall] at hgrows
    exact ⟨_, hexec k, hgrows.lists, hgrows.stays, hgrows.source, hgrows.keeps, hgrows.rest⟩

end

section
/-! PROOFS. The Watch Unit: state words, grade changes, arming and feeding (R79–R99; O22, O23, O48, O50's grades). -/

namespace Sys2Proof.Machine.State

variable {s t u v w : State} {n m : Fin 64} {x y : Watch} {d : WatchDef} {i : Fin 16} {r : Taken} {l : Fin 32}
  {cause : GradeCause}

/-! ## The state words of a watch (R79) -/

theorem watchWord_bounds {a : Nat} (h : WatchWord n a) : 0x205 ≤ a ∧ a < 0x440 := by
  unfold WatchWord watchAddr at h
  omega

theorem spares_watchWord (n : Fin 64) : Spares r (WatchWord n) :=
  spares_of_bounds fun a ha => by have := watchWord_bounds ha; omega

theorem putWatch_eq (s : State) (n : Fin 64) (x : Watch) :
    s.putWatch n x = { s with mem := (s.putWatch n x).mem, watches := s.watches.set n x } :=
  eq_of_fields (by simp [putWatch, showWatch, setWatchAt])

theorem putWatch_same (s : State) (n : Fin 64) (x : Watch) : (s.putWatch n x).watches[n] = x := by
  rw [putWatch_eq]
  simp

theorem putWatch_keepsWords (s : State) (n : Fin 64) (x : Watch) : s.KeepsWords (s.putWatch n x) (WatchWord n) := by
  intro a ha
  have hb : ¬ (watchAddr n + 5 ≤ a ∧ a ≤ watchAddr n + 8) := ha
  refine (peek_poke_other _ _ _ _ (by omega)).trans ?_
  refine (peek_pokes_other _ _ _ _ ?_)
  simp only [List.length_cons, List.length_nil]
  omega

theorem putWatch_shown (s : State) (n : Fin 64) (x : Watch) : (s.putWatch n x).WatchShown n := by
  have hn := n.isLt
  have hm : Config.memoryWords = 0x8000 := rfl
  have hsame := putWatch_same s n x
  have hpokes (j : Nat) (hj : j < 3) : (s.putWatch n x).peek (watchAddr n + 6 + j) =
      [pack [(16, unsigned 16 x.eng), (16, unsigned 16 x.smooth)], x.lastEval, pack [(25, unsigned 25 x.lastRaw)]].getD j 0 := by
    have hx : (s.setWatchAt n x).watches[n] = x := by simp [setWatchAt]
    have hdef : s.putWatch n x =
        ((s.setWatchAt n x).pokes (watchAddr n + 6)
          [pack [(16, unsigned 16 x.eng), (16, unsigned 16 x.smooth)], x.lastEval,
            pack [(25, unsigned 25 x.lastRaw)]]).poke (watchAddr n + 5) (watchWord5 x) := by
      rw [putWatch, showWatch, hx]
    rw [hdef, peek_poke_other _ _ _ _ (by omega), peek_pokes_same _ _ _ _ hj (by unfold watchAddr; simp; omega)]
    match j, hj with
    | 0, _ => rfl
    | 1, _ => rfl
    | 2, _ => rfl
  refine ⟨?_, ?_, ?_, ?_⟩
  · rw [hsame]
    have hx : (s.setWatchAt n x).watches[n] = x := by simp [setWatchAt]
    rw [putWatch, showWatch, hx]
    exact peek_poke_same _ _ _ (by unfold watchAddr; omega)
  · rw [hsame]
    exact hpokes 0 (by omega)
  · rw [hsame]
    exact hpokes 1 (by omega)
  · rw [hsame]
    exact hpokes 2 (by omega)

theorem watchShown_congr (h : t.WatchShown n) (hx : u.watches[n] = t.watches[n])
    (hk : ∀ a, WatchWord n a → u.peek a = t.peek a) : u.WatchShown n := by
  obtain ⟨h5, h6, h7, h8⟩ := h
  unfold WatchShown
  rw [hx, hk _ ⟨by omega, by omega⟩, hk _ ⟨by omega, by omega⟩, hk _ ⟨by omega, by omega⟩, hk _ ⟨by omega, by omega⟩]
  exact ⟨h5, h6, h7, h8⟩

/-! ## Grade changes (R94–R97) -/

/-- An evaluation that keeps the grade writes the watch, and nothing else. -/
theorem regrade_of_same (h : x.grade = (s.watches[n]).grade) : s.regrade n x d cause = s.putWatch n x := if_pos h

theorem regrade_of_other (h : x.grade ≠ (s.watches[n]).grade) :
    s.regrade n x d cause = (s.putWatch n x).gradeChange n (s.watches[n]).grade d cause := if_neg h

/-- The grade's change as it is recorded, before its trigger and its cause. -/
theorem putWatch_offer (hroom : s.RoomFor i 4) {old : Grade}
    (ht : t = (s.putWatch n x).offer (gradeRecord n old x cause)) :
    t.WatchShown n ∧ s.Recorded t i (gradeRecord n old x cause) ∧
      s.KeepsWords t (fun a => WatchWord n a ∨ s.RecordWord i 4 a) ∧
      t = { s with mem := t.mem, watches := s.watches.set n x, coll := s.collAfter 4 } := by
  have hk1 := putWatch_keepsWords s n x
  have he1 := putWatch_eq s n x
  have hshown := putWatch_shown s n x
  generalize s.putWatch n x = v at *
  obtain ⟨hrec, hk2, he2⟩ := offer_from (s := s) (u := v) (r := gradeRecord n old x cause) (by rw [he1]) (by rw [he1])
    (by rw [he1]) hroom
  rw [← ht] at hrec hk2 he2
  have hplace {a : Nat} (ha : s.RecordWord i (gradeRecord n old x cause).length a) := RecordWord.place hroom ha
  refine ⟨watchShown_congr hshown (by rw [he2]) fun a ha => hk2 a fun h => ?_, hrec, hk1.trans hk2, ?_⟩
  · have := hplace h
    have := watchWord_bounds ha
    omega
  · rw [he2, he1]
    rfl

/-- The change of a grade that names no list to trigger, of a watch that is not the shed watch. -/
theorem regrade_reports (hne : x.grade ≠ (s.watches[n]).grade) (hshed : s.settings.shedWatch ≠ some n)
    (hworsen : d.worsenList = none ∨ x.grade.severity ≤ (s.watches[n]).grade.severity) (hroom : s.RoomFor i 4)
    (ht : t = s.regrade n x d cause) :
    t.WatchShown n ∧ s.Recorded t i (gradeRecord n (s.watches[n]).grade x cause) ∧
      s.KeepsWords t (fun a => WatchWord n a ∨ s.RecordWord i 4 a) ∧
      t =
        { s with
          mem := t.mem, watches := s.watches.set n x, coll := s.collAfter 4
          wake := if d.wakes x.grade then s.raised .grade else s.wake } := by
  obtain ⟨hshown, hrec, hkeep, heq⟩ := putWatch_offer (s := s) (n := n) (x := x) (cause := cause) (old := (s.watches[n]).grade)
    hroom rfl
  rw [regrade_of_other hne, gradeChange, putWatch_same] at ht
  generalize (s.putWatch n x).offer (gradeRecord n (s.watches[n]).grade x cause) = v at *
  have hcalm : (if (s.watches[n]).grade.severity < x.grade.severity then v.offerTriggerTo d.worsenList .grade else v) = v := by
    split
    next h =>
      rw [hworsen.resolve_right (Nat.not_le.2 h)]
      rfl
    next => rfl
  simp only [hcalm] at ht
  have hraise : v.raiseCause .grade = { v with wake := s.raised .grade } := by
    rw [raiseCause_eq, raised_congr (s := s) (by rw [heq]) (by rw [heq]) (by rw [heq])]
  have ht' : t = { v with wake := if d.wakes x.grade then s.raised .grade else s.wake } := by
    rw [ht]
    split
    · rw [if_neg (by rw [hraise, heq]; exact hshed), hraise]
    · rw [if_neg (by rw [heq]; exact hshed)]
      conv_lhs => rw [heq]
      conv_rhs => rw [heq]
  subst ht'
  refine ⟨hshown, hrec, hkeep, ?_⟩
  conv_lhs => rw [heq]

/-- The change to a more severe grade that names a list triggers it, the engine not being IDLE. -/
theorem regrade_triggers (hmode : s.engine.mode ≠ .idle) (hsev : (s.watches[n]).grade.severity < x.grade.severity)
    (hshed : s.settings.shedWatch ≠ some n) (hlist : d.worsenList = some l) (hroom : s.RoomFor i 4)
    (ht : t = s.regrade n x d cause) :
    t.WatchShown n ∧ s.Recorded t i (gradeRecord n (s.watches[n]).grade x cause) ∧ s.Triggered t l .grade s.engine.ctx ∧
      s.KeepsWords t (fun a => WatchWord n a ∨ TriggerWord l a ∨ s.RecordWord i 4 a) ∧
      t =
        { s with
          mem := t.mem, watches := s.watches.set n x, coll := s.collAfter 4, engine := t.engine
          wake := if d.wakes x.grade then s.raised .grade else s.wake } := by
  have hne : x.grade ≠ (s.watches[n]).grade := fun h => by rw [h] at hsev; exact Nat.lt_irrefl _ hsev
  obtain ⟨hshown, hrec, hk1, he1⟩ := putWatch_offer (s := s) (n := n) (x := x) (cause := cause) (old := (s.watches[n]).grade)
    hroom rfl
  rw [regrade_of_other hne, gradeChange, putWatch_same] at ht
  generalize (s.putWatch n x).offer (gradeRecord n (s.watches[n]).grade x cause) = v at *
  have htrig : v.offerTriggerTo d.worsenList .grade = v.triggered l .grade := by
    rw [hlist]
    exact offerTrigger_eq (by rw [he1]; exact hmode)
  simp only [if_pos hsev, htrig] at ht
  have htr := triggered_triggered v l .grade
  have hk2 := triggered_keepsWords v l .grade
  have he2 := triggered_eq v l .grade
  generalize v.triggered l .grade = y at *
  have hraise : y.raiseCause .grade = { y with wake := s.raised .grade } := by
    rw [raiseCause_eq, raised_congr (s := s) (by rw [he2, he1]) (by rw [he2, he1]) (by rw [he2, he1])]
  have ht' : t = { y with wake := if d.wakes x.grade then s.raised .grade else s.wake } := by
    rw [ht]
    split
    · rw [if_neg (by rw [hraise, he2, he1]; exact hshed), hraise]
    · rw [if_neg (by rw [he2, he1]; exact hshed)]
      conv_lhs => rw [he2, he1]
      conv_rhs => rw [he2, he1]
  subst ht'
  have hplace {a : Nat} (ha : s.RecordWord i 4 a) := RecordWord.place hroom ha
  have hdir := dirAddr_bounds l
  have hapart (a : Nat) (ha : TriggerWord l a ∨ (0x180 ≤ a ∧ a < 0x200)) : v.peek a = s.peek a := by
    have hb : (0x46 ≤ a ∧ a ≤ 0x56) ∨ (0xAC ≤ a ∧ a < 0xBC) ∨ (0x180 ≤ a ∧ a < 0x200) :=
      ha.elim triggerWord_bounds fun h => .inr (.inr h)
    refine hk1 a fun h => ?_
    rcases h with h | h
    · have := watchWord_bounds h
      omega
    · have := hplace h
      omega
  refine ⟨watchShown_congr hshown (by show y.watches[n] = _; rw [he2]) fun a ha => hk2 a fun h => ?_,
    recorded_after hrec (by show y.coll = _; rw [he2]) fun a ha => hk2 a fun h => ?_, ?_, ?_, ?_⟩
  · have := watchWord_bounds ha
    have := triggerWord_bounds h
    omega
  · have := hplace ha
    have := triggerWord_bounds h
    omega
  · have hsince : s.Triggered y l .grade v.engine.ctx := triggered_since htr
      (readDir_congr (hapart _ (.inr (by omega))) (hapart _ (.inr (by omega)))) (fun a ha => hapart a (.inl ha))
      (x := s.engine.ctx) (by rw [he1]) (by rw [he1])
    have hctx : v.engine.ctx = s.engine.ctx := by rw [he1]
    rw [hctx] at hsince
    exact hsince
  · refine KeepsWords.mono (hk1.trans hk2) fun a ha => ?_
    rcases ha with (h | h) | h
    · exact .inl h
    · exact .inr (.inr h)
    · exact .inr (.inl h)
  · conv_lhs => rw [he2, he1]

end Sys2Proof.Machine.State
open Sys2Proof.Machine State in
/-- Settles O23: the three answers of WATCH_FEED; an evaluation's grade by classification, hysteresis and persistence. -/
theorem watchFeedEvaluates : Obligations.WatchFeedEvaluates := by
  intro s r h _ n d w v e x count held g w' lapsed
  have hspare := spares_watchWord (r := r) n
  have hexec : exec .watchFeed s = .next (s.whenReady fun s => s.carryOut .watchFeed fun r s =>
      s.feedWatch r.watch (signed 32 r.p2.toNat)) := rfl
  have heval : evaluated d w v none s.time.timestamp s.now = w' := by
    have hsmooth : (if w.restart = true then e else smoothStep d.k w.smooth e) = x := by
      by_cases hr : w.restart = true
      · simp only [x, hr, if_true, true_or]
      · by_cases hk : d.k = 0
        · simp only [x, hr, hk, if_false, smoothStep_zero, or_true, if_true, Bool.false_eq_true]
        · simp only [x, hr, hk, if_false, smoothStep_of_ne_zero hk, or_self, Bool.false_eq_true]
    have hheld : persistStep d.persist w.grade (classify d x) (indicated d w.grade x) w.cand w.pcount = held := by
      simp only [persistStep, held, count]
    unfold evaluated
    simp only [show saturate v = e from rfl, hsmooth, hheld]
    rfl
  have hgrade : w'.grade = g := rfl
  have hlapsed : lapsed = w.unrate := rfl
  have hzero : lapsed.grade = .unrated := rfl
  clear_value w' lapsed g held count x
  have hworked (f : Option Nat) (harmed : w.armed = true) (hf : d.firstFault = f) :
      s.feedWatch r.watch v =
        match f with
        | some k => (s.definitionFault n d, some (.badLimits, BitVec.ofNat 32 k))
        | none => (s.regrade n w' d .evaluation,
            some (.ok, BitVec.ofNat 32 ((s.regrade n w' d .evaluation).watches[n]).grade.code)) := by
    unfold feedWatch
    rw [if_pos (show (s.watches[r.watch]).armed = true from harmed)]
    simp only [show (readDef s.mem r.watch).firstFault = f from hf]
    cases f with
    | some k => rfl
    | none => rw [← heval]; rfl
  refine ⟨fun hunarmed => ?_, fun f harmed hfault => ⟨fun hunrated => ?_, fun i hrated hshed hroom => ?_⟩,
    fun harmed hgood => ⟨fun hsame => ?_, fun i hne hshed hroom hworsen => ?_⟩⟩
  · refine answers_of_idle h hexec (show s.feedWatch r.watch v = (s, some (.notActive, 0)) from if_neg ?_)
    rw [show (s.watches[r.watch]).armed = false from hunarmed]
    decide
  · have hstands : s.definitionFault n d = s := if_pos hunrated
    have hwork := hworked _ harmed hfault
    simp only [hstands] at hwork
    exact answers_of_idle h hexec hwork
  · have hfaulted : s.definitionFault n d = s.regrade n lapsed d .definition := by
      rw [hlapsed]
      exact if_neg hrated
    have hwork := hworked _ harmed hfault
    simp only [hfaulted] at hwork
    obtain ⟨hshown, hrec, hkeep, heq⟩ := regrade_reports (s := s) (n := n) (x := lapsed) (d := d) (cause := .definition)
      (by rw [hzero]; exact fun h => hrated h.symm) hshed (.inr (by rw [hzero]; exact Nat.zero_le _)) hroom rfl
    rw [hzero] at heq
    generalize s.regrade n lapsed d .definition = t at *
    have hsp := hspare.or (spares_recordWord hroom)
    refine answers_of_work h hexec hwork
      { s with
        watches := s.watches.set n lapsed, coll := s.collAfter 4
        wake := if d.wakes .unrated then s.raised .grade else s.wake } hsp hkeep heq rfl (held := s.req.inflight) rfl fun u hu => ⟨?_, ?_⟩
    · exact watchShown_congr hshown (by rw [hu.2]) fun a ha => hu.peek hsp (.inl ha)
    · exact recorded_reported hroom hrec hu
  · have hwork := hworked _ harmed hgood
    rw [regrade_of_same (by rw [hgrade]; exact hsame)] at hwork
    have hcode : ((s.putWatch n w').watches[n]).grade = g := by rw [putWatch_same, hgrade]
    simp only [hcode] at hwork
    have hshown := putWatch_shown s n w'
    refine answers_of_work h hexec hwork { s with watches := s.watches.set n w' } hspare (putWatch_keepsWords s n w')
      (putWatch_eq s n w') rfl (held := s.req.inflight) rfl fun u hu => ?_
    exact watchShown_congr hshown (by rw [hu.2]) fun a ha => hu.peek hspare ha
  · have hwork := hworked _ harmed hgood
    obtain ⟨hshown, hrec, hkeep, heq⟩ := regrade_reports (s := s) (n := n) (x := w') (d := d) (cause := .evaluation)
      (by rw [hgrade]; exact hne) hshed (by rw [hgrade]; exact hworsen) hroom rfl
    have hcode : ((s.regrade n w' d .evaluation).watches[n]).grade = g := by
      rw [heq]
      simp [hgrade]
    simp only [hcode] at hwork
    rw [hgrade] at heq
    generalize s.regrade n w' d .evaluation = t at *
    have hsp := hspare.or (spares_recordWord hroom)
    refine answers_of_work h hexec hwork
      { s with
        watches := s.watches.set n w', coll := s.collAfter 4
        wake := if d.wakes g then s.raised .grade else s.wake } hsp hkeep heq rfl (held := s.req.inflight) rfl fun u hu => ⟨?_, ?_⟩
    · exact watchShown_congr hshown (by rw [hu.2]) fun a ha => hu.peek hsp (.inl ha)
    · exact recorded_reported hroom hrec hu

namespace Sys2Proof.Machine.State

variable {s t u v w : State} {l m : Fin 32} {i : Fin 16} {level : ShedLevel}

/-! ## The shed-drop counts, two to a word (R3, 11.4) -/

theorem field_setField_same (w : Word) {h v : Nat} (hh : h < 2) (hv : v < 65536) :
    field (setField w (16 * h) 16 v) (16 * h) 16 = v := by
  have hw := w.isLt
  have hcases : h = 0 ∨ h = 1 := by omega
  rcases hcases with rfl | rfl <;>
    simp only [field, setField, Nat.shiftRight_eq_div_pow, BitVec.toNat_ofNat, Nat.reduceMul, Nat.reducePow, Nat.div_one,
      Nat.mul_one] at hw ⊢ <;> omega

theorem field_setField_other (w : Word) {h j v : Nat} (hh : h < 2) (hj : j < 2) (hne : h ≠ j) :
    field (setField w (16 * h) 16 v) (16 * j) 16 = field w (16 * j) 16 := by
  have hw := w.isLt
  have hcases : (h = 0 ∧ j = 1) ∨ (h = 1 ∧ j = 0) := by omega
  rcases hcases with ⟨rfl, rfl⟩ | ⟨rfl, rfl⟩ <;>
    simp only [field, setField, Nat.shiftRight_eq_div_pow, BitVec.toNat_ofNat, Nat.reduceMul, Nat.reducePow, Nat.div_one,
      Nat.mul_one] at hw ⊢ <;> omega

/-- The shed-drop count of a list. -/
def shedDrops (s : State) (l : Fin 32) : Nat := field (s.peek (shedDropAddr l)) (16 * (l.val % 2)) 16

theorem shedDrops_bump (s : State) (l m : Fin 32) :
    (s.bumpShedDrop l).shedDrops m = if m = l then min (s.shedDrops l + 1) 65535 else s.shedDrops m := by
  have hl := shedDropAddr_bounds l
  have hsame : (s.bumpShedDrop l).peek (shedDropAddr l) =
      setField (s.peek (shedDropAddr l)) (16 * (l.val % 2)) 16 (satInc 65535 (s.shedDrops l)) :=
    peek_bumpHalf s _ _ (by show shedDropAddr l < _; exact Nat.lt_of_lt_of_le hl.2 (by decide))
  have hmod (n : Nat) : n % 2 < 2 := Nat.mod_lt _ (by decide)
  by_cases hml : m = l
  · subst hml
    rw [if_pos rfl, shedDrops, hsame, field_setField_same _ (hmod _) (by rw [satInc_eq]; omega), satInc_eq]
  · rw [if_neg hml]
    unfold shedDrops
    by_cases haddr : shedDropAddr m = shedDropAddr l
    · have hhalf : l.val % 2 ≠ m.val % 2 := fun h => hml (Fin.ext (by unfold shedDropAddr at haddr; omega))
      rw [haddr, hsame, field_setField_other _ (hmod _) (hmod _) hhalf]
    · rw [show (s.bumpShedDrop l).peek (shedDropAddr m) = s.peek (shedDropAddr m) from bumpHalf_keepsWords _ _ _ _ haddr]

/-! ## The purge (R9) -/

theorem bumpAll_rest (s : State) (es : List QEntry) :
    s.KeepsWords (es.foldl (fun s e => s.bumpShedDrop e.list) s) (fun a => ∃ l, a = shedDropAddr l) ∧
      es.foldl (fun s e => s.bumpShedDrop e.list) s =
        { s with mem := (es.foldl (fun s e => s.bumpShedDrop e.list) s).mem } := by
  induction es generalizing s with
  | nil => exact ⟨.refl s _, rfl⟩
  | cons e es ih =>
    obtain ⟨hkeep, heq⟩ := ih (s.bumpShedDrop e.list)
    refine ⟨(((bumpHalf_keepsWords s _ _).mono fun a h => ⟨e.list, h⟩).trans hkeep).mono fun a h => h.elim id id, ?_⟩
    rw [List.foldl_cons]
    exact heq

theorem bumpAll_drops (s : State) {es : List QEntry} (hn : (es.map QEntry.list).Nodup) (l : Fin 32) :
    (es.foldl (fun s e => s.bumpShedDrop e.list) s).shedDrops l =
      if ∃ e ∈ es, e.list = l then min (s.shedDrops l + 1) 65535 else s.shedDrops l := by
  induction es generalizing s with
  | nil => simp
  | cons e es ih =>
    rw [List.map_cons, List.nodup_cons] at hn
    obtain ⟨hnot, hn⟩ := hn
    rw [List.foldl_cons, ih _ hn, shedDrops_bump]
    by_cases hel : e.list = l
    · subst hel
      have hnone : ¬ ∃ f ∈ es, f.list = e.list := fun ⟨f, hf, h⟩ => hnot (List.mem_map.2 ⟨f, hf, h⟩)
      simp [hnone]
    · simp [hel, Ne.symm hel]

/-- What the purge leaves: the entries that stay, a snapshot, and the counts of the lists that went. -/
theorem purge_purged (hq : s.QueueLaw) (ht : t = s.purge) :
    t.SnapshotShown ∧ s.KeepsWords t (fun a => QueueWord a ∨ ∃ l, a = shedDropAddr l) ∧
      (∀ l, t.shedDrops l =
        if ∃ e ∈ s.engine.queue, e.list = l ∧ purged s.mem e = true then min (s.shedDrops l + 1) 65535 else s.shedDrops l) ∧
      t =
        { s with
          mem := t.mem, engine := { s.engine with queue := s.engine.queue.filter fun e => !purged s.mem e } } := by
  obtain ⟨hn, -⟩ := hq
  have hgone : ((s.engine.queue.filter (purged s.mem)).map QEntry.list).Nodup :=
    hn.sublist ((List.filter_sublist).map _)
  have hdrops := bumpAll_drops s hgone
  obtain ⟨hk1, he1⟩ := bumpAll_rest s (s.engine.queue.filter (purged s.mem))
  unfold purge at ht
  dsimp only at ht
  generalize (s.engine.queue.filter (purged s.mem)).foldl (fun s e => s.bumpShedDrop e.list) s = v at *
  have hk2 := setQueue_keepsWords v (s.engine.queue.filter fun e => !purged s.mem e)
  have he2 := setQueue_eq v (s.engine.queue.filter fun e => !purged s.mem e)
  have hshown := setQueue_shown v (s.engine.queue.filter fun e => !purged s.mem e)
  rw [← ht] at hk2 he2 hshown
  refine ⟨hshown, (hk1.trans hk2).mono fun a h => h.symm, fun l => ?_, ?_⟩
  · have hstands : t.shedDrops l = v.shedDrops l := by
      unfold shedDrops
      rw [hk2 _ fun h => by have := shedDropAddr_bounds l; unfold QueueWord at h; omega]
    rw [hstands, hdrops]
    refine if_congr (exists_congr fun e => ?_) rfl rfl
    rw [List.mem_filter, and_assoc, and_comm (a := purged s.mem e = true)]
  · rw [he2, he1]

/-! ## A new shed level (R157, R158) -/

theorem setShed_rest (s : State) (level : ShedLevel) :
    s.KeepsWords (s.setShed level) (· = 0x40) ∧ s.Shows40 (s.setShed level) ∧
      (s.setShed level).wake.pending = s.wake.pending ∧
      s.setShed level =
        { s with
          mem := (s.setShed level).mem, wake := (s.setShed level).wake, duty := { s.duty with shed := level } } := by
  have hk : s.KeepsWords ((s.setDuty { s.duty with shed := level }).reshow40 s) (· = 0x40) :=
    reshow40_keepsWords (s.setDuty { s.duty with shed := level }) s
  have hs : s.Shows40 ((s.setDuty { s.duty with shed := level }).reshow40 s) :=
    (Shows40.refl s).reshow (u := s.setDuty { s.duty with shed := level }) rfl
  have he : s.setShed level = ((s.setDuty { s.duty with shed := level }).reshow40 s).judge := rfl
  have hp : ((s.setDuty { s.duty with shed := level }).reshow40 s).wake = s.wake := by simp
  generalize (s.setDuty { s.duty with shed := level }).reshow40 s = v at *
  refine ⟨by rw [he]; exact hk, by rw [he]; exact hs.keep rfl rfl, by rw [he, judge]; simp [hp], ?_⟩
  exact eq_of_fields (by simp [setShed])

theorem raised_of_pending {c : WakeCause} (hp : t.wake.pending = s.wake.pending) (hd : t.duty.shed = s.duty.shed)
    (hs : t.settings = s.settings) : t.raised c = s.raised c := by
  have hm : t.maskInForce = s.maskInForce := by simp only [maskInForce, hd, hs]
  simp only [raised, hp, hm]

/-- The new level is set, recorded and raised; a purge may follow. -/
def shedMoved (s : State) (level : ShedLevel) (cause : ShedCause) : State :=
  ((s.setShed level).offer (shedRecord s.duty.shed level s.settings.shedWatch cause)).raiseCause .shed

theorem recomputeShed_eq {cause : ShedCause} (hne : s.derivedLevel ≠ s.duty.shed) :
    s.recomputeShed cause =
      if s.derivedLevel = .survival then (s.shedMoved s.derivedLevel cause).purge else s.shedMoved s.derivedLevel cause :=
  if_neg hne

theorem shedMoved_moves {cause : ShedCause} (hne : level ≠ s.duty.shed) (hroom : s.RoomFor i 3)
    (ht : t = s.shedMoved level cause) :
    t.peek 0x40 = t.word40 ∧ s.Recorded t i (shedRecord s.duty.shed level s.settings.shedWatch cause) ∧
      s.KeepsWords t (fun a => a = 0x40 ∨ s.RecordWord i 3 a) ∧
      t =
        { s with
          mem := t.mem, coll := s.collAfter 3, duty := { s.duty with shed := level }
          wake := ({ s with duty := { s.duty with shed := level } } : State).raised .shed } := by
  obtain ⟨hk1, hshows, hp, he1⟩ := setShed_rest s level
  unfold shedMoved at ht
  generalize s.setShed level = v at *
  have h40 : v.peek 0x40 = v.word40 := hshows.shown fun hw => by
    have hcode := (word40_eq_iff.1 hw).2.2.1
    rw [he1] at hcode
    revert hcode hne
    generalize s.duty.shed = old
    cases level <;> cases old <;> simp [ShedLevel.code]
  obtain ⟨hrec, hk2, he2⟩ := offer_from (s := s) (u := v) (r := shedRecord s.duty.shed level s.settings.shedWatch cause)
    (by rw [he1]) (by rw [he1]) (by rw [he1]) hroom
  generalize v.offer (shedRecord s.duty.shed level s.settings.shedWatch cause) = y at *
  have hraise : t =
      { y with wake := ({ s with duty := { s.duty with shed := level } } : State).raised .shed } := by
    rw [ht, raiseCause_eq, raised_of_pending (s := { s with duty := { s.duty with shed := level } })
      (by rw [he2]; exact hp) (by rw [he2, he1]) (by rw [he2, he1])]
  subst hraise
  refine ⟨?_, hrec, hk1.trans hk2, ?_⟩
  · have hw : State.word40 { y with wake := ({ s with duty := { s.duty with shed := level } } : State).raised .shed } =
        v.word40 := by
      show y.word40 = v.word40
      rw [he2]
      rfl
    rw [hw, ← h40]
    exact hk2 _ (not_recordWord hroom (by omega) (by omega) (by omega) (by omega))
  · conv_lhs => rw [he2, he1]
    rfl

end Sys2Proof.Machine.State
open Sys2Proof.Machine State in
/-- Settles O22: the check of the definition, the state words of the watch, and the end of a shed level in force. -/
theorem watchesArmAndDisarm : Obligations.WatchesArmAndDisarm := by
  intro s r k on h _ hk n d w u
  have hspare := spares_watchWord (r := r) n
  refine ⟨fun f hon hfault => ?_, fun hgood => ?_⟩
  · have hexec : exec .watchArm s = .next (s.whenReady fun s => s.carryOut .watchArm fun r s => s.armWatch r.watch) := rfl
    obtain ⟨rfl, -⟩ := hk.resolve_right fun ⟨_, hoff⟩ => by simp [hon] at hoff
    have hwork : s.armWatch r.watch = (s, some (.badLimits, BitVec.ofNat 32 f)) := by
      simp only [armWatch, show (readDef s.mem r.watch).firstFault = some f from hfault]
    exact answers_of_idle h hexec hwork
  · obtain ⟨work, hexec, hwork⟩ : ∃ work : Taken → State → Carried,
        exec (requestCommand k) s = .next (s.whenReady fun s => s.carryOut k work) ∧
          work r s = ((s.putWatch n w).shedNotice n (if on then .arm else .disarm), some (.ok, 0)) := by
      rcases hk with ⟨rfl, rfl⟩ | ⟨rfl, rfl⟩
      · refine ⟨fun r s => s.armWatch r.watch, rfl, ?_⟩
        simp only [armWatch, show (readDef s.mem r.watch).firstFault = none from hgood rfl]
        rfl
      · exact ⟨fun r s => s.disarmWatch r.watch, rfl, rfl⟩
    have hk1 := putWatch_keepsWords s n w
    have he1 := putWatch_eq s n w
    have hshown := putWatch_shown s n w
    have hsame := putWatch_same s n w
    generalize s.putWatch n w = v at *
    have hlevel : s.settings.shedWatch = some n → v.derivedLevel = .none := by
      intro hsw
      have hvw : v.settings.shedWatch = some n := by rw [he1]; exact hsw
      unfold derivedLevel
      rw [hvw]
      simp only [hsame]
      split <;> rfl
    refine ⟨fun hcalm => ?_, fun i hsw hshed hroom => ?_⟩
    · have hstands : v.shedNotice n (if on then .arm else .disarm) = v := by
        unfold shedNotice
        split
        next hsw =>
          have hsw : s.settings.shedWatch = some n := by rw [he1] at hsw; exact hsw
          refine if_pos ?_
          rw [hlevel hsw, he1, hcalm hsw]
        next => rfl
      rw [hstands] at hwork
      refine answers_of_work h hexec hwork u hspare hk1 he1 rfl (held := s.req.inflight) rfl fun t ht => ?_
      exact watchShown_congr hshown (by rw [ht.2]) fun a ha => ht.peek hspare ha
    · have hmoved : v.shedNotice n (if on then .arm else .disarm) = v.shedMoved .none (if on then .arm else .disarm) := by
        unfold shedNotice
        rw [if_pos (by rw [he1]; exact hsw), recomputeShed_eq (by rw [hlevel hsw, he1]; exact fun h => hshed h.symm),
          hlevel hsw]
        rfl
      rw [hmoved] at hwork
      obtain ⟨h40, hrec, hk2, he2⟩ := shedMoved_moves (s := v) (i := i) (level := .none)
        (cause := if on then .arm else .disarm) (by rw [he1]; exact fun h => hshed h.symm)
        ((roomFor_congr (by rw [he1]) (by rw [he1])).2 hroom) rfl
      have hvshed : v.duty.shed = s.duty.shed := by rw [he1]
      have hvsw : v.settings.shedWatch = some n := by rw [he1]; exact hsw
      rw [hvshed, hvsw] at hrec
      generalize v.shedMoved .none (if on then .arm else .disarm) = y at *
      have hrecs : s.Recorded y i (shedRecord s.duty.shed .none (some n) (if on then .arm else .disarm)) :=
        (recorded_congr (by rw [he1]) (by rw [he1]) (by rw [he1])).1 hrec
      have hplace {a : Nat} (ha : s.RecordWord i 3 a) := RecordWord.place hroom ha
      have hkeep : s.KeepsWords y fun a => WatchWord n a ∨ s.RecordWord i 3 a ∨ a = 0x40 :=
        (hk1.trans hk2).mono fun a ha => by
          rcases ha with ha | ha | ha
          · exact .inl ha
          · exact .inr (.inr ha)
          · exact .inr (.inl ((recordWord_congr (by rw [he1]) (by rw [he1]) a).1 ha))
      have hsp : Spares r fun a => WatchWord n a ∨ s.RecordWord i 3 a ∨ a = 0x40 :=
        hspare.or ((spares_recordWord hroom).or (spares_word (by decide)))
      refine answers_of_work h hexec hwork
        { u with
          duty := { s.duty with shed := .none }, coll := s.collAfter 3
          wake := ({ u with duty := { s.duty with shed := .none } } : State).raised .shed } hsp hkeep ?_ rfl
        (held := s.req.inflight) rfl fun t ht => ⟨?_, ?_, ?_⟩
      · rw [he2, he1]
        rfl
      · refine watchShown_congr hshown (by rw [ht.2, he2]) fun a ha => (ht.peek hsp (.inl ha)).trans (hk2 a fun hx => ?_)
        have := watchWord_bounds ha
        rcases hx with hx | hx
        · omega
        · have := hplace ((recordWord_congr (by rw [he1]) (by rw [he1]) a).1 hx)
          omega
      · rw [ht.word40, ht.peek hsp (.inr (.inr rfl)), h40]
      · exact recorded_after hrecs (by rw [ht.2]) fun a ha => ht.peek hsp (.inr (.inl ha))

namespace Sys2Proof.Machine.State

variable {s t : State} {n m : Fin 64}

/-! ## Freshness (R98, R99) -/

theorem regrade_watches (s : State) (n : Fin 64) (x : Watch) (d : WatchDef) (cause : GradeCause) :
    (s.regrade n x d cause).watches = s.watches.set n x := by
  have hput : (s.putWatch n x).watches = s.watches.set n x := by rw [putWatch_eq]
  unfold regrade
  dsimp only
  split
  · exact hput
  · rw [← hput]
    simp

theorem readDef_congr (h : ∀ a, HostWord a → t.peek a = s.peek a) (n : Fin 64) : readDef t.mem n = readDef s.mem n := by
  have hword (j : Nat) (hj : j ≤ 4) : readWord t.mem (watchAddr n + j) = readWord s.mem (watchAddr n + j) :=
    h _ (.inr (.inr (.inr (.inl ⟨n, by omega, by omega⟩))))
  have h0 : readWord t.mem (watchAddr n) = readWord s.mem (watchAddr n) := hword 0 (by omega)
  unfold readDef
  rw [h0, hword 1 (by omega), hword 2 (by omega), hword 3 (by omega), hword 4 (by omega)]

theorem stale_congr (hdef : readDef t.mem m = readDef s.mem m) (hw : t.watches[m] = s.watches[m]) (hnow : t.now = s.now) :
    t.stale m = s.stale m := by
  simp only [stale, freshChecked, hdef, hw, hnow]

theorem checkFresh_watch (s : State) (n m : Fin 64) :
    ((s.checkFresh n).watches[m]) = if m = n ∧ s.stale n = true then (s.watches[n]).unrate else s.watches[m] := by
  unfold checkFresh
  by_cases hst : s.stale n = true
  · rw [if_pos hst, regrade_watches]
    by_cases hm : m = n
    · subst hm
      simp [hst]
    · rw [if_neg fun h => hm h.1]
      simp only [Fin.getElem_fin]
      exact Vector.getElem_set_ne _ _ fun h => hm (Fin.ext h.symm)
  · rw [if_neg hst, if_neg fun h => hst h.2]

/-- The watches after the checks of a tick: each stale one lapses, and none else changes. -/
theorem checkAll_watch (s : State) {ls : List (Fin 64)} (hn : ls.Nodup) (hbase : 0x2000 ≤ s.settings.base) (m : Fin 64) :
    ((ls.foldl checkFresh s).watches[m]) = if m ∈ ls ∧ s.stale m = true then (s.watches[m]).unrate else s.watches[m] := by
  induction ls generalizing s with
  | nil => simp
  | cons n ls ih =>
    obtain ⟨hnot, hn⟩ := List.nodup_cons.1 hn
    have hkeeps := (Keeps.refl s).checkFresh n
    have hdefs := readDef_congr (hkeeps.host hbase)
    have hone := checkFresh_watch s n m
    have hnow : (s.checkFresh n).now = s.now := by simp [now]
    rw [List.foldl_cons, ih _ hn (hkeeps.region hbase)]
    by_cases hm : m = n
    · subst hm
      rw [if_neg fun h => hnot h.1, hone]
      simp
    · rw [if_neg fun h => hm h.1] at hone
      rw [stale_congr (hdefs m) hone hnow, hone]
      simp [hm]

/-- In an ascending list the first element that passes a test is the least. -/
theorem find?_eq_some_iff_of_ascending {k : Nat} (p : Fin k → Bool) {ls : List (Fin k)} (hs : ls.Pairwise (· < ·))
    (n : Fin k) : ls.find? p = some n ↔ n ∈ ls ∧ p n = true ∧ ∀ j ∈ ls, j < n → p j = false := by
  induction ls with
  | nil => simp
  | cons x xs ih =>
    obtain ⟨hx, hs⟩ := List.pairwise_cons.1 hs
    by_cases hp : p x = true
    · rw [List.find?_cons_of_pos hp, Option.some.injEq]
      constructor
      · rintro rfl
        refine ⟨List.mem_cons_self, hp, fun j hj hlt => ?_⟩
        rcases List.mem_cons.1 hj with rfl | hj
        · exact absurd hlt (lt_irrefl _)
        · exact absurd (hlt.trans (hx j hj)) (lt_irrefl _)
      · rintro ⟨hn, -, hleast⟩
        rcases List.mem_cons.1 hn with rfl | hn
        · rfl
        · rw [hleast x List.mem_cons_self (hx n hn)] at hp
          exact absurd hp nofun
    · rw [List.find?_cons_of_neg hp, ih hs]
      have hp' : p x = false := by simpa using hp
      constructor
      · rintro ⟨hn, hpn, hleast⟩
        refine ⟨List.mem_cons_of_mem _ hn, hpn, fun j hj hlt => ?_⟩
        rcases List.mem_cons.1 hj with rfl | hj
        · exact hp'
        · exact hleast j hj hlt
      · rintro ⟨hn, hpn, hleast⟩
        refine ⟨(List.mem_cons.1 hn).resolve_left fun h => hp (h ▸ hpn), hpn, fun j hj hlt =>
          hleast j (List.mem_cons_of_mem _ hj) hlt⟩

theorem unchecked_ascending (s : State) : s.unchecked.Pairwise (· < ·) :=
  (List.pairwise_lt_finRange 64).sublist (List.drop_sublist _ _)

theorem mem_unchecked (s : State) (n : Fin 64) : n ∈ s.unchecked ↔ s.time.checked ≤ n.val := by
  unfold unchecked
  rw [List.mem_drop_iff_getElem]
  constructor
  · rintro ⟨i, hi, h⟩
    rw [List.getElem_finRange] at h
    subst h
    simp
  · intro h
    refine ⟨n.val - s.time.checked, by simp; omega, ?_⟩
    rw [List.getElem_finRange]
    ext
    simp
    omega

end Sys2Proof.Machine.State

namespace Sys2Proof.Machine.State

variable {s t : State} {n : Fin 64}

theorem checkAll_time (s : State) (ls : List (Fin 64)) : (ls.foldl checkFresh s).time = s.time := by
  induction ls generalizing s with
  | nil => rfl
  | cons n ls ih => exact (ih _).trans (by simp)

/-- What a stale watch's check at `FRESHNESS_EXPIRY` does where the watch is not the shed watch (R98, R99). -/
theorem checkFresh_lapses {i : Fin 16} (hst : s.stale n = true) (hshed : s.settings.shedWatch ≠ some n)
    (hroom : s.RoomFor i 4) (ht : t = s.checkFresh n) :
    t.WatchShown n ∧
      s.Recorded t i (gradeRecord n (s.watches[n]).grade (s.watches[n]).unrate .freshness) ∧
      s.KeepsWords t (fun a => WatchWord n a ∨ s.RecordWord i 4 a) ∧
      t =
        { s with
          mem := t.mem, watches := s.watches.set n (s.watches[n]).unrate, coll := s.collAfter 4
          wake := if (readDef s.mem n).wakes .unrated then s.raised .grade else s.wake } := by
  have hrated : (s.watches[n]).grade ≠ .unrated := by
    unfold stale freshChecked at hst
    simp only [Bool.and_eq_true, decide_eq_true_eq] at hst
    exact hst.1.2
  rw [checkFresh, if_pos hst] at ht
  exact regrade_reports (Ne.symm hrated) hshed (.inr (Nat.zero_le _)) hroom ht

end Sys2Proof.Machine.State

open Sys2Proof.Machine State in
/-- Settles O48: each stale watch lapses at the tick, and the first of them at its own expiry. -/
theorem staleWatchesLapse : Obligations.StaleWatchesLapse := by
  intro s hr hdue hbase lapsed stale first
  have hstale (n : Fin 64) : stale n ↔ n ∈ s.unchecked ∧ s.stale n = true := by
    rw [mem_unchecked]
    simp only [stale, State.stale, freshChecked, Bool.and_eq_true, decide_eq_true_eq, and_assoc]
    refine and_congr_right fun _ => and_congr_right fun _ => ?_
    rw [and_left_comm]
    refine and_congr_right fun _ => and_congr_right fun _ => ?_
    cases (s.watches[n]).mark with
    | none => simp
    | some m =>
      simp only [Option.some.injEq, exists_eq_left', Option.any_some, seconds]
      exact (decide_eq_true_iff).symm
  have hfirst (n : Fin 64) : s.unchecked.find? s.stale = some n ↔ first n := by
    rw [find?_eq_some_iff_of_ascending _ (unchecked_ascending s)]
    simp only [first, hstale]
    constructor
    · rintro ⟨hn, hst, hleast⟩
      refine ⟨⟨hn, hst⟩, fun j hj h => ?_⟩
      rw [hleast j h.1 hj] at h
      exact absurd h.2 nofun
    · rintro ⟨⟨hn, hst⟩, hleast⟩
      refine ⟨hn, hst, fun j hj hlt => ?_⟩
      exact Bool.not_eq_true _ ▸ fun h => hleast j hlt ⟨hj, h⟩
  have hexpiry (n : Fin 64) : exec (.freshnessExpiry n) s =
      .next (if s.unchecked.find? s.stale = some n then (s.setTime { s.time with checked := n.val + 1 }).checkFresh n else s) :=
    congrArg Host.Outcome.next ((whenReady_of_ready _ hr).trans (whenDue_of_le s _ hdue))
  refine ⟨?_, fun n hnot => ?_, fun n i hn hshed hroom => ?_⟩
  · have hexec : exec .watchTick s =
        .next (s.unchecked.foldl State.checkFresh
          (s.setTime { s.time with watchDue := s.time.watchDue + seconds 1, checked := 0 })) :=
      congrArg Host.Outcome.next ((whenReady_of_ready _ hr).trans (whenDue_of_le s _ hdue))
    refine ⟨_, hexec, (checkAll_time _ _).trans rfl, fun n => ?_⟩
    have hw := checkAll_watch (s.setTime { s.time with watchDue := s.time.watchDue + seconds 1, checked := 0 })
      ((unchecked_ascending s).imp fun h => ne_of_lt h) hbase n
    have hst : (s.setTime { s.time with watchDue := s.time.watchDue + seconds 1, checked := 0 }).stale n =
        s.stale n := stale_congr rfl rfl rfl
    rw [hst] at hw
    rw [hw]
    exact ⟨fun h => if_pos ((hstale n).1 h), fun h => if_neg fun h' => h ((hstale n).2 h')⟩
  · rw [hexpiry, if_neg fun h => hnot ((hfirst n).1 h)]
  · have hst : (s.setTime { s.time with checked := n.val + 1 }).stale n = true :=
      (stale_congr rfl rfl rfl).trans ((hstale n).1 hn.1).2
    refine ⟨_, (hexpiry n).trans (congrArg Host.Outcome.next (if_pos ((hfirst n).2 hn))), ?_⟩
    exact checkFresh_lapses (s := s.setTime { s.time with checked := n.val + 1 }) hst hshed hroom rfl

end

section

namespace Sys2Proof.Machine.State

variable {s t u v w : State} {n : Fin 64} {x : Watch} {d : WatchDef} {i : Fin 16} {level : ShedLevel}
  {cause : GradeCause}

/-! ## A grade that moves the shed level (R157, R158) -/

theorem RoomForAll.left {rs qs : List Record} (h : s.RoomForAll i (rs ++ qs)) : s.RoomForAll i rs := fun hne =>
  (h (by simp [hne])).mono (by rw [recordWords_append]; simp)

/-- The new grade of the shed watch is written and recorded, and its cause raised; the engine and the level stand. -/
theorem gradeMoved_rest (hroom : s.RoomFor i 4) {old : Grade}
    (hu : u = (s.putWatch n x).offer (gradeRecord n old x cause))
    (ht : t = if d.wakes x.grade then u.raiseCause .grade else u) :
    t.WatchShown n ∧ s.Recorded t i (gradeRecord n old x cause) ∧
      s.KeepsWords t (fun a => WatchWord n a ∨ s.RecordWord i 4 a) ∧
      t.wake.pending = (if d.wakes x.grade then s.wake.pending ||| causeBit .grade else s.wake.pending) ∧
      t = { s with mem := t.mem, watches := s.watches.set n x, coll := s.collAfter 4, wake := t.wake } := by
  obtain ⟨hshown, hrec, hkeep, heq⟩ := putWatch_offer hroom hu
  clear hu
  have hw : u.wake = s.wake := by rw [heq]
  split at ht
  next hg =>
    rw [raiseCause_eq] at ht
    have hp : (u.raised .grade).pending = s.wake.pending ||| causeBit .grade :=
      congrArg (fun k : WakeUnit => k.pending ||| causeBit .grade) hw
    generalize u.raised .grade = k at *
    subst ht
    refine ⟨hshown, hrec, hkeep, hp.trans (if_pos hg).symm, ?_⟩
    conv_lhs => rw [heq]
  next hg =>
    subst ht
    refine ⟨hshown, hrec, hkeep, by rw [hw, if_neg hg], ?_⟩
    rw [hw]
    exact heq

/-- The words that a new grade of the shed watch changes, the purge's where it is CRIT_LOW. -/
def ShedWord (s : State) (n : Fin 64) (level : ShedLevel) (i : Fin 16) (rs : List Record) (a : Nat) : Prop :=
  WatchWord n a ∨ a = 0x40 ∨ s.RecordWords i rs a ∨ level = .survival ∧ (QueueWord a ∨ ∃ l, a = shedDropAddr l)

theorem spares_shedWord {r : Taken} {rs : List Record} (hroom : s.RoomForAll i rs) :
    Spares r (s.ShedWord n level i rs) := by
  refine spares_of_bounds fun a ha => ?_
  unfold ShedWord QueueWord at ha
  rcases ha with ha | ha | ha | ⟨-, ha | ⟨l, ha⟩⟩
  · have := watchWord_bounds ha; omega
  · omega
  · have := RecordWords.place hroom ha; omega
  · omega
  · have := shedDropAddr_bounds l; omega

end Sys2Proof.Machine.State

namespace Sys2Proof.Machine.State

variable {s t u v w : State} {n : Fin 64} {x : Watch} {d : WatchDef} {i : Fin 16} {level : ShedLevel}
  {cause : GradeCause}

/-- The purge of a rise to SURVIVAL; at another level nothing happens (R9, R158). -/
theorem purgeIf_purged (hq : s.QueueLaw) (ht : t = if level = .survival then s.purge else s) :
    (level = .survival → t.SnapshotShown) ∧
      s.KeepsWords t (fun a => level = .survival ∧ (QueueWord a ∨ ∃ l, a = shedDropAddr l)) ∧
      (∀ l, t.shedDrops l =
        if ∃ e ∈ s.engine.queue, e.list = l ∧ level = .survival ∧ purged s.mem e = true then
          min (s.shedDrops l + 1) 65535
        else s.shedDrops l) ∧
      t =
        { s with
          mem := t.mem
          engine :=
            { s.engine with queue := s.engine.queue.filter fun e => !decide (level = .survival ∧ purged s.mem e = true) } } := by
  by_cases hl : level = .survival
  · obtain ⟨hshown, hkeep, hdrops, heq⟩ := purge_purged hq (ht.trans (if_pos hl))
    simp only [hl, true_and, Bool.decide_eq_true]
    exact ⟨fun _ => hshown, hkeep, hdrops, heq⟩
  · rw [if_neg hl] at ht
    subst ht
    simp [hl, KeepsWords.refl]

/-- What a grade of the shed watch that moves the shed level does, with no list to trigger (R95, R97, R157, R158, R9). -/
theorem regrade_sheds (hq : s.QueueLaw) (hne : x.grade ≠ (s.watches[n]).grade) (hwatch : s.settings.shedWatch = some n)
    (harmed : x.armed = true) (hlevel : levelOfGrade x.grade = level) (hmoves : level ≠ s.duty.shed)
    (hworsen : d.worsenList = none ∨ x.grade.severity ≤ (s.watches[n]).grade.severity)
    {rs : List Record} (hrs : rs = [gradeRecord n (s.watches[n]).grade x cause, shedRecord s.duty.shed level (some n) .grade])
    (hroom : s.RoomForAll i rs) {k : WakeUnit}
    (hk : k = { s.wake with
      pending := if d.wakes x.grade then s.wake.pending ||| causeBit .grade else s.wake.pending })
    (ht : t = s.regrade n x d cause) :
    t.WatchShown n ∧ t.peek 0x40 = t.word40 ∧ s.RecordedAll t i rs ∧ (level = .survival → t.SnapshotShown) ∧
      s.KeepsWords t (s.ShedWord n level i rs) ∧
      (∀ l, t.shedDrops l =
        if ∃ e ∈ s.engine.queue, e.list = l ∧ level = .survival ∧ purged s.mem e = true then
          min (s.shedDrops l + 1) 65535
        else s.shedDrops l) ∧
      t =
        { s with
          mem := t.mem, watches := s.watches.set n x, coll := t.coll, duty := { s.duty with shed := level }
          wake := ({ s with duty := { s.duty with shed := level }, wake := k } : State).raised .shed
          engine :=
            { s.engine with queue := s.engine.queue.filter fun e => !decide (level = .survival ∧ purged s.mem e = true) } } := by
  have hsplit : rs = [gradeRecord n (s.watches[n]).grade x cause] ++ [shedRecord s.duty.shed level (some n) .grade] := hrs
  rw [regrade_of_other hne, gradeChange, putWatch_same] at ht
  generalize hu : (s.putWatch n x).offer (gradeRecord n (s.watches[n]).grade x cause) = u at *
  have hcalm : (if (s.watches[n]).grade.severity < x.grade.severity then u.offerTriggerTo d.worsenList .grade else u) = u := by
    split
    next h =>
      rw [hworsen.resolve_right (Nat.not_le.2 h)]
      rfl
    next => rfl
  simp only [hcalm] at ht
  generalize hv : (if d.wakes x.grade then u.raiseCause .grade else u) = v at *
  obtain ⟨hshown, hrec1, hk1, hp1, he1⟩ := gradeMoved_rest (roomForAll_singleton.1 (hsplit ▸ hroom).left) hu.symm hv.symm
  clear hv hu hcalm u
  have hall1 := recordedAll_singleton hrec1
  have hder : v.derivedLevel = level := by
    unfold derivedLevel
    rw [he1]
    simp only [hwatch, Fin.getElem_fin, Vector.getElem_set_self, harmed, if_true, hlevel]
  rw [if_pos (by rw [he1]; exact hwatch), recomputeShed_eq (by rw [hder, he1]; exact hmoves), hder] at ht
  have hroom2 : v.RoomFor i 3 := 
    (roomForAll_singleton (r := shedRecord s.duty.shed level (some n) .grade)).1
      (roomForAll_behind hall1 (by rw [he1]) (by rw [he1]) (hsplit ▸ hroom))
  obtain ⟨h40, hrec2, hk2, he2⟩ := shedMoved_moves (s := v) (cause := .grade) (by rw [he1]; exact hmoves) hroom2 rfl
  generalize v.shedMoved level .grade = y at *
  have hold : v.duty.shed = s.duty.shed := by rw [he1]
  have hwatched : v.settings.shedWatch = some n := by rw [he1]; exact hwatch
  rw [hold, hwatched] at hrec2
  have hset : v.settings = s.settings := by rw [he1]
  have hst : v.time.timestamp = s.time.timestamp := by rw [he1]
  have hlow {a : Nat} (h : a < 0x2000) (h9B : a ≠ 0x9B) (hA0 : a ≠ 0xA0) (hA1 : a ≠ 0xA1) : ¬ v.RecordWord i 3 a :=
    not_recordWord hroom2 h h9B hA0 hA1
  have hwatchKept {a : Nat} (ha : WatchWord n a) : y.peek a = v.peek a := hk2 a fun h => by
    have := watchWord_bounds ha
    exact h.elim (by omega) (hlow (by omega) (by omega) (by omega) (by omega))
  have hall : s.RecordedAll y i rs := hsplit ▸ hall1.append (recordedAll_singleton hrec2) hset hst (hsplit ▸ hroom) fun a ha hno =>
    hk2 a fun h => by
      have := RecordWords.place (hsplit ▸ hroom).left ha
      exact h.elim (by omega) fun h => hno (recordWords_singleton_iff.2 h)
  have hqy : y.QueueLaw := by
    unfold QueueLaw
    rw [he2, he1]
    exact hq
  have hkept {a : Nat} (hlo : 0xAC ≤ a) (hhi : a < 0x200) : y.peek a = s.peek a := by
    rw [hk2 _ fun h => h.elim (by omega) (hlow (by omega) (by omega) (by omega) (by omega))]
    exact hk1 _ fun h => h.elim (fun h => by have := watchWord_bounds h; omega)
      (not_recordWord (roomForAll_singleton.1 (hsplit ▸ hroom).left) (by omega) (by omega) (by omega) (by omega))
  have hdirs (e : QEntry) : purged y.mem e = purged s.mem e := by
    have hb := dirAddr_bounds e.list
    unfold purged
    rw [readDir_congr (hkept (by omega) (by omega)) (hkept (by omega) (by omega))]
  have hcounts (l : Fin 32) : y.shedDrops l = s.shedDrops l := by
    have hb := shedDropAddr_bounds l
    unfold shedDrops
    rw [hkept (by omega) (by omega)]
  have hqueue : y.engine = s.engine := by rw [he2, he1]
  obtain ⟨hsnap, hk3, hdrops, he3⟩ := purgeIf_purged hqy ht
  simp only [hdirs, hcounts, hqueue] at hdrops he3
  have hlast {a : Nat} (h : a < 0x46 ∨ 0x56 < a ∧ a < 0xAC ∨ 0xBC ≤ a) : t.peek a = y.peek a := hk3 a fun h' => by
    unfold QueueWord at h'
    obtain ⟨-, h' | ⟨l, h'⟩⟩ := h'
    · omega
    · have := shedDropAddr_bounds l; omega
  have hraise : v.wake.pending = k.pending := hp1.trans (by rw [hk])
  refine ⟨watchShown_congr hshown (by rw [he3, he2]) fun a ha => ?_, ?_, ?_, hsnap, ?_, hdrops, ?_⟩
  · have hb := watchWord_bounds ha
    rw [hlast (by omega), hwatchKept ha]
  · rw [hlast (by omega), h40, word40_eq_iff (t := y) (s := t)]
    rw [he3, hqueue]
    exact ⟨rfl, rfl, rfl, rfl, rfl, rfl⟩
  · refine recordedAll_after hall (by rw [he3]) fun a ha => hlast ?_
    have := RecordWords.place hroom ha
    omega
  · refine ((hk1.trans hk2).trans hk3).mono fun a ha => ?_
    rcases ha with ((ha | ha) | (ha | ha)) | ha
    · exact .inl ha
    · rw [hsplit]
      exact .inr (.inr (.inl (recordWords_before (recordWords_singleton_iff.2 ha))))
    · exact .inr (.inl ha)
    · rw [hsplit]
      exact .inr (.inr (.inl (recordWords_behind hall1 hset hst (recordWords_singleton_iff.2 ha))))
    · exact .inr (.inr (.inr ha))
  · have hwake : y.wake = ({ s with duty := { s.duty with shed := level }, wake := k } : State).raised .shed := by
      rw [he2]
      exact raised_of_pending hraise rfl hset
    rw [← hwake]
    exact eq_of_fields (by rw [he3, he2, he1]; simp)

end Sys2Proof.Machine.State

open Sys2Proof.Machine State in
/-- Settles O49: the grade the feed gives the shed watch, and the level that follows. -/
theorem gradeChangesMoveTheShedLevel : Obligations.GradeChangesMoveTheShedLevel := by
  intro s r i h _ hq n d old w level goes rs pending now' harmed hgood hne hwatch hmoves hworsen hroom
  have hlevel : levelOfGrade w.grade = level := by
    simp only [level]
    cases w.grade <;> rfl
  have hwarmed : w.armed = true := harmed
  have hgoes (e : QEntry) : goes e = decide (level = .survival ∧ purged s.mem e = true) := by
    simp only [goes, purged, Bool.and_eq_true, decide_eq_true_eq]
  have hwork : s.feedWatch r.watch (signed 32 r.p2.toNat) =
      (s.regrade n w d .evaluation, some (.ok, BitVec.ofNat 32 ((s.regrade n w d .evaluation).watches[n]).grade.code)) := by
    unfold feedWatch
    rw [if_pos (show (s.watches[r.watch]).armed = true from harmed)]
    simp only [show (readDef s.mem r.watch).firstFault = none from hgood]
    rfl
  rw [regrade_watches, Fin.getElem_fin, Vector.getElem_set_self] at hwork
  clear_value w level goes
  obtain ⟨hshown, h40, hall, hsnap, hkeep, hdrops, heq⟩ := regrade_sheds (s := s) (n := n) (x := w) (d := d)
    (cause := .evaluation) (level := level) hq hne hwatch hwarmed hlevel hmoves hworsen rfl hroom rfl rfl
  generalize s.regrade n w d .evaluation = t at *
  have hsp := spares_shedWord (r := r) (n := n) (level := level) hroom
  have hexec : exec .watchFeed s = .next (s.whenReady fun s => s.carryOut .watchFeed fun r s =>
      s.feedWatch r.watch (signed 32 r.p2.toNat)) := rfl
  simp only [← hgoes] at heq
  obtain ⟨v, hv, hdone, hu⟩ := answers_of_work h hexec hwork
    { now' with
      watches := s.watches.set n w, coll := t.coll
      wake := State.raised { now' with wake := { s.wake with pending } } .shed
      engine := { s.engine with queue := s.engine.queue.filter fun q => !goes q } } hsp hkeep heq rfl
    (held := s.req.inflight) rfl fun u hu => hu
  have hcoll : v.coll = t.coll := by rw [hu.2]
  rw [← hcoll] at hdone
  refine ⟨v, hv, hdone, watchShown_congr hshown (by rw [hu.2]) fun a ha => hu.peek hsp (.inl ha), ?_, ?_, fun hl => ?_, fun l => ?_⟩
  · rw [hu.peek hsp (.inr (.inl rfl)), h40, hu.word40]
  · exact recordedAll_after hall (by rw [hu.2]) fun a ha => hu.peek hsp (.inr (.inr (.inl ha)))
  · exact snapshotShown_congr (hsnap hl) (by rw [hu.2]) fun a ha => hu.peek hsp (.inr (.inr (.inr ⟨hl, .inl ha⟩)))
  · have hb := shedDropAddr_bounds l
    have hpeek : v.peek (shedDropAddr l) = t.peek (shedDropAddr l) :=
      hu.peek (spares_word (b := shedDropAddr l) ⟨by omega, by omega⟩) rfl
    show v.shedDrops l = if _ then min (s.shedDrops l + 1) 65535 else s.shedDrops l
    have hsame : v.shedDrops l = t.shedDrops l := by
      unfold shedDrops
      rw [hpeek]
    rw [hsame, hdrops]
    simp only [hgoes, decide_eq_true_eq]

end

section
/-! PROOFS. A step's value on its way to the watch it names, and SAMPLE_LOCAL (R29, R42, R43, R83; O40). -/

namespace Sys2Proof.Machine.State

variable {s t u v w : State} {n : Fin 64} {o : StepOutcome} {c : Ctx} {i : Fin 16} {src : LocalSource}

/-! ## Delivery (R29, R83) -/

theorem deliverTo_of_none {watch : Option (Fin 64)} (h : ∀ n, watch = some n → (s.watches[n]).armed = false) (o : StepOutcome)
    (wide : Bool) (v : Nat) : s.deliverTo watch o wide v = (s, false) := by
  cases watch with
  | none => rfl
  | some n =>
    unfold deliverTo deliver
    simp only [h n rfl, Bool.false_eq_true, if_false, ite_self]

theorem deliverTo_of_undone (watch : Option (Fin 64)) (h : o ≠ .done) (wide : Bool) (v : Nat) :
    s.deliverTo watch o wide v = (s, false) := by
  cases watch with
  | none => rfl
  | some n => exact if_neg h

/-- A value delivered to an armed watch whose grade stands writes the watch and nothing else (R94). -/
theorem deliverTo_of_same {x : Watch} {wide : Bool} {v : Nat} (harmed : (s.watches[n]).armed = true)
    (hgood : (readDef s.mem n).firstFault = none)
    (hx : x = evaluated (readDef s.mem n) s.watches[n] (scaleValue (readDef s.mem n) (interpretRaw (readDef s.mem n).signedRaw wide v))
      (some (interpretRaw (readDef s.mem n).signedRaw wide v)) s.time.timestamp s.now)
    (hgrade : x.grade = (s.watches[n]).grade) : s.deliverTo (some n) .done wide v = (s.putWatch n x, true) := by
  subst hx
  show (if StepOutcome.done = .done then s.deliver n wide v else (s, false)) = _
  rw [if_pos rfl, deliver, if_pos harmed]
  simp only [hgood]
  exact congrArg (fun y => (y, true)) (regrade_of_same hgrade)

/-! ## A local source (R42, R129) -/

theorem inputAddr_bounds (i : Fin 16) : 0xC0 ≤ inputAddr i ∧ inputAddr i + 3 < 0x100 := by
  unfold inputAddr
  omega

/-- What a local source reads. -/
def localReading (s : State) : LocalSource → Nat
  | .tach i => if (s.settings.inputs[i]).tach then (s.inputs[i]).period else 0
  | .output ch => (s.duty.channels[ch]).output
  | .count i => (s.inputs[i]).count

/-- The inputs once a local source has been read: a count is cleared. -/
def inputsRead (s : State) : LocalSource → Vector Input 16
  | .count i => s.inputs.set i { s.inputs[i] with count := 0 }
  | .tach _ | .output _ => s.inputs

/-- The status word that a read clears the count of. -/
def ClearedWord (src : LocalSource) (a : Nat) : Prop := ∃ i, src = .count i ∧ a = inputAddr i

theorem clearedWord_bounds {a : Nat} (h : ClearedWord src a) : 0xC0 ≤ a ∧ a < 0x100 := by
  obtain ⟨i, -, rfl⟩ := h
  have := inputAddr_bounds i
  omega

theorem localValue_reading (s : State) (src : LocalSource) : (s.localValue src).1 = s.localReading src := by
  cases src <;> rfl

theorem localValue_reads (ht : t = (s.localValue src).2) :
    s.KeepsWords t (ClearedWord src) ∧
      (∀ i, src = .count i → t.peek (inputAddr i) = statusWord { s.inputs[i] with count := 0 } (s.heldFlags i)) ∧
      t = { s with mem := t.mem, inputs := s.inputsRead src } := by
  cases src with
  | tach i =>
    subst ht
    exact ⟨KeepsWords.refl _ _, nofun, rfl⟩
  | output ch =>
    subst ht
    exact ⟨KeepsWords.refl _ _, nofun, rfl⟩
  | count i =>
    subst ht
    have hb := inputAddr_bounds i
    have hword : statusWord ((s.setInputAt i { s.inputs[i] with count := 0 }).inputs[i])
        ((s.setInputAt i { s.inputs[i] with count := 0 }).heldFlags i) =
          statusWord { s.inputs[i] with count := 0 } (s.heldFlags i) := by
      simp only [setInputAt, setInputs, heldFlags, Fin.getElem_fin, Vector.getElem_set_self]
      rfl
    refine ⟨fun a ha => ?_, ?_, rfl⟩
    · exact poke_keepsWords _ _ _ a fun h => ha ⟨i, rfl, h⟩
    · rintro j h
      obtain rfl := LocalSource.count.inj h
      rw [← hword]
      exact peek_poke_same _ _ _ (Nat.lt_of_lt_of_le (show inputAddr i < 0x100 by omega) (by decide))

/-- SAMPLE_LOCAL's end, once its value is delivered. -/
theorem sampled_ends {p : Nat → Prop} {r : Record} {a : Nat} {b : Bool} {iv : Vector Input 16} {ws : Vector Watch 64} (hgo : GoesOn c)
    (h45 : u.peek 0x45 = runningWord (some c)) (hk : s.KeepsWords u p)
    (he : u = { s with
      mem := u.mem, engine := { s.engine with ctx := some { c with executed := c.executed + 1 } }, inputs := iv, watches := ws })
    (ht : t = (if b then u.offer r else u).finishStep none a) :
    (b = false → t.peek 0x45 = runningWord (some c) ∧ (∀ a, t.peek a = u.peek a) ∧ s.KeepsWords t p ∧
      t = { s with
        mem := t.mem, engine := { s.engine with ctx := some (c.stepped a) }, inputs := iv, watches := ws }) ∧
    (b = true → s.RoomFor i r.length →
      t.peek 0x45 = runningWord (some c) ∧ (∀ a, ¬ s.RecordWord i r.length a → t.peek a = u.peek a) ∧ s.Recorded t i r ∧
        s.KeepsWords t (fun a => p a ∨ s.RecordWord i r.length a) ∧
        t = { s with
          mem := t.mem, engine := { s.engine with ctx := some (c.stepped a) }, inputs := iv, watches := ws
          coll := s.collAfter r.length }) := by
  refine ⟨fun hb => ?_, fun hb hroom => ?_⟩
  · rw [hb, if_neg nofun, finishStep_goesOn hgo (by rw [he])] at ht
    subst ht
    refine ⟨h45, fun _ => rfl, hk, ?_⟩
    show ({ u with engine := _ } : State) = _
    conv_lhs => rw [he]
    rfl
  · rw [hb, if_pos rfl] at ht
    obtain ⟨hrec, hk2, he2⟩ := offer_from (s := s) (u := u) (r := r) (by rw [he]) (by rw [he]) (by rw [he]) hroom
    generalize u.offer r = w at *
    rw [finishStep_goesOn hgo (by rw [he2, he])] at ht
    subst ht
    refine ⟨(hk2 _ (not_recordWord hroom (by decide) (by decide) (by decide) (by decide))).trans h45, fun a ha => hk2 a ha,
      recorded_after hrec rfl fun a _ => rfl, hk.trans hk2, ?_⟩
    show ({ w with engine := _ } : State) = _
    conv_lhs => rw [he2, he]
    rfl

end Sys2Proof.Machine.State


open Sys2Proof.Machine State in
/-- Settles O40: the value that SAMPLE_LOCAL takes, where it goes, and the record behind it. -/
theorem sampleLocalReadsThePart : Obligations.SampleLocalReadsThePart := by
  intro s c st hat hgo hf engine value inputs cleared
  have hexec : exec .sampleLocal s = .next ((s.beginStep c).sampleLocal st c.addr)  :=
    exec_atStep (fields := fun _ w0 _ _ => localFields w0) (body := fun st c s => s.sampleLocal st c.addr) (f := st) rfl hat hf
  have hk1 := beginStep_keepsWords s c
  have h45 := peek_beginStep_running s c
  have he1 : s.beginStep c =
      { s with
        mem := (s.beginStep c).mem
        engine := { s.engine with ctx := some { c with executed := c.executed + 1 } } } := rfl
  have hvalue : value = s.localReading st.source := by simp only [value]; cases st.source <;> rfl
  have hinputs : inputs = s.inputsRead st.source := by simp only [inputs]; cases st.source <;> rfl
  have hv := localValue_reading (s.beginStep c) st.source
  obtain ⟨hk2, hcount, he2⟩ := localValue_reads (s := s.beginStep c) (src := st.source) rfl
  have hsample : (s.beginStep c).sampleLocal st c.addr =
      (if st.record then
        (((s.beginStep c).localValue st.source).2.deliverTo st.watch .done false ((s.beginStep c).localValue st.source).1).1.offer
          (readingRecord st.source.place .done (some ((s.beginStep c).localValue st.source).1) st.watch
            (((s.beginStep c).localValue st.source).2.deliverTo st.watch .done false
              ((s.beginStep c).localValue st.source).1).2)
      else (((s.beginStep c).localValue st.source).2.deliverTo st.watch .done false
        ((s.beginStep c).localValue st.source).1).1).finishStep none (c.addr + 1) := rfl
  rw [hsample, hv] at hexec
  clear hsample hv
  have hv : (s.beginStep c).localReading st.source = value := by rw [hvalue]; cases st.source <;> rfl
  have hi : (s.beginStep c).inputsRead st.source = inputs := by rw [hinputs]; cases st.source <;> rfl
  have hheld (j : Fin 16) : (s.beginStep c).heldFlags j = s.heldFlags j := by
    have := inputAddr_bounds j
    unfold heldFlags
    rw [hk1 _ (by omega)]
  rw [hv] at hexec
  rw [hi] at he2
  have hcleared (j : Fin 16) (hj : st.source = .count j) : ((s.beginStep c).localValue st.source).2.peek (inputAddr j) =
      statusWord { s.inputs[j] with count := 0 } (s.heldFlags j) := by
    rw [hcount j hj, hheld]
    rfl
  clear_value value inputs
  clear hv hi hheld hvalue hinputs hcount
  generalize s.beginStep c = b at hexec hk1 h45 he1 hk2 hcleared he2
  generalize (b.localValue st.source).2 = u at hexec hk2 hcleared he2
  have hku : s.KeepsWords u (fun a => a = 0x45 ∨ cleared a) := hk1.trans hk2
  have h45u : u.peek 0x45 = State.runningWord (some c) :=
    (hk2 _ fun h => by have := clearedWord_bounds h; omega).trans h45
  have heu : u =
      { s with
        mem := u.mem, engine := { s.engine with ctx := some { c with executed := c.executed + 1 } }, inputs } := by
    rw [he2, he1]
  have hdef (n : Fin 64) : readDef u.mem n = readDef s.mem n := readDef_congr (fun a ha => hku a fun h => by
    refine not_hostWord_of_status ?_ ?_ ha
    all_goals rcases h with h | h
    · omega
    · exact Nat.le_trans (by decide) (clearedWord_bounds h).1
    · omega
    · exact (clearedWord_bounds h).2) n
  refine ⟨?_, ?_, ?_⟩
  · intro i hi hw hr
    rw [hw, deliverTo_of_none (watch := none) (fun _ h => nomatch h), hr] at hexec
    obtain ⟨-, hpeek, -⟩ := (sampled_ends (s := s) (i := 0) (b := false) hgo h45u hku heu rfl).1 rfl
    exact ⟨_, hexec, (hpeek _).trans (hcleared i hi)⟩
  · intro hunarmed
    rw [deliverTo_of_none (fun n hn => by rw [heu]; exact hunarmed n hn)] at hexec
    refine ⟨fun hr => ?_, fun i hr hroom => ?_⟩
    · obtain ⟨h1, -, h2, h3⟩ := (sampled_ends (s := s) (i := 0) hgo h45u hku heu rfl).1 hr
      exact ⟨_, hexec, h1, h2, h3⟩
    · obtain ⟨h1, -, h2, h3, h4⟩ := (sampled_ends (s := s) (i := i)
        (r := readingRecord st.source.place .done (some value) st.watch false) hgo h45u hku heu rfl).2 hr hroom
      exact ⟨_, hexec, h1, h2, h3.mono fun a ha => or_assoc.1 ha, h4⟩
  · intro n hw harmed hgood d raw w hgrade
    have hsame : u.deliverTo st.watch .done false value = (u.putWatch n w, true) := by
      rw [hw]
      refine deliverTo_of_same (by rw [heu]; exact harmed) (by rw [hdef]; exact hgood) ?_ (by rw [heu]; exact hgrade)
      rw [hdef, heu]
      rfl
    rw [hsame] at hexec
    clear_value w
    have hk3 := putWatch_keepsWords u n w
    have hshown := putWatch_shown u n w
    have he3 := putWatch_eq u n w
    generalize u.putWatch n w = y at hexec hk3 hshown he3
    have h45y : y.peek 0x45 = State.runningWord (some c) :=
      (hk3 _ fun h => by have := watchWord_bounds h; omega).trans h45u
    have hky : s.KeepsWords y (fun a => a = 0x45 ∨ cleared a ∨ WatchWord n a) := (hku.trans hk3).mono fun a ha => or_assoc.1 ha
    have hey : y =
        { s with
          mem := y.mem, engine := { s.engine with ctx := some { c with executed := c.executed + 1 } }, inputs
          watches := s.watches.set n w } := by
      rw [he3, heu]
    refine ⟨fun hr => ?_, fun i hr hroom => ?_⟩
    · obtain ⟨h1, hpeek, h2, h3⟩ := (sampled_ends (s := s) (i := 0) hgo h45y hky hey rfl).1 hr
      exact ⟨_, hexec, h1, watchShown_congr hshown (by rw [h3, hey]) fun a _ => hpeek a, h2, h3⟩
    · obtain ⟨h1, hpeek, h2, h3, h4⟩ := (sampled_ends (s := s) (i := i)
        (r := readingRecord st.source.place .done (some value) st.watch true) hgo h45y hky hey rfl).2 hr hroom
      refine ⟨_, hexec, h1, watchShown_congr hshown (by rw [h4, hey]) fun a ha => hpeek a fun h => ?_, h2,
        h3.mono fun a ha => ?_, h4⟩
      · have := watchWord_bounds ha
        have := RecordWord.place hroom h
        omega
      · exact (or_assoc.1 ha).imp_right or_assoc.1

end

section
/-! PROOFS. What an exchange on the bus leaves of its station, the counts and the records (R57, R58, R66–R71; O42–O46). -/

namespace Sys2Proof.Machine.State

variable {s t u v w : State} {ctl : BusCtl} {i : Fin 30} {x y : Station} {counts : BusCounts} {l : List (Nat × Word)}
  {rs : List Record} {k : Fin 16} {wake : WakeUnit}

/-- `v` has come from `s` by an exchange with station `i`: its record is `x`, the count words `l` show `counts`, and the
records `rs` stand in segment `k`. -/
structure Exchanged (s v : State) (ctl : BusCtl) (i : Fin 30) (x : Station) (counts : BusCounts) (l : List (Nat × Word))
    (rs : List Record) (k : Fin 16) (wake : WakeUnit) : Prop where
  room : s.RoomForAll k rs
  place : ∀ e ∈ l, 0x57 ≤ e.1 ∧ e.1 ≤ 0x5D
  shown : v.StationShown i
  words : ∀ e ∈ l, v.peek e.1 = e.2
  recs : s.RecordedAll v k rs
  keeps : s.KeepsWords v fun b => StationWord i b ∨ b ∈ l.map Prod.fst ∨ s.RecordWords k rs b
  rest : v = { s with mem := v.mem, coll := v.coll, wake, bus := s.busAfter ctl i x counts }

namespace Exchanged

theorem counted_place (h : s.Exchanged v ctl i x counts l rs k wake) {b : Nat} (hb : b ∈ l.map Prod.fst) :
    0x57 ≤ b ∧ b ≤ 0x5D := by
  obtain ⟨e, he, rfl⟩ := List.mem_map.1 hb
  exact h.place e he

/-- The station's record is entered behind the records offered. -/
theorem of_offered (hroom : s.RoomForAll k rs) (hrec : s.RecordedAll w k rs) (hk : s.KeepsWords w (s.RecordWords k rs))
    (he : w = { s with mem := w.mem, coll := w.coll }) (hv : v = w.setStation i x) :
    s.Exchanged v s.bus.ctl i x s.bus.counts [] rs k s.wake := by
  subst hv
  have hk2 := setStation_keepsWords w i x
  refine ⟨hroom, nofun, setStation_shown w i x, nofun, recordedAll_after hrec rfl fun a ha => hk2 a fun h => ?_,
    (hk.trans hk2).mono fun a ha => ?_, ?_⟩
  · have := RecordWords.place hroom ha
    have := stationWord_bounds h
    omega
  · exact ha.elim (fun h => .inr (.inr h)) .inl
  · rw [setStation_eq, he]
    rfl

theorem of_setStation (hv : v = s.setStation i x) : s.Exchanged v s.bus.ctl i x s.bus.counts [] [] k s.wake :=
  of_offered (fun h => absurd rfl h) (RecordedAll.nil rfl) (.refl _ _) rfl hv

/-- A further change of the station's record. -/
theorem station (h : s.Exchanged v ctl i x counts l rs k wake) (hu : u = v.setStation i y) :
    s.Exchanged u ctl i y counts l rs k wake := by
  subst hu
  have hk := setStation_keepsWords v i y
  have hlow {b : Nat} (hb : b < 0x5E ∨ 0x99 < b) : ¬ StationWord i b := fun h => by
    have := stationWord_bounds h
    omega
  refine ⟨h.room, h.place, setStation_shown v i y, fun e he => ?_, recordedAll_after h.recs rfl fun a ha => ?_,
    (h.keeps.trans hk).mono fun a ha => ?_, ?_⟩
  · exact (hk _ (hlow (by have := h.place e he; omega))).trans (h.words e he)
  · exact hk _ (hlow (by have := RecordWords.place h.room ha; omega))
  · exact ha.elim id .inl
  · rw [setStation_eq, h.rest]
    simp only [busAfter, Vector.set_set]

/-- A count rises, and its word shows it (R71). -/
theorem count (h : s.Exchanged v ctl i x counts l rs k wake) {a : Nat} {c : Word} {counts' : BusCounts}
    (ha : 0x57 ≤ a ∧ a ≤ 0x5D) (hnew : a ∉ l.map Prod.fst)
    (ht : t.peek a = c ∧ v.KeepsWords t (· = a) ∧ t = { v with mem := t.mem, bus := { v.bus with counts := counts' } }) :
    s.Exchanged t ctl i x counts' ((a, c) :: l) rs k wake := by
  obtain ⟨hc, hk, he⟩ := ht
  refine ⟨h.room, fun e hm => ?_, stationShown_congr h.shown (by rw [he]) fun b hb => hk b ?_, fun e hm => ?_,
    recordedAll_after h.recs (by rw [he]) fun b hb => hk b ?_, (h.keeps.trans hk).mono fun b hb => ?_, ?_⟩
  · rcases List.mem_cons.1 hm with rfl | hm
    · exact ha
    · exact h.place e hm
  · have := stationWord_bounds hb
    omega
  · rcases List.mem_cons.1 hm with rfl | hm
    · exact hc
    · exact (hk _ fun heq => hnew (heq ▸ List.mem_map.2 ⟨e, hm, rfl⟩)).trans (h.words e hm)
  · have := RecordWords.place h.room hb
    omega
  · rcases hb with (hb | hb | hb) | hb
    · exact .inl hb
    · exact .inr (.inl (List.mem_cons_of_mem _ hb))
    · exact .inr (.inr hb)
    · exact .inr (.inl (hb ▸ List.mem_cons_self))
  · rw [he, h.rest]
    rfl

/-- A station that comes to be LOST, or comes back, is reported (R68). -/
theorem report (h : s.Exchanged v ctl i x counts l [] k s.wake) (hroom : s.RoomFor k 3) {old : StationState} {cause : Nat}
    (ht : t = v.reportStation i old cause) :
    s.Exchanged t ctl i x counts l [stationRecord i old x cause] k (s.raised .station) := by
  have hall : s.RoomForAll k [stationRecord i old x cause] := roomForAll_singleton.2 hroom
  have hx : v.bus.stations[i] = x := by rw [h.rest]; simp [busAfter]
  have hcoll : v.coll = s.coll := h.recs.nil_coll
  unfold reportStation at ht
  rw [hx] at ht
  obtain ⟨hrec, hk, he⟩ := offer_from (s := s) (u := v) (r := stationRecord i old x cause) hcoll (by rw [h.rest]) (by rw [h.rest])
    hroom
  generalize v.offer (stationRecord i old x cause) = w at *
  have hwake : w.raised .station = s.raised .station :=
    raised_congr (t := w) (s := s) (by rw [he, h.rest]) (by rw [he, h.rest]) (by rw [he, h.rest]) _
  rw [raiseCause_eq, hwake] at ht
  subst ht
  refine ⟨hall, h.place, stationShown_congr h.shown (by rw [he]) fun b hb => hk b fun hr => ?_, fun e hm => ?_,
    recordedAll_singleton (recorded_after hrec rfl fun _ _ => rfl), (h.keeps.trans hk).mono fun b hb => ?_, ?_⟩
  · have := stationWord_bounds hb
    have := RecordWord.place hroom hr
    omega
  · refine (hk _ fun hr => ?_).trans (h.words e hm)
    have := h.place e hm
    have := RecordWord.place hroom hr
    omega
  · rcases hb with (hb | hb | hb) | hb
    · exact .inl hb
    · exact .inr (.inl hb)
    · exact absurd rfl hb.1
    · exact .inr (.inr (recordWords_singleton_iff.2 hb))
  · have hw : w = { s with
        mem := w.mem, coll := w.coll, wake := w.wake, bus := s.busAfter ctl i x counts } := by
      rw [show w.coll = s.collAfter _ from hrec.2.2.2, show w.wake = v.wake by rw [he]]
      conv_lhs => rw [he]
      conv_lhs => rw [h.rest]
      rw [show v.wake = s.wake by rw [h.rest]]
    conv_lhs => rw [hw]

/-- The controller's state changes with what its word shows standing. -/
theorem setBusCtl (h : s.Exchanged v ctl i x counts l rs k wake) {ctl' : BusCtl} (ht : t = v.setBus { v.bus with ctl := ctl' }) :
    s.Exchanged t ctl' i x counts l rs k wake := by
  subst ht
  refine ⟨h.room, h.place, stationShown_congr h.shown rfl fun _ _ => rfl, h.words, recordedAll_after h.recs rfl fun _ _ => rfl,
    h.keeps, ?_⟩
  show ({ v with bus := _ } : State) = _
  conv_lhs => rw [h.rest]
  rfl

/-- An exchange is over, and the controller goes on to another state, shown at 0040H. -/
theorem setCtl (h : s.Exchanged v ctl i x counts l rs k wake) {ctl' : BusCtl} (hcode : ctl'.code ≠ ctl.code)
    (ht : t = v.setCtl ctl') :
    t.peek 0x40 = t.word40 ∧ v.KeepsWords t (· = 0x40) ∧ t.StationShown i ∧ (∀ e ∈ l, t.peek e.1 = e.2) ∧
      s.RecordedAll t k rs ∧
      s.KeepsWords t (fun b => (StationWord i b ∨ b ∈ l.map Prod.fst ∨ s.RecordWords k rs b) ∨ b = 0x40) ∧
      t = { s with mem := t.mem, coll := t.coll, wake, bus := s.busAfter ctl' i x counts } := by
  have hcode' : ctl'.code ≠ v.bus.ctl.code := by rw [h.rest]; exact hcode
  have h40 := setCtl_shown ctl' hcode'
  have hk := setCtl_keepsWords v ctl'
  have he := setCtl_eq v ctl'
  rw [← ht] at h40 hk he
  refine ⟨h40, hk, stationShown_congr h.shown (by rw [he]) fun b hb => hk b ?_, fun e hm => (hk _ ?_).trans (h.words e hm),
    recordedAll_after h.recs (by rw [he]) fun b hb => hk b ?_, h.keeps.trans hk, ?_⟩
  · have := stationWord_bounds hb
    omega
  · have := h.place e hm
    omega
  · have := RecordWords.place h.room hb
    omega
  · rw [show t.coll = v.coll by rw [he]]
    conv_lhs => rw [he, h.rest]
    rfl

end Exchanged

/-! ## The ways an exchange goes (R57, R58, R66, R69, R70) -/

theorem heard_exchanged {how : Exchange} (hlost : (s.bus.stations[i]).state ≠ .lost) :
    s.Exchanged (s.heard i how) s.bus.ctl i (s.heardNow i) s.bus.counts [] [] k s.wake :=
  Exchanged.of_setStation (if_neg hlost)

theorem garbledNow_eq (s : State) (i : Fin 30) :
    s.garbledNow i = { s.bus.stations[i] with garbles := satInc 255 s.bus.stations[i].garbles } := by
  rw [satInc_eq]
  rfl

theorem garble_exchanged : s.Exchanged (s.garble i) s.bus.ctl i (s.garbledNow i) s.bus.counts [] [] k s.wake :=
  Exchanged.of_setStation (by rw [garbledNow_eq]; rfl)

/-- A silence, with the report of the loss where it loses the station (R66–R68). -/
theorem silence_exchanged {how : Exchange}
    (hroom : s.RoomForAll k (if s.losesNow i then [stationRecord i (s.bus.stations[i]).state (s.missedNow i) how.silenceCause] else [])) :
    s.Exchanged (s.silence i how) s.bus.ctl i (s.missedNow i) s.bus.counts []
      (if s.losesNow i then [stationRecord i (s.bus.stations[i]).state (s.missedNow i) how.silenceCause] else []) k
      (s.wakeAfterSilence i) := by
  have hloses : s.losesNow i = true ↔
      (s.bus.stations[i]).state ≠ .lost ∧ s.settings.lostLimit ≤ satInc 15 (s.bus.stations[i]).silences := by
    rw [satInc_eq]
    exact decide_eq_true_iff
  by_cases hl : s.losesNow i = true
  · have hmissed : s.missedNow i = { s.bus.stations[i] with silences := satInc 15 (s.bus.stations[i]).silences, state := .lost } := by
      rw [satInc_eq, missedNow, if_pos hl]
    rw [if_pos hl] at hroom ⊢
    rw [wakeAfterSilence, if_pos hl, hmissed]
    refine (Exchanged.of_setStation rfl).report (roomForAll_singleton.1 hroom) ?_
    exact if_pos (hloses.1 hl)
  · have hmissed : s.missedNow i = { s.bus.stations[i] with silences := satInc 15 (s.bus.stations[i]).silences } := by
      rw [satInc_eq, missedNow, if_neg hl]
    rw [if_neg hl, wakeAfterSilence, if_neg hl, hmissed]
    exact Exchanged.of_setStation (if_neg fun h => hl (hloses.2 h))

end Sys2Proof.Machine.State

namespace Sys2Proof.Machine.State

variable {s t u v w z : State} {ctl ctl' : BusCtl} {i : Fin 30} {x y : Station} {counts : BusCounts} {l : List (Nat × Word)}
  {rs : List Record} {k : Fin 16} {wake : WakeUnit} {c : Ctx} {own : OwnEnd} {ready : ReadyPolicy} {failure : FailurePolicy}
  {o : StepOutcome} {next : Nat} {ph : Phase} {p : Nat → Prop}

/-! ## The step behind the exchange (R25, R26) -/

/-- The end of a step leaves what the bus shows (R16, R20). -/
theorem finishStep_keepsPlace (hctx : w.engine.ctx = some { c with phase := ph }) (hown : runEnd c ready failure o = own)
    (hguard : own = none → c.executed < 4096) (hquiet : own ≠ none → w.EndsQuiet { c with endRecord := false })
    (hroom : w.RoomForAll k (endRecords c own)) {a : Nat} (ha : BusPlace a) :
    (w.finishStep (policyEnd ready failure o) next).peek a = w.peek a := by
  subst hown
  rw [finishStep_runEnd hctx hguard]
  cases hend : runEnd c ready failure o with
  | none => rfl
  | some r =>
    obtain ⟨lo, failing⟩ := r
    obtain ⟨-, hq, hm⟩ := hquiet (by rw [hend]; exact nofun)
    rw [hend] at hroom
    obtain ⟨-, -, -, -, -, hk, -⟩ := endRun_over (s := w) (i := k) (c := { c with phase := ph }) (o := lo) (failing := failing)
      (addr := some c.addr) hctx hm hq hroom rfl
    refine hk a ?_
    unfold BusPlace at ha
    have hd := dirAddr_bounds c.list
    have ho := outcomeAddr_bounds c.list
    rintro (h | h | h | h)
    · unfold RunEndWord at h
      dsimp only at h
      omega
    · omega
    · have := heldWord_bounds h
      omega
    · have := RecordWords.place hroom h
      omega

/-- A bus step's end behind its exchange: a watch may take the value, a record may follow, and the policies speak. -/
theorem Exchanged.concludes (h : s.Exchanged v ctl i x counts l rs k wake) (hcode : ctl'.code ≠ ctl.code)
    (hctx : s.engine.ctx = some c) {W : Vector Watch 64} {q : Option Record}
    (hz : (v.setCtl ctl').KeepsWords z p) (hp : ∀ b, p b → 0x200 ≤ b ∧ b < 0x440)
    (hze : z = { v.setCtl ctl' with mem := z.mem, watches := W }) (hown : runEnd c ready failure o = own)
    (hmay : s.MayConclude c own (rs ++ q.toList) k)
    (ht : t = (z.offerAll q.toList).finishStep (policyEnd ready failure o) next) :
    t.StationShown i ∧ (∀ e ∈ l, t.peek e.1 = e.2) ∧
      s.StepConcludes t c own next (rs ++ q.toList) k (fun b => StationWord i b ∨ b ∈ l.map Prod.fst ∨ p b)
        { s with wake, watches := W, bus := s.busAfter ctl' i x counts } := by
  obtain ⟨h40, -, hshown, hwords, hrec, hk, he⟩ := h.setCtl hcode (t := v.setCtl ctl') rfl
  generalize v.setCtl ctl' = y at *
  obtain ⟨hguard, hquiet, hroom⟩ := id hmay
  have hset : y.settings = s.settings := by rw [he]
  have hst : y.time.timestamp = s.time.timestamp := by rw [he]
  have hzset : z.settings = s.settings := by rw [hze]; exact hset
  have hzst : z.time.timestamp = s.time.timestamp := by rw [hze]; exact hst
  have hlow {b : Nat} (hb : b < 0x200 ∨ 0x440 ≤ b) : z.peek b = y.peek b := hz b fun h => by
    have := hp b h
    omega
  have hrecz : s.RecordedAll z k rs := recordedAll_after hrec (by rw [hze]) fun a ha => hlow (by
    have := RecordWords.place h.room ha
    omega)
  have hroomz : z.RoomForAll k q.toList := roomForAll_behind hrecz hzset hzst hroom.left
  obtain ⟨hrecq, hkq, heq⟩ := offerAll_recorded (s := z) (u := z) rfl rfl rfl hroomz rfl
  generalize z.offerAll q.toList = w at *
  have hq {b : Nat} (hb : b < 0x2000) (h9B : b ≠ 0x9B) (hA0 : b ≠ 0xA0) (hA1 : b ≠ 0xA1) : w.peek b = z.peek b :=
    hkq b (not_recordWords hroomz hb h9B hA0 hA1)
  have hrecw : s.RecordedAll w k (rs ++ q.toList) := hrecz.append hrecq hzset hzst hroom.left fun a _ ha => hkq a ha
  have heng : w.engine = s.engine := by rw [heq]; rw [hze]; rw [he]
  have hctxw : w.engine.ctx = some { c with phase := c.phase } := by rw [heng]; exact hctx
  have hquietw : own ≠ none → w.EndsQuiet { c with endRecord := false } := fun hne => by
    obtain ⟨hend, hqueue, hmode⟩ := hquiet hne
    exact ⟨hend, by rw [heng]; exact hqueue, by rw [heng]; exact hmode⟩
  have hroomw : w.RoomForAll k (endRecords c own) :=
    roomForAll_behind hrecw (by rw [heq]; exact hzset) (by rw [heq]; exact hzst) hroom
  have hplace {b : Nat} (hb : 0x57 ≤ b ∧ b < 0x9A) : t.peek b = y.peek b := by
    rw [ht, finishStep_keepsPlace hctxw hown hguard hquietw hroomw (.inl hb), hq (by omega) (by omega) (by omega) (by omega),
      hlow (by omega)]
  have h40w : w.peek 0x40 = w.word40 := by
    rw [hq (by decide) (by decide) (by decide) (by decide), hlow (by decide), h40]
    refine (word40_eq_iff (t := y) (s := w)).2 ?_
    rw [heq, hze]
    exact ⟨rfl, rfl, rfl, rfl, rfl, rfl⟩
  have hconc := finishStep_concludes (v := w) (p := fun b => StationWord i b ∨ b ∈ l.map Prod.fst ∨ p b)
    (u := { s with wake, watches := W, bus := s.busAfter ctl' i x counts }) hown hmay hctxw (x := s.engine.ctx) heng
    (by rw [heq, hze, he]) hrecw (fun _ => h40w) (fun b hb => ?_) (fun b hb => ?_) ?_ rfl rfl ht
  · refine ⟨?_, fun e he' => ?_, hconc⟩
    · obtain ⟨-, -, -, -, heqt⟩ := hconc
      refine stationShown_congr hshown (by rw [heqt, he]) fun b hb => hplace ?_
      have := stationWord_bounds hb
      omega
    · have := h.place e he'
      rw [hplace (by omega), hwords e he']
  · unfold BusPlace
    rcases hb with hb | hb | hb
    · have := stationWord_bounds hb
      omega
    · have := h.counted_place hb
      omega
    · have := hp b hb
      omega
  · simp only [not_or] at hb
    obtain ⟨hb40, ⟨hbs, hbl, hbp⟩, -, hbr⟩ := hb
    rw [hkq b fun h' => hbr (recordWords_behind hrecz hzset hzst h'), hz b hbp]
    exact hk b fun h' => h'.elim (fun h' => h'.elim hbs fun h' => h'.elim hbl fun h' => hbr (recordWords_before h')) hb40
  · rw [heng, show w.req = s.req by rw [heq, hze, he]]
    conv_lhs => rw [heq, hze, he]

end Sys2Proof.Machine.State

end

section
/-! PROOFS. How the transaction of a READ ends (R24–R26, R29–R31, R56–R58, R66–R68; O42). -/

namespace Sys2Proof.Machine.State

variable {s t u v w z : State} {ctl ctl' : BusCtl} {i : Fin 30} {x y : Station} {counts : BusCounts} {l : List (Nat × Word)}
  {rs : List Record} {k : Fin 16} {wake : WakeUnit} {c : Ctx} {own : OwnEnd} {o : StepOutcome} {next : Nat}
  {p q : Nat → Prop} {step : BusStep} {tr : Transaction} {due : Option Moment} {bits : List Bool} {a : Awaited} {rep : Reply}

theorem StepConcludes.of_words (h : s.StepConcludes t c own next rs k p u) (hpq : ∀ a, p a → q a) :
    s.StepConcludes t c own next rs k q u := by
  obtain ⟨heng, h40, hrec, hkeep, heq⟩ := h
  exact ⟨heng, h40, hrec, hkeep.mono fun a ha => ha.imp_right fun ha => ha.imp_left (hpq a), heq⟩

namespace Exchanged

theorem bus_counts (h : s.Exchanged v ctl i x counts l rs k wake) : v.bus.counts = counts := by
  rw [h.rest]
  rfl

theorem station_eq (h : s.Exchanged v ctl i x counts l rs k wake) : v.bus.stations[i] = x := by
  rw [h.rest]
  simp [busAfter]

/-! ## The counts of an exchange (R71) -/

theorem good (h : s.Exchanged v ctl i x counts l rs k wake) (hl : 0x58 ∉ l.map Prod.fst) :
    s.Exchanged v.countGood ctl i x { counts with good := counts.good + 1 } ((0x58, counts.good + 1) :: l) rs k wake := by
  have hc := countGood_counts (s := v) rfl
  rw [h.bus_counts] at hc
  exact h.count (by decide) hl hc

theorem silent (h : s.Exchanged v ctl i x counts l rs k wake) (hl : 0x59 ∉ l.map Prod.fst) :
    s.Exchanged v.countSilent ctl i x { counts with silent := counts.silent + 1 } ((0x59, counts.silent + 1) :: l) rs k wake := by
  have hc := countSilent_counts (s := v) rfl
  rw [h.bus_counts] at hc
  exact h.count (by decide) hl hc

theorem garbled (h : s.Exchanged v ctl i x counts l rs k wake) (hl : 0x5A ∉ l.map Prod.fst) :
    s.Exchanged v.countGarbled ctl i x { counts with garbled := counts.garbled + 1 } ((0x5A, counts.garbled + 1) :: l) rs k
      wake := by
  have hc := countGarbled_counts (s := v) rfl
  rw [h.bus_counts] at hc
  exact h.count (by decide) hl hc

theorem odd (h : s.Exchanged v ctl i x counts l rs k wake) (hl : 0x5B ∉ l.map Prod.fst) :
    s.Exchanged v.countOdd ctl i x { counts with odd := counts.odd + 1 } ((0x5B, counts.odd + 1) :: l) rs k wake := by
  have hc := countOdd_counts (s := v) rfl
  rw [h.bus_counts] at hc
  exact h.count (by decide) hl hc

theorem rollCall (h : s.Exchanged v ctl i x counts l rs k wake) (hl : 0x5D ∉ l.map Prod.fst) :
    s.Exchanged v.countRollCall ctl i x { counts with rollCalls := counts.rollCalls + 1 } ((0x5D, counts.rollCalls + 1) :: l) rs
      k wake := by
  have hc := countRollCall_counts (s := v) rfl
  rw [h.bus_counts] at hc
  exact h.count (by decide) hl hc

/-! ## A call for attention (R69) -/

theorem attend_of_called (h : s.Exchanged v ctl i x counts l rs k wake) (hx : x.attention = true) : v.attend i = v :=
  if_pos (by rw [h.station_eq]; exact hx)

/-! ## The controller behind the exchange (R52) -/

theorem enterIdle (h : s.Exchanged v ctl i x counts l rs k wake) (hb : s.InBusStep c step) : v.enterIdle = v.setCtl .idle := by
  obtain ⟨-, -, -, hwait, hvisit, -⟩ := hb
  exact enterIdle_of_none (by rw [h.rest]; exact hvisit) (by rw [h.rest]; exact hwait)

theorem startDrain (h : s.Exchanged v ctl i x counts l rs k wake) (hb : s.InBusStep c step) :
    v.startDrain = v.setCtl (.draining s.settings.replyTimeout (some (s.now + 100 * s.settings.replyTimeout))) := by
  obtain ⟨-, -, -, -, -, hstray⟩ := hb
  have hs : v.bus.strayArriving = false := by rw [h.rest]; exact hstray
  unfold State.startDrain
  rw [hs, h.rest]
  simp only [Bool.false_eq_true, if_false, millis]
  rfl

theorem ctx_setCtl (h : s.Exchanged v ctl i x counts l rs k wake) (hctx : s.engine.ctx = some c) :
    (v.setCtl ctl').engine.ctx = some c := by
  rw [setCtl_eq, h.rest]
  exact hctx

theorem busResult (h : s.Exchanged v ctl i x counts l rs k wake) (hb : s.InBusStep c step) (r : BusResult) :
    (v.setCtl ctl').busResult r = (v.setCtl ctl').stepResult step r :=
  busResult_of_bus (h.ctx_setCtl hb.2.1) hb.2.2.1 r

end Exchanged

/-! ## The exchanges that judge a reply (R57, R58, R66, R69) -/

theorem judged_of_good (hj : judgeReply a bits = .good rep) (hstatus : a.takes ≠ typeStatus) :
    s.judged a bits =
      (if rep.attention then ((s.heard a.station .transaction).countGood).attend a.station
        else (s.heard a.station .transaction).countGood, rep.outcome, rep) := by
  unfold judged
  rw [hj]
  simp only [if_neg hstatus]

theorem judged_of_garbled (hj : judgeReply a bits = .garbled) :
    s.judged a bits = ((s.garble a.station).countGarbled, .garbled, replyFields bits) := by
  unfold judged
  rw [hj]

theorem judged_of_odd (hj : judgeReply a bits = .odd) :
    s.judged a bits = (((s.offer (oddRecord a.station bits)).garble a.station).countOdd, .odd, replyFields bits) := by
  unfold judged
  rw [hj]

/-- A good reply of a station that calls for no attention, or has called before. -/
theorem good_exchanged (hj : judgeReply a bits = .good rep) (hstatus : a.takes ≠ typeStatus)
    (hlost : (s.bus.stations[a.station]).state ≠ .lost)
    (hcall : rep.attention = true → (s.bus.stations[a.station]).attention = true) :
    ∃ v, s.judged a bits = (v, rep.outcome, rep) ∧
      s.Exchanged v s.bus.ctl a.station (s.heardNow a.station) { s.bus.counts with good := s.bus.counts.good + 1 }
        [(0x58, s.bus.counts.good + 1)] [] k s.wake := by
  have h := (heard_exchanged (k := k) (how := .transaction) hlost).good (by simp)
  refine ⟨_, judged_of_good hj hstatus, ?_⟩
  by_cases hatt : rep.attention = true
  · rw [if_pos hatt, h.attend_of_called (hcall hatt)]
    exact h
  · rw [if_neg hatt]
    exact h

theorem garbled_exchanged (hj : judgeReply a bits = .garbled) :
    ∃ v, s.judged a bits = (v, .garbled, replyFields bits) ∧
      s.Exchanged v s.bus.ctl a.station (s.garbledNow a.station) { s.bus.counts with garbled := s.bus.counts.garbled + 1 }
        [(0x5A, s.bus.counts.garbled + 1)] [] k s.wake :=
  ⟨_, judged_of_garbled hj, garble_exchanged.garbled (by simp)⟩

theorem odd_exchanged (hj : judgeReply a bits = .odd) (hroom : s.RoomForAll k [oddRecord a.station bits]) :
    ∃ v, s.judged a bits = (v, .odd, replyFields bits) ∧
      s.Exchanged v s.bus.ctl a.station (s.garbledNow a.station) { s.bus.counts with odd := s.bus.counts.odd + 1 }
        [(0x5B, s.bus.counts.odd + 1)] [oddRecord a.station bits] k s.wake := by
  refine ⟨_, judged_of_odd hj, ?_⟩
  obtain ⟨hrec, hk, he⟩ := offerAll_recorded (s := s) (u := s) (x := some (oddRecord a.station bits)) rfl rfl rfl hroom rfl
  replace he : s.offer (oddRecord a.station bits) = _ := he
  refine (Exchanged.of_offered hroom hrec hk he ?_).odd (by simp)
  rw [garbledNow_eq]
  show (s.offer (oddRecord a.station bits)).garble a.station = (s.offer (oddRecord a.station bits)).setStation _ _
  unfold garble
  rw [show (s.offer (oddRecord a.station bits)).bus = s.bus by simp]

/-- An expired timeout (R58). -/
theorem silent_exchanged (hroom : s.RoomForAll k (s.lossRecords i)) :
    s.Exchanged (s.silence i .transaction).countSilent s.bus.ctl i (s.missedNow i)
      { s.bus.counts with silent := s.bus.counts.silent + 1 } [(0x59, s.bus.counts.silent + 1)] (s.lossRecords i) k
      (s.wakeAfterSilence i) :=
  (silence_exchanged (how := .transaction) hroom).silent (by simp)

/-! ## The step of a READ (R29–R32) -/

/-- The READING record of a READ, where it asks for one. -/
def readRecord (st : ReadStep) (o : StepOutcome) (v : Option Nat) (armed : Bool) : Option Record :=
  if st.record then some (readingRecord (stationPlace st) o v st.watch armed) else none

/-- A READ's transaction is over, and its step completes. -/
theorem read_concludes {st : ReadStep} {left : Nat} {val : Nat} {armed : Bool} {W : Vector Watch 64}
    (h : s.Exchanged v ctl i x counts l rs k wake) (hb : s.InBusStep c (.read st left)) (hctl : ctl.code ≠ 1)
    (hnot : ¬ (o = .notReady ∧ st.ready = .retry ∧ 0 < left ∧ c.cut = false))
    (hdel : (v.setCtl .idle).deliverTo st.watch o st.wide val = (z, armed))
    (hz : (v.setCtl .idle).KeepsWords z p) (hp : ∀ b, p b → 0x200 ≤ b ∧ b < 0x440)
    (hze : z = { v.setCtl .idle with mem := z.mem, watches := W })
    (hmay : s.MayConclude c (runEnd c st.ready st.failure o) (rs ++ (readRecord st o (doneValue o val) armed).toList) k)
    (ht : t = v.enterIdle.busResult (.outcome o val)) :
    t.StationShown i ∧ (∀ e ∈ l, t.peek e.1 = e.2) ∧
      s.StepConcludes t c (runEnd c st.ready st.failure o) (c.addr + 2)
        (rs ++ (readRecord st o (doneValue o val) armed).toList) k (fun b => StationWord i b ∨ b ∈ l.map Prod.fst ∨ p b)
        { s with wake, watches := W, bus := s.busAfter .idle i x counts } := by
  have hctx := hb.2.1
  have hcut : (v.setCtl .idle).cutRequested = c.cut := by
    unfold cutRequested
    rw [h.ctx_setCtl hctx]
    rfl
  have haddr {q : Option Record} : (z.offerAll q.toList).stepAddr = c.addr := by
    refine stepAddr_of_ctx ?_
    have : (z.offerAll q.toList).engine = z.engine := by
      cases q with
      | none => rfl
      | some r => exact by simp [offerAll]
    rw [this, hze]
    exact h.ctx_setCtl hctx
  have hres : v.enterIdle.busResult (.outcome o val) =
      (z.offerAll (readRecord st o (doneValue o val) armed).toList).finishStep (policyEnd st.ready st.failure o) (c.addr + 2) := by
    rw [h.enterIdle hb, h.busResult hb]
    show (v.setCtl .idle).readResult st left o val = _
    unfold readResult
    rw [hcut, if_neg (by simpa using hnot)]
    unfold readComplete
    rw [hdel, ← haddr (q := readRecord st o (doneValue o val) armed)]
    unfold readRecord
    cases st.record <;> rfl
  rw [hres] at ht
  exact h.concludes (ctl' := .idle) (Ne.symm hctl) hctx hz hp hze rfl hmay ht

end Sys2Proof.Machine.State

namespace Sys2Proof.Machine.State

variable {s t v z : State} {ctl : BusCtl} {i : Fin 30} {x : Station} {counts : BusCounts} {l : List (Nat × Word)}
  {rs : List Record} {k : Fin 16} {wake : WakeUnit} {c : Ctx} {o : StepOutcome} {st : ReadStep} {left : Nat} {val : Nat}
  {step : BusStep} {tr : Transaction} {due : Option Moment}

/-- A READ's step whose value goes to no watch (R29). -/
theorem read_concludes_plain (h : s.Exchanged v ctl i x counts l rs k wake) (hb : s.InBusStep c (.read st left))
    (hctl : ctl.code ≠ 1) (hnot : ¬ (o = .notReady ∧ st.ready = .retry ∧ 0 < left ∧ c.cut = false))
    (hundelivered : o ≠ .done ∨ ∀ n, st.watch = some n → (s.watches[n]).armed = false)
    (hmay : s.MayConclude c (runEnd c st.ready st.failure o) (rs ++ (readRecord st o (doneValue o val) false).toList) k)
    (ht : t = v.enterIdle.busResult (.outcome o val)) :
    t.StationShown i ∧ (∀ e ∈ l, t.peek e.1 = e.2) ∧
      s.StepConcludes t c (runEnd c st.ready st.failure o) (c.addr + 2)
        (rs ++ (readRecord st o (doneValue o val) false).toList) k (fun b => StationWord i b ∨ b ∈ l.map Prod.fst ∨ False)
        { s with wake, bus := s.busAfter .idle i x counts } := by
  have hW : (v.setCtl .idle).watches = s.watches := by rw [setCtl_eq, h.rest]
  have hdel : (v.setCtl .idle).deliverTo st.watch o st.wide val = (v.setCtl .idle, false) := by
    rcases hundelivered with ho | hw
    · exact deliverTo_of_undone _ ho _ _
    · exact deliverTo_of_none (fun n hn => by rw [hW]; exact hw n hn) _ _ _
  exact read_concludes (p := fun _ => False) (W := s.watches) h hb hctl hnot hdel (.refl _ _) (fun _ h => h.elim)
    (by rw [← hW]) hmay ht

theorem exec_replyEnd (hr : s.ready) (hctl : s.bus.ctl = .awaiting tr due) (bits : List Bool) :
    exec (.replyEnd bits) s = .next (s.transactionReply tr bits) := by
  refine congrArg Host.Outcome.next ((whenReady_of_ready _ hr).trans ?_)
  rw [hctl]

theorem exec_replyTimeout {m : Moment} (hr : s.ready) (hctl : s.bus.ctl = .awaiting tr due) (hdue : due = some m)
    (hm : m ≤ s.now) :
    exec .replyTimeout s =
      .next ((s.silence tr.station .transaction).countSilent.enterIdle.busResult (.outcome .silent 0)) := by
  refine congrArg Host.Outcome.next ((whenReady_of_ready _ hr).trans ?_)
  rw [hctl, hdue]
  exact whenDue_of_le s _ hm

theorem exec_replyBegin (hr : s.ready) (hctl : s.bus.ctl = .awaiting tr due) :
    exec .replyBegin s = .next { s with bus := { s.bus with ctl := .awaiting tr none } } := by
  refine congrArg Host.Outcome.next ((whenReady_of_ready _ hr).trans ?_)
  unfold replyBegins
  rw [hctl]
  exact setCtl_of_same_code (by rw [hctl]; rfl)

theorem transactionReply_eq {bits : List Bool} {rep : Reply} (hj : s.judged tr.awaits bits = (v, o, rep)) :
    s.transactionReply tr bits = v.enterIdle.busResult (.outcome o rep.data) := by
  unfold transactionReply
  rw [hj]

end Sys2Proof.Machine.State

open Sys2Proof.Machine State in
/-- Settles O42: a READ's transaction by its reply or by silence, then its step by its policies. -/
theorem repliesEndTransactions : Obligations.RepliesEndTransactions := by
  intro s c st left due k hb hctl i tr counts unarmed reading ends good
  have hr := hb.1
  have hcode : s.bus.ctl.code ≠ 1 := by rw [hctl]; exact show (3 : Nat) ≠ 1 by decide
  have hreading (o : StepOutcome) (v : Option Nat) (armed : Bool) : reading o v armed = (readRecord st o v armed).toList := by
    simp only [reading, readRecord]
    cases st.record <;> rfl
  have hplain {cmd : Sys2Proof.Instr} {v : State} {o : StepOutcome} {val : Nat} {x : Station} {counts' : BusCounts} {a : Nat}
      {wd : Sys2Proof.Word} {rs : List Record} {wake : WakeUnit} (hexec : exec cmd s = .next (v.enterIdle.busResult (.outcome o val)))
      (h : s.Exchanged v s.bus.ctl i x counts' [(a, wd)] rs k wake)
      (hnot : ¬ (o = .notReady ∧ st.ready = .retry ∧ 0 < left ∧ c.cut = false)) (hun : o ≠ .done ∨ unarmed) :
      ends cmd o (rs ++ reading o (doneValue o val) false) x counts' a wd (fun _ => False) { s with wake } := by
    intro hmay
    rw [hreading] at hmay ⊢
    obtain ⟨hshown, hwords, hconc⟩ := read_concludes_plain h hb hcode hnot hun hmay rfl
    exact ⟨_, hexec, hshown, hwords (a, wd) List.mem_cons_self, hconc.of_words fun a ha => ha.imp_right fun ha => ha.imp_left List.mem_singleton.1⟩
  refine ⟨exec_replyBegin hr hctl, fun bits rep hj hlost hcall => ?_, fun bits hj => ?_, fun bits hj hlen => ?_, fun m hdue hm => ?_⟩
  · intro comes
    obtain ⟨v, hjudged, h⟩ := good_exchanged (k := k) hj (show typeData ≠ typeStatus by decide) hlost hcall
    have hexec := (exec_replyEnd hr hctl bits).trans (congrArg _ (transactionReply_eq hjudged))
    have hdone (ha : rep.accept = true) (hrdy : rep.ready = true) : rep.outcome = .done := by simp [Reply.outcome, ha, hrdy]
    have hwaits (ha : rep.accept = true) (hrdy : rep.ready = false) : rep.outcome = .notReady := by
      simp [Reply.outcome, ha, hrdy]
    refine ⟨fun ha hrdy hun => ?_, ?_, fun ha => ?_, fun ha hrdy hnot => ?_, fun ha hrdy hretry hleft hcut => ?_⟩
    · rw [hdone ha hrdy] at hexec
      exact hplain hexec h (fun h => nomatch h.1) (.inr hun)
    · intro n ha hrdy hw harmed d raw w hgood hgrade hmay
      rw [hdone ha hrdy] at hexec
      rw [hreading] at hmay ⊢
      obtain ⟨-, hk0, -, -, -, hk, he⟩ := h.setCtl (ctl' := .idle) (Ne.symm hcode) rfl
      have hdef : readDef (v.setCtl .idle).mem n = readDef s.mem n := readDef_congr (fun a ha => hk a fun h' => by
        have hplace : 0x40 ≤ a ∧ a < 0x100 := by
          rcases h' with (h' | h' | h') | h'
          · have := stationWord_bounds h'; omega
          · have := h.counted_place h'; omega
          · exact absurd rfl h'.1
          · omega
        exact not_hostWord_of_status hplace.1 hplace.2 ha) n
      have hdel : (v.setCtl .idle).deliverTo st.watch .done st.wide rep.data = ((v.setCtl .idle).putWatch n w, true) := by
        rw [hw]
        refine deliverTo_of_same (by rw [he]; exact harmed) (by rw [hdef]; exact hgood) ?_ (by rw [he]; exact hgrade)
        rw [hdef, he]
        rfl
      have hW : (v.setCtl .idle).watches = s.watches := by rw [he]
      clear_value w
      obtain ⟨hshown, hwords, hconc⟩ := read_concludes (o := .done) (p := WatchWord n) (W := s.watches.set n w) h hb hcode
        (fun h => nomatch h.1) hdel (putWatch_keepsWords _ n w) (fun b hb => by have := watchWord_bounds hb; omega)
        (by rw [putWatch_eq, hW]) hmay rfl
      exact ⟨_, hexec, hshown, hwords (0x58, good.good) List.mem_cons_self, hconc.of_words fun a ha => ha.imp_right fun ha => ha.imp_left List.mem_singleton.1⟩
    · rw [show rep.outcome = .refused by simp [Reply.outcome, ha]] at hexec
      exact hplain hexec h (fun h => nomatch h.1) (.inl nofun)
    · rw [hwaits ha hrdy] at hexec
      exact hplain hexec h (fun h => hnot h.2) (.inl nofun)
    · rw [hwaits ha hrdy, h.enterIdle hb, h.busResult hb] at hexec
      have hcutv : (v.setCtl .idle).cutRequested = false := by
        unfold cutRequested
        rw [h.ctx_setCtl hb.2.1]
        exact hcut
      have hagain : (v.setCtl .idle).stepResult (.read st left) (.outcome .notReady rep.data) =
          (v.setCtl .idle).setPhase
            (.spacing st (left - 1) ((v.setCtl .idle).now + millis (v.setCtl .idle).settings.retrySpacing)) :=
        if_pos ⟨rfl, hretry, hleft, by rw [hcutv]; exact nofun⟩
      rw [hagain] at hexec
      have hctx := h.ctx_setCtl (ctl' := .idle) hb.2.1
      obtain ⟨h40, -, hshown, hwords, hrecs, hk, he⟩ := h.setCtl (ctl' := .idle) (Ne.symm hcode) rfl
      have hcoll : (v.setCtl .idle).coll = s.coll := hrecs.nil_coll
      generalize v.setCtl .idle = y at *
      refine ⟨_, hexec, stationShown_congr hshown rfl fun _ _ => rfl, h40, hwords (0x58, good.good) List.mem_cons_self, ?_, ?_⟩
      · refine KeepsWords.mono (p := _) (t := y.setPhase _) hk fun a ha => ?_
        rcases ha with (ha | ha | ha) | ha
        · exact .inl ha
        · exact .inr (.inr (by simpa using ha))
        · exact absurd rfl ha.1
        · exact .inr (.inl ha)
      · unfold setPhase
        rw [hctx]
        show ({ y with engine := _ } : State) = _
        conv_lhs => rw [he, hcoll]
        rfl
  · obtain ⟨v, hjudged, h⟩ := garbled_exchanged (s := s) (k := k) hj
    have hexec := (exec_replyEnd hr hctl bits).trans (congrArg _ (transactionReply_eq hjudged))
    exact hplain hexec h (fun h => nomatch h.1) (.inl nofun)
  · intro hmay
    obtain ⟨v, hjudged, h⟩ := odd_exchanged (s := s) (k := k) hj hmay.2.2.left.left
    have hexec := (exec_replyEnd hr hctl bits).trans (congrArg _ (transactionReply_eq hjudged))
    exact hplain hexec h (fun h => nomatch h.1) (.inl nofun) hmay
  · intro hmay
    exact hplain (exec_replyTimeout hr hctl hdue hm) (silent_exchanged hmay.2.2.left.left) (fun h => nomatch h.1) (.inl nofun) hmay

end

section
/-! PROOFS. How the transactions of WRITE, CONTROL, STATUS_POLL and selected CLEAR end (R36–R38, R41, R66–R70; O43). -/

namespace Sys2Proof.Machine.State

variable {s t u v w y z : State} {ctl : BusCtl} {i : Fin 30} {x : Station} {counts : BusCounts} {l : List (Nat × Word)}
  {rs : List Record} {k : Fin 16} {wake : WakeUnit} {c : Ctx} {own : OwnEnd} {o : StepOutcome} {n : Nat}
  {step : BusStep} {tr : Transaction} {bits : List Bool} {a : Awaited} {rep : Reply} {ready : ReadyPolicy}
  {failure : FailurePolicy} {val : Nat}

/-! ## Calls for attention (R69, R70) -/

/-- Whether a good reply calls for attention: by its flag, or by the service bit of a status byte taken. -/
def Calls (a : Awaited) (rep : Reply) : Prop :=
  if a.takes = typeStatus then rep.outcome = .done ∧ rep.data.testBit 7 = true else rep.attention = true

/-- The record of a station whose reply is good, once its attention flag is settled. -/
def heardBy (s : State) (a : Awaited) (rep : Reply) : Station :=
  if a.takes = typeStatus then
    if rep.outcome = .done then
      { s.heardNow a.station with status := some (BitVec.ofNat 8 rep.data), attention := rep.data.testBit 7 }
    else s.heardNow a.station
  else if rep.attention then { s.heardNow a.station with attention := true }
  else s.heardNow a.station

/-- The station's record before its flag is newly set. -/
def enteredBy (s : State) (a : Awaited) (rep : Reply) : Station :=
  if a.takes = typeStatus then { s.heardNow a.station with status := some (BitVec.ofNat 8 rep.data) }
  else s.heardNow a.station

/-- A flag set already is set; one newly set triggers nothing where no list is named. -/
theorem Exchanged.attend (h : s.Exchanged v ctl i x counts l rs k wake)
    (hcall : x.attention = true ∨ s.settings.attention[i] = none) :
    s.Exchanged (v.attend i) ctl i { x with attention := true } counts l rs k wake := by
  by_cases hx : x.attention = true
  · rw [h.attend_of_called hx, show ({ x with attention := true } : Station) = x by rw [← hx]]
    exact h
  · have hlist : v.settings.attention[i] = none := by rw [h.rest]; exact hcall.resolve_left hx
    refine h.station ?_
    unfold State.attend
    rw [h.station_eq, if_neg hx, hlist]
    rfl

/-- A flag newly set triggers the station's attention list. -/
theorem Exchanged.attend_triggers (h : s.Exchanged v ctl i x counts l rs k wake) {m : Fin 32} (hx : x.attention = false)
    (hlist : s.settings.attention[i] = some m) (hmode : s.engine.mode ≠ .idle) :
    ∃ y, s.Exchanged y ctl i { x with attention := true } counts l rs k wake ∧ v.attend i = y.triggered m .attention := by
  refine ⟨_, h.station rfl, ?_⟩
  have hl : v.settings.attention[i] = some m := by rw [h.rest]; exact hlist
  have hm : (v.setStation i { x with attention := true }).engine.mode ≠ .idle := by
    rw [setStation_eq, h.rest]
    exact hmode
  unfold State.attend
  rw [h.station_eq, if_neg (by rw [hx]; exact nofun), hl]
  exact offerTrigger_eq hm

theorem judged_of_status (hj : judgeReply a bits = .good rep) (hstatus : a.takes = typeStatus) :
    s.judged a bits =
      (if rep.outcome = .done then ((s.heard a.station .transaction).countGood).statusByte a.station rep.data
        else (s.heard a.station .transaction).countGood, rep.outcome, rep) := by
  unfold judged
  rw [hj]
  simp only [if_pos hstatus]

/-- A good reply that calls no list (R66, R69, R70). -/
theorem heardBy_exchanged (hj : judgeReply a bits = .good rep) (hlost : (s.bus.stations[a.station]).state ≠ .lost)
    (hcall : Calls a rep → (s.bus.stations[a.station]).attention = true ∨ s.settings.attention[a.station] = none) :
    ∃ v, s.judged a bits = (v, rep.outcome, rep) ∧
      s.Exchanged v s.bus.ctl a.station (s.heardBy a rep) { s.bus.counts with good := s.bus.counts.good + 1 }
        [(0x58, s.bus.counts.good + 1)] [] k s.wake := by
  have h := (heard_exchanged (k := k) (how := .transaction) hlost).good (by simp)
  unfold heardBy
  unfold Calls at hcall
  by_cases hstatus : a.takes = typeStatus
  · refine ⟨_, judged_of_status hj hstatus, ?_⟩
    rw [if_pos hstatus] at hcall ⊢
    by_cases hdone : rep.outcome = .done
    · rw [if_pos hdone, if_pos hdone]
      have hb := h.station (y := { s.heardNow a.station with status := some (BitVec.ofNat 8 rep.data) }) rfl
      unfold statusByte
      rw [h.station_eq]
      by_cases hbit : rep.data.testBit 7 = true
      · rw [if_pos hbit, hbit]
        exact hb.attend (hcall ⟨hdone, hbit⟩)
      · rw [if_neg hbit, Bool.eq_false_iff.2 hbit]
        exact hb.station (by rw [hb.station_eq])
    · rw [if_neg hdone, if_neg hdone]
      exact h
  · refine ⟨_, judged_of_good hj hstatus, ?_⟩
    rw [if_neg hstatus] at hcall ⊢
    by_cases hatt : rep.attention = true
    · rw [if_pos hatt, if_pos hatt]
      exact h.attend (hcall hatt)
    · rw [if_neg hatt, if_neg hatt]
      exact h

/-- A good reply that newly calls a list. -/
theorem heardBy_triggers (hj : judgeReply a bits = .good rep) (hlost : (s.bus.stations[a.station]).state ≠ .lost)
    (hcall : Calls a rep) (hx : (s.bus.stations[a.station]).attention = false) {m : Fin 32}
    (hlist : s.settings.attention[a.station] = some m) (hmode : s.engine.mode ≠ .idle) :
    ∃ v, s.judged a bits = (v.triggered m .attention, rep.outcome, rep) ∧
      s.Exchanged v s.bus.ctl a.station (s.heardBy a rep) { s.bus.counts with good := s.bus.counts.good + 1 }
        [(0x58, s.bus.counts.good + 1)] [] k s.wake := by
  have h := (heard_exchanged (k := k) (how := .transaction) hlost).good (by simp)
  unfold heardBy
  unfold Calls at hcall
  by_cases hstatus : a.takes = typeStatus
  · rw [if_pos hstatus] at hcall ⊢
    obtain ⟨hdone, hbit⟩ := hcall
    have hb := h.station (y := { s.heardNow a.station with status := some (BitVec.ofNat 8 rep.data) }) rfl
    obtain ⟨y, hy, heq⟩ := hb.attend_triggers hx hlist hmode
    refine ⟨y, ?_, ?_⟩
    · rw [judged_of_status hj hstatus, if_pos hdone]
      unfold statusByte
      rw [h.station_eq, if_pos hbit, heq]
    · rw [if_pos hdone, hbit]
      exact hy
  · rw [if_neg hstatus] at hcall ⊢
    obtain ⟨y, hy, heq⟩ := h.attend_triggers hx hlist hmode
    refine ⟨y, ?_, ?_⟩
    · rw [judged_of_good hj hstatus, if_pos hcall, heq]
    · rw [if_pos hcall]
      exact hy

/-! ## The step of such a transaction (R25, R26, R36–R38, R41) -/

/-- The STATUS record of a STATUS_POLL. -/
def pollRecord (tr : Transaction) (o : StepOutcome) (v : Option Nat) : Option Record :=
  match tr with
  | .status i => some (statusRecord i o v)
  | .read _ _ _ | .write _ _ _ _ | .control _ _ _ | .clear _ => none

theorem stepResult_goesBy (hg : GoesBy step tr ready failure n) (hctx : y.engine.ctx = some c) :
    y.stepResult step (.outcome o val) =
      (y.offerAll (pollRecord tr o (doneValue o val)).toList).finishStep (policyEnd ready failure o) (c.addr + n) := by
  have haddr : y.stepAddr = c.addr := stepAddr_of_ctx hctx
  have hcontinue : policyEnd .pass .continue o = none := by cases o <;> rfl
  cases step with
  | write st =>
    obtain ⟨rfl, rfl, rfl, rfl⟩ := hg
    rw [← haddr]
    rfl
  | control st =>
    obtain ⟨rfl, rfl, rfl, rfl⟩ := hg
    rw [← haddr]
    rfl
  | statusPoll st =>
    obtain ⟨rfl, rfl, rfl, rfl⟩ := hg
    rw [hcontinue, ← haddr]
    rfl
  | clear =>
    obtain ⟨⟨j, rfl⟩, rfl, rfl, rfl⟩ := hg
    rw [hcontinue, ← haddr]
    rfl
  | read _ _ => exact hg.elim
  | block _ => exact hg.elim
  | rollCall => exact hg.elim
  | sampleAll => exact hg.elim

/-- Such a transaction is over, and its step completes. -/
theorem transaction_concludes (hg : GoesBy step tr ready failure n) (h : s.Exchanged v ctl i x counts l rs k wake)
    (hb : s.InBusStep c step) (hctl : ctl.code ≠ 1)
    (hmay : s.MayConclude c (runEnd c ready failure o) (rs ++ (pollRecord tr o (doneValue o val)).toList) k)
    (ht : t = v.enterIdle.busResult (.outcome o val)) :
    t.StationShown i ∧ (∀ e ∈ l, t.peek e.1 = e.2) ∧
      s.StepConcludes t c (runEnd c ready failure o) (c.addr + n) (rs ++ (pollRecord tr o (doneValue o val)).toList) k
        (fun b => StationWord i b ∨ b ∈ l.map Prod.fst ∨ False) { s with wake, bus := s.busAfter .idle i x counts } := by
  have hctx := h.ctx_setCtl (ctl' := .idle) hb.2.1
  have hW : (v.setCtl .idle).watches = s.watches := by rw [setCtl_eq, h.rest]
  rw [h.enterIdle hb, h.busResult hb, stepResult_goesBy hg hctx] at ht
  exact h.concludes (p := fun _ => False) (W := s.watches) (ctl' := .idle) (Ne.symm hctl) hb.2.1 (.refl _ _) (fun _ h => h.elim)
    (by rw [← hW]) rfl hmay ht

end Sys2Proof.Machine.State

namespace Sys2Proof.Machine.State

variable {s t u v w y z : State} {ctl : BusCtl} {i : Fin 30} {x : Station} {counts : BusCounts} {l : List (Nat × Word)}
  {rs : List Record} {k : Fin 16} {wake : WakeUnit} {c : Ctx} {o : StepOutcome} {n : Nat} {m : Fin 32} {src : Source}
  {step : BusStep} {tr : Transaction} {ready : ReadyPolicy} {failure : FailurePolicy} {val : Nat}

/-- An exchange that triggers a list. -/
theorem Exchanged.trigger (h : s.Exchanged v ctl i x counts l rs k wake) (hw : w = v.triggered m src) :
    s.Triggered w m src s.engine.ctx ∧ w.StationShown i ∧ (∀ e ∈ l, w.peek e.1 = e.2) ∧ s.RecordedAll w k rs ∧
      s.KeepsWords w (fun b => (StationWord i b ∨ b ∈ l.map Prod.fst ∨ s.RecordWords k rs b) ∨ TriggerWord m b) ∧
      w.engine.ctx = s.engine.ctx ∧
      w = { s with mem := w.mem, coll := w.coll, engine := w.engine, wake, bus := s.busAfter ctl i x counts } := by
  have htr := triggered_triggered v m src
  have hk := triggered_keepsWords v m src
  have he := triggered_eq v m src
  have hctx := triggered_ctx v m src
  rw [← hw] at htr hk he hctx
  have hd := dirAddr_bounds m
  have hstands {a : Nat} (ha : (0x46 ≤ a ∧ a ≤ 0x56) ∨ (0xAC ≤ a ∧ a < 0xBC) ∨ (0x180 ≤ a ∧ a < 0x200)) : v.peek a = s.peek a :=
    h.keeps a fun hb => by
      rcases hb with hb | hb | hb
      · have := stationWord_bounds hb
        omega
      · have := h.counted_place hb
        omega
      · have := RecordWords.place h.room hb
        omega
  have hother {a : Nat} (ha : (0x57 ≤ a ∧ a < 0xAC) ∨ 0x2000 ≤ a) : w.peek a = v.peek a := hk a fun hb => by
    have := triggerWord_bounds hb
    omega
  have hctxv : v.engine = s.engine := by rw [h.rest]
  refine ⟨?_, stationShown_congr h.shown (by rw [he]) fun b hb => hother ?_, fun e he' => ?_,
    recordedAll_after h.recs (by rw [he]) fun b hb => hother ?_, h.keeps.trans hk, by rw [hctx, hctxv], ?_⟩
  · rw [← hctxv]
    exact triggered_since htr (readDir_congr (hstands (by omega)) (hstands (by omega)))
      (fun a ha => hstands (triggerWord_bounds ha)) (x := s.engine.ctx) hctxv (by rw [h.rest])
  · have := stationWord_bounds hb
    omega
  · have := h.place e he'
    rw [hother (by omega), h.words e he']
  · have := RecordWords.place h.room hb
    omega
  · rw [show w.coll = v.coll by rw [he]]
    conv_lhs => rw [he, h.rest]

/-- A transaction whose reply triggers a list is over, and its run goes on. -/
theorem transaction_triggers (hg : GoesBy step tr ready failure n) (h : s.Exchanged v ctl i x counts l [] k wake)
    (hb : s.InBusStep c step) (hctl : ctl.code ≠ 1) (hown : runEnd c ready failure o = none) (hguard : c.executed < 4096)
    (hroom : s.RoomForAll k (pollRecord tr o (doneValue o val)).toList)
    (ht : t = (v.triggered m src).enterIdle.busResult (.outcome o val)) :
    t.StationShown i ∧ t.peek 0x40 = t.word40 ∧ (∀ e ∈ l, t.peek e.1 = e.2) ∧
      s.Triggered t m src (some (c.next (c.addr + n))) ∧ s.RecordedAll t k (pollRecord tr o (doneValue o val)).toList ∧
      s.KeepsWords t (fun b => StationWord i b ∨ b = 0x40 ∨ b ∈ l.map Prod.fst ∨ TriggerWord m b ∨
        s.RecordWords k (pollRecord tr o (doneValue o val)).toList b) ∧
      t = { s with mem := t.mem, engine := t.engine, coll := t.coll, wake, bus := s.busAfter .idle i x counts } := by
  obtain ⟨-, hctx, hphase, hwait, hvisit, -⟩ := hb
  obtain ⟨htr, hshown, hwords, hrecs, hk, hctxw, he⟩ := h.trigger (m := m) (src := src) rfl
  have hcoll : (v.triggered m src).coll = s.coll := hrecs.nil_coll
  generalize v.triggered m src = w at *
  have hcode : (BusCtl.idle).code ≠ w.bus.ctl.code := by rw [he]; exact Ne.symm hctl
  have h40 := setCtl_shown _ hcode
  have hk2 := setCtl_keepsWords w .idle
  have he2 := setCtl_eq w .idle
  rw [enterIdle_of_none (by rw [he]; exact hvisit) (by rw [he]; exact hwait)] at ht
  generalize w.setCtl .idle = y at *
  have hctxy : y.engine.ctx = some c := by rw [he2]; exact hctxw.trans hctx
  rw [busResult_of_bus hctxy hphase, stepResult_goesBy hg hctxy] at ht
  obtain ⟨hrec, hk3, he3⟩ := offerAll_recorded (s := s) (u := y) (by rw [he2]; exact hcoll) (by rw [he2, he]) (by rw [he2, he])
    hroom rfl
  generalize y.offerAll (pollRecord tr o (doneValue o val)).toList = z at *
  have hctxz : z.engine.ctx = some { c with phase := c.phase } := by rw [he3]; exact hctxy
  rw [finishStep_runEnd hctxz (fun _ => hguard), hown] at ht
  have hlow {a : Nat} (ha : a < 0x2000) (h9B : a ≠ 0x9B) (hA0 : a ≠ 0xA0) (hA1 : a ≠ 0xA1) : z.peek a = y.peek a :=
    hk3 a (not_recordWords hroom ha h9B hA0 hA1)
  have hmem : t.mem = z.mem := by rw [ht]; rfl
  have heng : t.engine = { z.engine with ctx := some (c.next (c.addr + n)) } := by rw [ht]; rfl
  have hpeek (a : Nat) : t.peek a = z.peek a := by unfold peek; rw [hmem]
  have htz : t = { z with engine := t.engine } := by rw [ht]; rfl
  clear ht
  have hyw {a : Nat} (ha : a ≠ 0x40) : y.peek a = w.peek a := hk2 a ha
  refine ⟨stationShown_congr hshown (by rw [htz, he3, he2]) fun b hb => ?_, ?_, fun e he' => ?_, ?_, ?_, fun b hb => ?_, ?_⟩
  · have := stationWord_bounds hb
    rw [hpeek, hlow (by omega) (by omega) (by omega) (by omega), hyw (by omega)]
  · rw [hpeek, hlow (by decide) (by decide) (by decide) (by decide), h40]
    refine (word40_eq_iff (t := y) (s := t)).2 ?_
    rw [htz, heng, he3]
    exact ⟨rfl, rfl, rfl, rfl, rfl, rfl⟩
  · have := h.place e he'
    rw [hpeek, hlow (by omega) (by omega) (by omega) (by omega), hyw (by omega), hwords e he']
  · refine triggered_after htr (fun a ha => ?_) (x := some (c.next (c.addr + n))) (by rw [heng, he3, he2])
    have := triggerWord_bounds ha
    rw [hpeek, hlow (by omega) (by omega) (by omega) (by omega), hyw (by omega)]
  · exact recordedAll_after hrec (by rw [htz]) fun a _ => hpeek a
  · simp only [not_or] at hb
    obtain ⟨hbs, hb40, hbl, hbt, hbr⟩ := hb
    rw [hpeek, hk3 b hbr, hyw hb40]
    exact hk b (by rintro ((h' | h' | h') | h'); exacts [hbs h', hbl h', h'.1 rfl, hbt h'])
  · rw [show t.coll = z.coll by rw [htz], hmem]
    conv_lhs => rw [htz, he3, he2, he]
    rfl

end Sys2Proof.Machine.State

open Sys2Proof.Machine State in
/-- Settles O43: the other transactions by their replies or by silence, then their steps by their policies. -/
theorem repliesEndOtherTransactions : Obligations.RepliesEndOtherTransactions := by
  intro s c step tr ready failure n due k hb hctl hg i x counts status recs ends
  have hr := hb.1
  have hcode : s.bus.ctl.code ≠ 1 := by rw [hctl]; exact show (3 : Nat) ≠ 1 by decide
  have hstation : tr.awaits.station = i := by cases tr <;> rfl
  have hat : s.bus.stations[tr.awaits.station] = x := by simp only [hstation, x]
  have hlists : s.settings.attention[tr.awaits.station] = s.settings.attention[i] := by simp only [hstation]
  have htakes : tr.awaits.takes = typeStatus ↔ status := by
    show _ ↔ tr = .status tr.station
    cases tr <;> simp [Transaction.awaits, Transaction.station, typeData, typeStatus, typeEmpty]
  have hrecs (o : StepOutcome) (v : Option Nat) : recs o v = (pollRecord tr o v).toList := by
    show (if tr = .status tr.station then _ else _) = _
    cases tr <;> simp [pollRecord, i, Transaction.station]
  have hends {cmd : Sys2Proof.Instr} {v : State} {o : StepOutcome} {val : Nat} {x : Station} {counts' : BusCounts} {a : Nat}
      {wd : Sys2Proof.Word} {rs : List Record} {wake : WakeUnit} (hexec : exec cmd s = .next (v.enterIdle.busResult (.outcome o val)))
      (h : s.Exchanged v s.bus.ctl i x counts' [(a, wd)] rs k wake) :
      ends cmd o (rs ++ recs o (doneValue o val)) x counts' a wd wake := by
    intro hmay
    rw [hrecs] at hmay ⊢
    obtain ⟨hshown, hwords, hconc⟩ := transaction_concludes hg h hb hcode hmay rfl
    exact ⟨_, hexec, hshown, hwords (a, wd) List.mem_cons_self,
      hconc.of_words fun a ha => ha.imp_right fun ha => List.mem_singleton.1 (ha.resolve_right id)⟩
  refine ⟨exec_replyBegin hr hctl, fun bits rep hj hlost => ?_, fun bits hj => ?_, fun bits hj hlen => ?_, fun m hdue hm => ?_⟩
  · intro o byte calls heard good rs
    have ho : o = rep.outcome := by
      simp only [o, Reply.outcome]
      cases rep.accept <;> cases rep.ready <;> rfl
    have hcalls : calls ↔ Calls tr.awaits rep := by
      simp only [calls, Calls, ho]
      by_cases h : status
      · rw [if_pos h, if_pos (htakes.2 h)]
      · rw [if_neg h, if_neg (fun h' => h (htakes.1 h'))]
    have hheard : heard = s.heardBy tr.awaits rep := by
      have hx : ({ s.heardNow i with attention := x.attention } : Station) = s.heardNow i := rfl
      have hstands (h : ¬ byte) (hno : ¬ Calls tr.awaits rep) : heard = s.heardNow i := by
        simp only [heard]
        rw [if_neg h, if_neg fun hc => hno (hcalls.1 hc), hx]
      unfold heardBy
      rw [hstation]
      by_cases h : status
      · rw [if_pos (htakes.2 h)]
        by_cases hdone : rep.outcome = .done
        · rw [if_pos hdone]
          exact if_pos ⟨h, ho.trans hdone⟩
        · rw [if_neg hdone]
          refine hstands (fun h' => hdone (ho ▸ h'.2)) fun hc => ?_
          rw [Calls, if_pos (htakes.2 h)] at hc
          exact hdone hc.1
      · have hno : ¬ tr.awaits.takes = typeStatus := fun h' => h (htakes.1 h')
        rw [if_neg hno]
        by_cases hatt : rep.attention = true
        · simp only [heard]
          rw [if_pos hatt, if_neg fun h' => h h'.1, if_pos (hcalls.2 (by rw [Calls, if_neg hno]; exact hatt))]
        · rw [if_neg hatt]
          refine hstands (fun h' => h h'.1) fun hc => hatt ?_
          rwa [Calls, if_neg hno] at hc
    have hrs : rs = recs rep.outcome (doneValue rep.outcome rep.data) := by
      simp only [rs, ho]
      rfl
    clear_value o heard rs calls
    subst ho hheard
    refine ⟨fun hquiet => ?_, fun m hcall hx hlist hmode hown hguard hroom => ?_⟩
    · obtain ⟨v, hjudged, h⟩ := heardBy_exchanged (s := s) (k := k) hj (by rw [hat]; exact hlost)
        (by rw [hat, hlists]; exact fun h => hquiet (hcalls.2 h))
      rw [hstation] at h
      rw [hrs]
      exact hends ((exec_replyEnd hr hctl bits).trans (congrArg _ (transactionReply_eq hjudged))) h
    · obtain ⟨v, hjudged, h⟩ := heardBy_triggers (s := s) (k := k) hj (by rw [hat]; exact hlost) (hcalls.1 hcall)
        (by rw [hat]; exact hx) (by rw [hlists]; exact hlist) hmode
      rw [hstation] at h
      rw [hrs, hrecs] at hroom ⊢
      obtain ⟨hshown, h40, hwords, htr, hrec, hkeep, heq⟩ := transaction_triggers hg h hb hcode hown hguard hroom rfl
      refine ⟨_, (exec_replyEnd hr hctl bits).trans (congrArg _ (transactionReply_eq hjudged)), hshown, h40,
        hwords (0x58, good.good) List.mem_cons_self, htr, hrec, hkeep.mono fun a ha => ?_, heq⟩
      exact ha.imp_right fun ha => ha.imp_right fun ha => ha.imp_left List.mem_singleton.1
  · obtain ⟨v, hjudged, h⟩ := garbled_exchanged (s := s) (k := k) hj
    rw [hstation] at h
    exact hends ((exec_replyEnd hr hctl bits).trans (congrArg _ (transactionReply_eq hjudged))) h
  · intro hmay
    obtain ⟨v, hjudged, h⟩ := odd_exchanged (s := s) (k := k) hj (by rw [hstation]; exact hmay.2.2.left.left)
    rw [hstation] at h
    exact hends ((exec_replyEnd hr hctl bits).trans (congrArg _ (transactionReply_eq hjudged))) h hmay
  · intro hmay
    exact hends (exec_replyTimeout hr hctl hdue hm) (silent_exchanged hmay.2.2.left.left) hmay

end

section
/-! PROOFS. How a block read ends, or keeps a word (R33–R35, R63, R64; O44, O45). -/

namespace Sys2Proof.Machine.State

variable {s t u v w y z : State} {ctl ctl' : BusCtl} {i : Fin 30} {x : Station} {counts : BusCounts} {l : List (Nat × Word)}
  {rs : List Record} {k : Fin 16} {wake : WakeUnit} {c : Ctx} {o : StepOutcome} {next : Nat} {r : Record} {p : Nat → Prop}
  {st : BlockStep} {e : BlockEnding} {words : List Nat} {b : BlockRead} {timeout : Nat} {due : Option Moment}
  {bits : List Bool} {rep : Reply}

/-- A step's end that lets the run go on, behind one record. -/
theorem StepConcludes.goesOn (h : s.StepConcludes t c none next [r] k p u) :
    t.peek 0x40 = t.word40 ∧ s.Recorded t k r ∧ s.KeepsWords t (fun a => a = 0x40 ∨ p a ∨ s.RecordWord k r.length a) ∧
      t =
        { u with
          mem := t.mem, engine := { s.engine with ctx := some (c.next next) }, coll := s.collAfter r.length, req := s.req } := by
  obtain ⟨⟨heng, hreq⟩, h40, hrec, hkeep, heq⟩ := h
  have hone : [r] ++ endRecords c none = [r] := rfl
  rw [hone] at hrec hkeep
  have hrec1 := recorded_of_recordedAll hrec
  refine ⟨h40, hrec1, hkeep.mono fun a ha => ?_, ?_⟩
  · rcases ha with ha | ha | ⟨ha, -⟩ | ha
    · exact .inl ha
    · exact .inr (.inl ha)
    · exact absurd rfl ha
    · exact .inr (.inr (recordWords_singleton_iff.1 ha))
  · rw [heng, hreq, hrec1.2.2.2, if_pos rfl] at heq
    exact heq

theorem stepResult_block (hctx : y.engine.ctx = some c) (st : BlockStep) (e : BlockEnding) (words : List Nat) :
    y.stepResult (.block st) (.block e words) =
      (y.offerAll (some (blockRecord st e words)).toList).finishStep (policyEnd st.ready st.failure e.outcome) (c.addr + 3) := by
  rw [← stepAddr_of_ctx hctx]
  rfl

/-- A block read is over, and its step completes with its BLOCK record (R35). -/
theorem block_concludes (h : s.Exchanged v ctl i x counts l rs k wake) (hb : s.InBusStep c (.block st))
    (hcode : ctl'.code ≠ ctl.code)
    (hmay : s.MayConclude c (runEnd c st.ready st.failure e.outcome) (rs ++ [blockRecord st e words]) k)
    (ht : t = (v.setCtl ctl').busResult (.block e words)) :
    t.StationShown i ∧ (∀ e ∈ l, t.peek e.1 = e.2) ∧
      s.StepConcludes t c (runEnd c st.ready st.failure e.outcome) (c.addr + 3) (rs ++ [blockRecord st e words]) k
        (fun b => StationWord i b ∨ b ∈ l.map Prod.fst ∨ False) { s with wake, bus := s.busAfter ctl' i x counts } := by
  have hctx := h.ctx_setCtl (ctl' := ctl') hb.2.1
  have hW : (v.setCtl ctl').watches = s.watches := by rw [setCtl_eq, h.rest]
  rw [h.busResult hb, stepResult_block hctx] at ht
  exact h.concludes (p := fun _ => False) (W := s.watches) (q := some (blockRecord st e words)) hcode hb.2.1 (.refl _ _)
    (fun _ h => h.elim) (by rw [← hW]) rfl hmay ht

theorem exec_replyEnd_block (hr : s.ready) (hctl : s.bus.ctl = .streaming b timeout words due) (bits : List Bool) :
    exec (.replyEnd bits) s = .next (s.blockReply b timeout words bits) := by
  refine congrArg Host.Outcome.next ((whenReady_of_ready _ hr).trans ?_)
  rw [hctl]

theorem exec_replyTimeout_block {m : Moment} (hr : s.ready) (hctl : s.bus.ctl = .streaming b timeout words due)
    (hdue : due = some m) (hm : m ≤ s.now) :
    exec .replyTimeout s = .next ((s.silence b.station .transaction).countSilent.endBlock .silent words) := by
  refine congrArg Host.Outcome.next ((whenReady_of_ready _ hr).trans ?_)
  rw [hctl, hdue]
  exact whenDue_of_le s _ hm

theorem exec_replyBegin_block (hr : s.ready) (hctl : s.bus.ctl = .streaming b timeout words due) :
    exec .replyBegin s = .next { s with bus := { s.bus with ctl := .streaming b timeout words none } } := by
  refine congrArg Host.Outcome.next ((whenReady_of_ready _ hr).trans ?_)
  unfold replyBegins
  rw [hctl]
  exact setCtl_of_same_code (by rw [hctl]; rfl)

/-- What a reply of a block read that is not a word kept does (R34). -/
theorem blockReply_ends (hj : s.judged b.awaits bits = (v, o, rep))
    (he : (o = .garbled ∧ e = .garbled) ∨ (o = .odd ∧ e = .odd) ∨ (o = .refused ∧ e = .refused) ∨
      (o = .notReady ∧ e = .notReady)) :
    s.blockReply b timeout words bits = v.endBlock e words := by
  unfold blockReply
  rw [hj]
  obtain ⟨rfl, rfl⟩ | ⟨rfl, rfl⟩ | ⟨rfl, rfl⟩ | ⟨rfl, rfl⟩ := he <;> rfl

end Sys2Proof.Machine.State

open Sys2Proof.Machine State in
/-- Settles O45: the endings of a block read that keep no further word. -/
theorem blockReadsEndWithoutAWord : Obligations.BlockReadsEndWithoutAWord := by
  intro s c st timeout words due k i b counts hb hctl drains ends
  have hr := hb.1
  have hcode {ctl' : BusCtl} (h : ctl' = .idle ∨ ctl' = drains) : ctl'.code ≠ s.bus.ctl.code := by
    rw [hctl]
    rcases h with rfl | rfl
    · exact show (1 : Nat) ≠ 4 by decide
    · exact show (6 : Nat) ≠ 4 by decide
  have hends {cmd : Sys2Proof.Instr} {v : State} {e : BlockEnding} {x : Station} {counts' : BusCounts} {a : Nat} {wd : Sys2Proof.Word}
      {ctl' : BusCtl} {rs : List Record} {wake : WakeUnit} (hctl' : ctl' = .idle ∨ ctl' = drains)
      (hexec : exec cmd s = .next ((v.setCtl ctl').busResult (.block e words)))
      (h : s.Exchanged v s.bus.ctl i x counts' [(a, wd)] rs k wake) :
      ends cmd e ctl' rs x counts' a wd wake := by
    intro hmay
    obtain ⟨hshown, hwords, hconc⟩ := block_concludes h hb (hcode hctl') hmay rfl
    exact ⟨_, hexec, hshown, hwords (a, wd) List.mem_cons_self,
      hconc.of_words fun a ha => ha.imp_right fun ha => List.mem_singleton.1 (ha.resolve_right id)⟩
  refine ⟨fun bits rep hj hlost hcall => ?_, fun bits hj => ?_, fun bits hj hlen => ?_, fun m hdue hm => ?_⟩
  · intro good
    obtain ⟨v, hjudged, h⟩ := good_exchanged (k := k) hj (show typeData ≠ typeStatus by decide) hlost hcall
    refine ⟨fun ha => ?_, fun ha hrdy => ?_⟩
    · have hout : rep.outcome = .refused := by simp [Reply.outcome, ha]
      rw [hout] at hjudged
      refine hends (e := .refused) (.inl rfl) ?_ h
      rw [exec_replyEnd_block hr hctl, blockReply_ends (e := .refused) hjudged (by simp), ← h.enterIdle hb]
      rfl
    · have hout : rep.outcome = .notReady := by simp [Reply.outcome, ha, hrdy]
      rw [hout] at hjudged
      refine hends (e := .notReady) (.inl rfl) ?_ h
      rw [exec_replyEnd_block hr hctl, blockReply_ends (e := .notReady) hjudged (by simp), ← h.enterIdle hb]
      rfl
  · obtain ⟨v, hjudged, h⟩ := garbled_exchanged (s := s) (k := k) hj
    refine hends (e := .garbled) (.inr rfl) ?_ h
    rw [exec_replyEnd_block hr hctl, blockReply_ends (e := .garbled) hjudged (by simp)]
    exact congrArg (fun y : State => Host.Outcome.next (y.busResult _)) (h.startDrain hb)
  · intro hmay
    obtain ⟨v, hjudged, h⟩ := odd_exchanged (s := s) (k := k) hj hmay.2.2.left.left
    refine hends (e := .odd) (.inr rfl) ?_ h hmay
    rw [exec_replyEnd_block hr hctl, blockReply_ends (e := .odd) hjudged (by simp)]
    exact congrArg (fun y : State => Host.Outcome.next (y.busResult _)) (h.startDrain hb)
  · intro hmay
    have h := silent_exchanged (s := s) (k := k) (i := i) hmay.2.2.left.left
    refine hends (e := .silent) (.inl rfl) ?_ h hmay
    rw [exec_replyTimeout_block hr hctl hdue hm, ← h.enterIdle hb]
    rfl

namespace Sys2Proof.Machine.State

variable {s v : State} {c : Ctx} {st : BlockStep} {words : List Nat} {b : BlockRead} {timeout : Nat} {bits : List Bool} {rep : Reply}

/-- What a good word of a block read does: an ending of R34, or it is kept and the timeout starts afresh (R33, R34). -/
theorem blockReply_keeps (hj : s.judged b.awaits bits = (v, .done, rep)) :
    s.blockReply b timeout words bits =
      if b.terminator = some rep.data then v.endBlock .terminator (words ++ [rep.data])
      else if rep.last then v.endBlock .last (words ++ [rep.data])
      else if b.count ≤ (words ++ [rep.data]).length then v.endBlock .count (words ++ [rep.data])
      else v.setCtl (.streaming b timeout (words ++ [rep.data]) (some (v.now + millis timeout))) := by
  unfold blockReply
  rw [hj]

end Sys2Proof.Machine.State

open Sys2Proof.Machine State in
/-- Settles O44: a word of a block read is kept, or meets the first ending of TERMINATOR, LAST and COUNT. -/
theorem blockWordsAreKept : Obligations.BlockWordsAreKept := by
  intro s c st timeout words due bits rep b x kept ending heard counts hb hruns hctl hj ha hrdy hpresent hcall
  have hr := hb.1
  have hout : rep.outcome = .done := by simp [Reply.outcome, ha, hrdy]
  have hlost : (s.bus.stations[b.awaits.station]).state ≠ .lost := by
    show x.state ≠ .lost
    rw [hpresent]
    exact nofun
  have hjudge (k : Fin 16) := good_exchanged (s := s) (k := k) hj (show typeData ≠ typeStatus by decide) hlost hcall
  have hexec := exec_replyEnd_block hr hctl bits
  refine ⟨exec_replyBegin_block hr hctl, fun hnone => ?_, fun e k hsome hroom => ?_⟩
  · obtain ⟨v, hjudged, h⟩ := hjudge 0
    rw [hout] at hjudged
    have hgoes : s.blockReply b timeout words bits = v.setCtl (.streaming b timeout kept (some (v.now + millis timeout))) := by
      rw [blockReply_keeps hjudged]
      simp only [ending] at hnone
      split at hnone
      · exact nomatch hnone
      next h1 =>
        rw [if_neg h1]
        split at hnone
        · exact nomatch hnone
        next h2 =>
          rw [if_neg h2]
          split at hnone
          · exact nomatch hnone
          next h3 => rw [if_neg h3]
    rw [hgoes] at hexec
    have hcode : (BusCtl.streaming b timeout kept (some (v.now + millis timeout))).code = v.bus.ctl.code := by
      rw [h.rest]
      show 4 = s.bus.ctl.code
      rw [hctl]
      rfl
    rw [setCtl_of_same_code hcode] at hexec
    have hset := h.setBusCtl (ctl' := .streaming b timeout kept (some (v.now + millis timeout))) rfl
    refine ⟨_, hexec, hset.shown, hset.words (0x58, counts.good) List.mem_cons_self, hset.keeps.mono fun a ha => ?_, ?_⟩
    · exact ha.imp_right fun ha => (ha.resolve_right fun h => h.1 rfl) |> List.mem_singleton.1
    · have hnow : v.now = s.now := by rw [h.rest]; rfl
      refine hset.rest.trans ?_
      rw [hset.recs.nil_coll, hnow]
      rfl
  · obtain ⟨v, hjudged, h⟩ := hjudge k
    rw [hout] at hjudged
    have hgoes : s.blockReply b timeout words bits = v.endBlock e kept ∧ (e = .terminator ∨ e = .last ∨ e = .count) := by
      rw [blockReply_keeps hjudged]
      simp only [ending] at hsome
      split at hsome
      next h1 =>
        obtain rfl := Option.some.inj hsome
        exact ⟨if_pos h1, .inl rfl⟩
      next h1 =>
        rw [if_neg h1]
        split at hsome
        next h2 =>
          obtain rfl := Option.some.inj hsome
          exact ⟨if_pos h2, .inr (.inl rfl)⟩
        next h2 =>
          rw [if_neg h2]
          split at hsome
          next h3 =>
            obtain rfl := Option.some.inj hsome
            exact ⟨if_pos h3, .inr (.inr rfl)⟩
          · exact nomatch hsome
    obtain ⟨hgoes, he⟩ := hgoes
    have hown : State.runEnd c st.ready st.failure e.outcome = none := by
      have hdone : e.outcome = .done := by rcases he with rfl | rfl | rfl <;> rfl
      rw [hdone, State.runEnd, if_neg (fun h => nomatch h.1), if_neg (fun h => by simp at h), hruns.1]
      rfl
    have hctl' : v.endBlock e kept = (v.setCtl
        (if e = .terminator then .draining s.settings.replyTimeout (some (s.now + 100 * s.settings.replyTimeout))
          else .idle)).busResult (.block e kept) := by
      rcases he with rfl | rfl | rfl
      · rw [if_pos rfl, ← h.startDrain hb]
        rfl
      · rw [if_neg nofun, ← h.enterIdle hb]
        rfl
      · rw [if_neg nofun, ← h.enterIdle hb]
        rfl
    have hcode : (if e = .terminator then
        BusCtl.draining s.settings.replyTimeout (some (s.now + 100 * s.settings.replyTimeout)) else .idle).code ≠
          s.bus.ctl.code := by
      rw [hctl]
      split
      · exact show (6 : Nat) ≠ 4 by decide
      · exact show (1 : Nat) ≠ 4 by decide
    have hlen : (blockRecord st e kept).length = 2 + kept.length := by simp [blockRecord, Record.length]
    have hroom' : s.RoomForAll k [blockRecord st e kept] := roomForAll_singleton.2 (by rw [hlen]; exact hroom)
    rw [hgoes, hctl'] at hexec
    obtain ⟨hshown, hwords, hconc⟩ := block_concludes (k := k) (e := e) (words := kept) h hb hcode
      (by rw [hown]; exact ⟨fun _ => hruns.2, fun h => absurd rfl h, hroom'⟩) rfl
    rw [hown] at hconc
    obtain ⟨h40, hrec, hkeep, heq⟩ := hconc.goesOn
    rw [hlen] at hkeep heq
    refine ⟨_, hexec, hshown, hwords (0x58, counts.good) List.mem_cons_self, h40, hrec, hkeep.mono fun a ha => ?_, heq⟩
    rcases ha with ha | (ha | ha | ha) | ha
    · exact .inr (.inr (.inl ha))
    · exact .inl ha
    · exact .inr (.inl (List.mem_singleton.1 ha))
    · exact ha.elim
    · exact .inr (.inr (.inr ha))

end

section
/-! PROOFS. The answer slots of a roll call (R61, R62, R66–R69; O46). -/

namespace Sys2Proof.Machine.State

variable {s t u v w y z : State} {ctl ctl' : BusCtl} {i : Fin 30} {x : Station} {counts : BusCounts} {l : List (Nat × Word)}
  {rs : List Record} {k : Fin 16} {wake : WakeUnit} {c : Ctx} {present attention : Word} {answer : SlotAnswer}
  {r : SlotReading}

theorem exec_rollCallSlot (hr : s.ready) (hctl : s.bus.ctl = .slots i present attention) (answer : SlotAnswer) :
    exec (.rollCallSlot answer) s = .next (s.passSlot i present attention (readSlot answer)) := by
  refine congrArg Host.Outcome.next ((whenReady_of_ready _ hr).trans ?_)
  rw [hctl]

/-! ## How an answer is read (R62) -/

theorem readSlot_presence (a : Bool) : readSlot (.bits true a false (!a)) = .presence a := by cases a <;> rfl

theorem readSlot_nobody (h : answer = .nothing ∨ ∃ a, answer = .bits false a true (!a)) : readSlot answer = .noAnswer := by
  obtain rfl | ⟨a, rfl⟩ := h
  · rfl
  · cases a <;> rfl

theorem readSlot_garbled (h : answer = .activity ∨ ∃ p a np na, answer = .bits p a np na ∧ (p = np ∨ a = na)) :
    readSlot answer = .garbled := by
  obtain rfl | ⟨p, a, np, na, rfl, h⟩ := h
  · rfl
  · refine if_neg fun ⟨hp, ha⟩ => ?_
    rcases h with rfl | rfl
    · exact absurd hp (by simp)
    · exact absurd ha (by simp)

/-! ## The maps (R61) -/

/-- The presence map once a slot has been read. -/
def presentAfter (present : Word) (i : Fin 30) (r : SlotReading) : Word :=
  present ||| mapBit i (match r with | .presence _ => true | .noAnswer | .garbled => false)

/-- The attention map once a slot has been read. -/
def attentionAfter (attention : Word) (i : Fin 30) (r : SlotReading) : Word :=
  attention ||| mapBit i (match r with | .presence a => a | .noAnswer | .garbled => false)

theorem or_mapBit_false (w : Word) (i : Fin 30) : w ||| mapBit i false = w := by simp [mapBit]

theorem attentionAfter_presence (attention : Word) (i : Fin 30) (a : Bool) :
    attentionAfter attention i (.presence a) = if a then attention ||| BitVec.ofNat 32 (2 ^ (i.val + 1)) else attention := by
  cases a
  · exact or_mapBit_false _ _
  · rfl

/-- A slot before the thirtieth passes. -/
theorem passSlot_next {j : Fin 30} (hj : j.val = i.val + 1) (hctl : s.bus.ctl = .slots i present attention)
    (h : s.Exchanged (s.takeSlotReading i r) s.bus.ctl i x counts l rs k wake) :
    s.Exchanged (s.passSlot i present attention r) (.slots j (presentAfter present i r) (attentionAfter attention i r)) i x
      counts l rs k wake := by
  have hlt : i.val + 1 < 30 := hj ▸ j.isLt
  have hpass : s.passSlot i present attention r =
      (s.takeSlotReading i r).setCtl (.slots j (presentAfter present i r) (attentionAfter attention i r)) := by
    unfold passSlot
    rw [dif_pos hlt, show (⟨i.val + 1, hlt⟩ : Fin 30) = j from Fin.ext hj.symm]
    rfl
  have hcode : (BusCtl.slots j (presentAfter present i r) (attentionAfter attention i r)).code =
      (s.takeSlotReading i r).bus.ctl.code := by
    rw [h.rest]
    show 5 = s.bus.ctl.code
    rw [hctl]
    rfl
  rw [hpass, setCtl_of_same_code hcode]
  exact h.setBusCtl rfl

theorem stepResult_roll (hctx : y.engine.ctx = some c) (p a : Word) :
    y.stepResult .rollCall (.roll p a) =
      (y.offerAll (some (rollRecord p a)).toList).finishStep (policyEnd .pass .continue .done) (c.addr + 1) := by
  rw [← stepAddr_of_ctx hctx]
  rfl

/-- The thirtieth slot passes, and the step completes with its ROLL record (R39). -/
theorem passSlot_last (hi : i.val = 29) (hctl : s.bus.ctl = .slots i present attention) (hb : s.InBusStep c .rollCall)
    (hruns : RunsOn c) (hroom : s.RoomFor k 4) (hl : 0x5D ∉ l.map Prod.fst)
    (h : s.Exchanged (s.takeSlotReading i r) s.bus.ctl i x counts l [] k wake) (ht : t = s.passSlot i present attention r) :
    t.StationShown i ∧ (∀ e ∈ (0x5D, counts.rollCalls + 1) :: l, t.peek e.1 = e.2) ∧ t.peek 0x40 = t.word40 ∧
      s.Recorded t k (rollRecord (presentAfter present i r) (attentionAfter attention i r)) ∧
      s.KeepsWords t (fun a => StationWord i a ∨ a = 0x40 ∨ a = 0x5D ∨ a ∈ l.map Prod.fst ∨ s.RecordWord k 4 a) ∧
      t =
        { s with
          mem := t.mem, wake, engine := { s.engine with ctx := some (c.next (c.addr + 1)) }, coll := s.collAfter 4
          bus := s.busAfter .idle i x { counts with rollCalls := counts.rollCalls + 1 } } := by
  have hcounted := h.rollCall hl
  have hcode : (BusCtl.idle).code ≠ s.bus.ctl.code := by
    rw [hctl]
    exact show (1 : Nat) ≠ 5 by decide
  generalize hrec : rollRecord (presentAfter present i r) (attentionAfter attention i r) = rec
  have hpass : s.passSlot i present attention r = (s.takeSlotReading i r).countRollCall.enterIdle.busResult
      (.roll (presentAfter present i r) (attentionAfter attention i r)) := by
    unfold passSlot
    rw [dif_neg (by omega)]
    rfl
  rw [hpass, hcounted.enterIdle hb, hcounted.busResult hb] at ht
  have hctx := hcounted.ctx_setCtl (ctl' := .idle) hb.2.1
  have hW : ((s.takeSlotReading i r).countRollCall.setCtl .idle).watches = s.watches := by rw [setCtl_eq, hcounted.rest]
  rw [stepResult_roll hctx, hrec] at ht
  have hown : runEnd c .pass .continue .done = none := by
    rw [runEnd, if_neg (fun h => nomatch h.1), if_neg (fun h => nomatch h.1), hruns.1]
    rfl
  have hlen : rec.length = 4 := by rw [← hrec]; rfl
  have hroom' : s.RoomForAll k [rec] := roomForAll_singleton.2 (by rw [hlen]; exact hroom)
  obtain ⟨hshown, hwords, hconc⟩ := hcounted.concludes (p := fun _ => False) (W := s.watches) (q := some rec) hcode hb.2.1
    (.refl _ _) (fun _ h => h.elim) (by rw [← hW]) hown ⟨fun _ => hruns.2, fun h => absurd rfl h, hroom'⟩ ht
  obtain ⟨h40, hrecd, hkeep, heq⟩ := hconc.goesOn
  rw [hlen] at hkeep heq
  refine ⟨hshown, hwords, h40, hrecd, hkeep.mono fun a ha => ?_, heq⟩
  rcases ha with ha | (ha | ha | ha) | ha
  · exact .inr (.inl ha)
  · exact .inl ha
  · exact .inr (.inr ((List.mem_cons.1 ha).imp_right .inl))
  · exact ha.elim
  · exact .inr (.inr (.inr (.inr ha)))

/-! ## The readings (R62, R66–R69) -/

/-- A station is present, and calls for attention no more than before. -/
theorem takeSlotReading_presence {a : Bool} (hlost : (s.bus.stations[i]).state ≠ .lost)
    (hcall : a = true → (s.bus.stations[i]).attention = true) :
    s.Exchanged (s.takeSlotReading i (.presence a)) s.bus.ctl i (s.heardNow i) s.bus.counts [] [] k s.wake := by
  have h := heard_exchanged (k := k) (how := .rollCall) hlost
  unfold takeSlotReading
  by_cases ha : a = true
  · simp only [if_pos ha]
    rw [h.attend_of_called (hcall ha)]
    exact h
  · simp only [if_neg ha]
    exact h

/-- A LOST station is present again, which is reported. -/
theorem takeSlotReading_returns (hlost : (s.bus.stations[i]).state = .lost) (hroom : s.RoomFor k 3) :
    s.Exchanged (s.takeSlotReading i (.presence false)) s.bus.ctl i (s.heardNow i) s.bus.counts []
      [stationRecord i .lost (s.heardNow i) 2] k (s.raised .station) := by
  refine (Exchanged.of_setStation rfl).report hroom ?_
  show s.heard i .rollCall = _
  exact if_pos hlost

end Sys2Proof.Machine.State

open Sys2Proof.Machine State in
/-- Settles O46: each answer slot by what it held. -/
theorem answerSlotsUpdateTheTable : Obligations.AnswerSlotsUpdateTheTable := by
  intro s i present attention answer hr hctl x mark garbledCounts nobody garbled
  have hexec := exec_rollCallSlot hr hctl answer
  have hpass {r : SlotReading} (h : readSlot answer = r) : exec (.rollCallSlot answer) s = .next (s.passSlot i present attention r) := by
    rw [hexec, h]
  have hsilent {k : Fin 16} (h : s.losesNow i = false) :
      s.Exchanged (s.takeSlotReading i .noAnswer) s.bus.ctl i (s.missedNow i) s.bus.counts [] [] k s.wake := by
    have hs := silence_exchanged (s := s) (k := k) (i := i) (how := .rollCall) (by rw [h]; exact fun h => absurd rfl h)
    rw [wakeAfterSilence, h] at hs
    exact hs
  have hmaps (r : SlotReading) (hr : r = .noAnswer ∨ r = .garbled) :
      presentAfter present i r = present ∧ attentionAfter attention i r = attention := by
    obtain rfl | rfl := hr
    · exact ⟨or_mapBit_false _ _, or_mapBit_false _ _⟩
    · exact ⟨or_mapBit_false _ _, or_mapBit_false _ _⟩
  refine ⟨fun j hj => ⟨?_, ?_, ?_, ?_, ?_⟩, ?_⟩
  · intro a ha hlost hcall
    have h := passSlot_next (k := 0) hj hctl (takeSlotReading_presence hlost hcall)
    rw [attentionAfter_presence] at h
    refine ⟨_, hpass (by rw [ha, readSlot_presence]), h.shown, h.keeps.mono fun b hb => ?_, ?_⟩
    · exact hb.resolve_right fun h => h.elim (fun h => nomatch h) fun h => h.1 rfl
    · refine h.rest.trans ?_
      rw [h.recs.nil_coll]
      rfl
  · intro n ha hlost hroom
    have h := passSlot_next hj hctl (takeSlotReading_returns hlost hroom)
    rw [attentionAfter_presence] at h
    have hrec := recorded_of_recordedAll h.recs
    refine ⟨_, hpass (by rw [ha]; exact readSlot_presence false), h.shown, hrec, h.keeps.mono fun b hb => ?_, ?_⟩
    · exact hb.imp_right fun h => recordWords_singleton_iff.1 (h.resolve_left fun h => nomatch h)
    · refine h.rest.trans ?_
      rw [hrec.2.2.2]
      rfl
  · intro hno hstays
    have h := passSlot_next (k := 0) hj hctl (hsilent hstays)
    rw [(hmaps _ (.inl rfl)).1, (hmaps _ (.inl rfl)).2] at h
    refine ⟨_, hpass (readSlot_nobody hno), h.shown, h.keeps.mono fun b hb => ?_, ?_⟩
    · exact hb.resolve_right fun h => h.elim (fun h => nomatch h) fun h => h.1 rfl
    · refine h.rest.trans ?_
      rw [h.recs.nil_coll]
  · intro n hno hloses hroom
    have hs := silence_exchanged (s := s) (k := n) (i := i) (how := .rollCall)
      (by rw [if_pos hloses]; exact roomForAll_singleton.2 hroom)
    rw [wakeAfterSilence, if_pos hloses, if_pos hloses] at hs
    have h := passSlot_next (r := .noAnswer) hj hctl hs
    rw [(hmaps _ (.inl rfl)).1, (hmaps _ (.inl rfl)).2] at h
    have hrec := recorded_of_recordedAll h.recs
    refine ⟨_, hpass (readSlot_nobody hno), h.shown, hrec, h.keeps.mono fun b hb => ?_, ?_⟩
    · exact hb.imp_right fun h => recordWords_singleton_iff.1 (h.resolve_left fun h => nomatch h)
    · refine h.rest.trans ?_
      rw [hrec.2.2.2]
      rfl
  · intro hg
    have h := passSlot_next (r := .garbled) (k := 0) hj hctl (garble_exchanged.garbled (by simp))
    rw [(hmaps _ (.inr rfl)).1, (hmaps _ (.inr rfl)).2] at h
    refine ⟨_, hpass (readSlot_garbled hg), h.shown, h.words (0x5A, garbledCounts.garbled) List.mem_cons_self,
      h.keeps.mono fun b hb => hb.imp_right fun h => List.mem_singleton.1 (h.resolve_right fun h => h.1 rfl), ?_⟩
    refine h.rest.trans ?_
    rw [h.recs.nil_coll]
  · intro c n hi hb hruns hroom last
    have hlast {r : SlotReading} {x : Station} (hr : readSlot answer = r) (hng : r ≠ .garbled)
        (h : s.Exchanged (s.takeSlotReading i r) s.bus.ctl i x s.bus.counts [] [] n s.wake) :
        last (presentAfter present i r) (attentionAfter attention i r) x s.bus.counts := by
      have hnot : ¬ garbled := fun hg => hng (hr.symm.trans (readSlot_garbled hg))
      obtain ⟨hshown, hwords, h40, hrec, hkeep, heq⟩ := passSlot_last hi hctl hb hruns hroom (by simp) h rfl
      refine ⟨_, hpass hr, hshown, h40, hwords (0x5D, s.bus.counts.rollCalls + 1) List.mem_cons_self, fun hg => absurd hg hnot,
        hrec, hkeep.mono fun a ha => ?_, heq⟩
      exact ha.imp_right fun ha => ha.imp_right fun ha => ha.imp_right fun ha => .inr (ha.resolve_left fun h => nomatch h)
    refine ⟨?_, ?_, ?_⟩
    · intro a ha hlost hcall
      have h := hlast (r := .presence a) (by rw [ha, readSlot_presence]) nofun (takeSlotReading_presence hlost hcall)
      rw [attentionAfter_presence] at h
      exact h
    · intro hno hstays
      have h := hlast (r := .noAnswer) (readSlot_nobody hno) nofun (hsilent hstays)
      rw [(hmaps _ (.inl rfl)).1, (hmaps _ (.inl rfl)).2] at h
      exact h
    · intro hg
      obtain ⟨hshown, hwords, h40, hrec, hkeep, heq⟩ := passSlot_last (r := .garbled) hi hctl hb hruns hroom (by simp)
        (garble_exchanged.garbled (by simp)) rfl
      rw [(hmaps _ (.inr rfl)).1, (hmaps _ (.inr rfl)).2] at hrec
      refine ⟨_, hpass (readSlot_garbled hg), hshown, h40, hwords (0x5D, s.bus.counts.rollCalls + 1) List.mem_cons_self,
        fun _ => hwords (0x5A, garbledCounts.garbled) (List.mem_cons_of_mem _ List.mem_cons_self), hrec,
        hkeep.mono fun a ha => ?_, heq⟩
      exact ha.imp_right fun ha => ha.imp_right fun ha => ha.imp_right fun ha =>
        ha.imp_left fun h => ⟨hg, List.mem_singleton.1 h⟩

end

section
/-! PROOFS. The contact input table and the edges of an input (R123–R133; O54, O56). -/

namespace Sys2Proof.Machine.State

variable {s t u v w z : State} {i j : Fin 16} {x y : Input} {k : Fin 16} {high active : Bool}

/-! ## The entry of an input (R124) -/

theorem inputWord_bounds {a : Nat} (h : InputWord i a) : 0xC0 ≤ a ∧ a < 0x100 := by
  have := inputAddr_bounds i
  unfold InputWord at h
  omega

theorem setRaw_self (s : State) (i : Fin 16) : s.setRaw i s.inputs[i].raw = s := by
  have hset : s.inputs.set i s.inputs[i] = s.inputs := by
    ext j hj
    simp only [Vector.getElem_set]
    split
    next h => subst h; rfl
    next => rfl
  show ({ s with inputs := s.inputs.set i s.inputs[i] } : State) = s
  rw [hset]

/-- A status word written shows its input, with the held flags given. -/
theorem writeStatus_written (s : State) (i : Fin 16) (held : Nat) :
    (s.writeStatus i held).peek (inputAddr i) = statusWord s.inputs[i] held ∧
      s.KeepsWords (s.writeStatus i held) (· = inputAddr i) ∧
      s.writeStatus i held = { s with mem := (s.writeStatus i held).mem } := by
  have hb := inputAddr_bounds i
  exact ⟨peek_poke_same _ _ _ (Nat.lt_of_lt_of_le (show inputAddr i < 0x100 by omega) (by decide)), poke_keepsWords _ _ _, rfl⟩

/-- What an input's word shows of the unit's stands: its entry stands. -/
theorem putInput_of_same (h : statusWord s.inputs[i] 0 = statusWord x 0) : s.putInput i x = s.setInputAt i x := if_pos h

theorem putInput_of_other (h : statusWord s.inputs[i] 0 ≠ statusWord x 0) :
    s.putInput i x = (s.setInputAt i x).writeStatus i (s.heldFlags i) := if_neg h

theorem putInput_keepsWords (s : State) (i : Fin 16) (x : Input) : s.KeepsWords (s.putInput i x) (· = inputAddr i) := by
  by_cases h : statusWord s.inputs[i] 0 = statusWord x 0
  · rw [putInput_of_same h]
    exact fun a _ => rfl
  · rw [putInput_of_other h]
    exact fun a ha => (writeStatus_written (s.setInputAt i x) i (s.heldFlags i)).2.1 a ha

theorem putInput_eq (s : State) (i : Fin 16) (x : Input) :
    s.putInput i x = { s with mem := (s.putInput i x).mem, inputs := s.inputs.set i x } := by
  by_cases h : statusWord s.inputs[i] 0 = statusWord x 0
  · rw [putInput_of_same h]
    rfl
  · rw [putInput_of_other h]
    rfl

theorem putInput_shown (h : statusWord s.inputs[i] 0 ≠ statusWord x 0) :
    (s.putInput i x).peek (inputAddr i) = statusWord x (s.heldFlags i) := by
  rw [putInput_of_other h, (writeStatus_written _ _ _).1, setInputAt_same]

theorem putPeriod_written (s : State) (i : Fin 16) (x : Input) :
    (s.putPeriod i x).peek (inputAddr i + 1) = BitVec.ofNat 32 x.period ∧
      s.KeepsWords (s.putPeriod i x) (fun a => a = inputAddr i ∨ a = inputAddr i + 1) ∧
      s.putPeriod i x = { s with mem := (s.putPeriod i x).mem, inputs := s.inputs.set i x } := by
  have hb := inputAddr_bounds i
  have hword := peek_poke_same (s.setInputAt i x) (inputAddr i + 1) (BitVec.ofNat 32 x.period)
    (Nat.lt_of_lt_of_le (show inputAddr i + 1 < 0x100 by omega) (by decide))
  have hk1 := poke_keepsWords (s.setInputAt i x) (inputAddr i + 1) (BitVec.ofNat 32 x.period)
  have hk2 := (writeStatus_written ((s.setInputAt i x).poke (inputAddr i + 1) (BitVec.ofNat 32 x.period)) i
    (((s.setInputAt i x).poke (inputAddr i + 1) (BitVec.ofNat 32 x.period)).heldFlags i)).2.1
  refine ⟨(hk2 _ (by omega)).trans hword, fun a ha => ?_, rfl⟩
  exact (hk2 a fun h => ha (.inl h)).trans (hk1 a fun h => ha (.inr h))

/-- A window is no part of what the word shows. -/
theorem statusWord_congr (hl : y.level = x.level) (hs : y.settled = x.settled) (ht : y.stalled = x.stalled)
    (hc : y.count = x.count) (held : Nat) : statusWord y held = statusWord x held := by
  unfold statusWord
  rw [hl, hs, ht, hc]

/-- Settling is shown. -/
theorem statusWord_settles (h : x.settled = false) (hy : y.settled = true) : statusWord x 0 ≠ statusWord y 0 := by
  intro heq
  have hn := congrArg BitVec.toNat heq
  unfold statusWord pack at hn
  rw [BitVec.toNat_ofNat, BitVec.toNat_ofNat, h, hy] at hn
  simp only [packNat] at hn
  revert hn
  cases x.level <;> cases y.level <;> simp only [bit] <;> intro hn <;> simp at hn <;> omega

end Sys2Proof.Machine.State

namespace Sys2Proof.Machine.State

variable {s t u v w z : State} {i j : Fin 16} {x y : Input} {k : Fin 16} {active : Bool}

/-! ## Edges in contact mode (R127, R128) -/

/-- The input that an edge leaves. -/
def edgedInput (s : State) (i : Fin 16) (active : Bool) : Input :=
  let x := s.inputs[i]
  { x with
    level := active, window := .none, count := satInc 65535 x.count
    actCap := if s.captures i active = true ∧ active = true then s.time.timestamp else x.actCap
    relCap := if s.captures i active = true ∧ active = false then s.time.timestamp else x.relCap }

/-- The count and the capture of an edge, and the words that show them. -/
theorem countEdge_counted (ht : t = s.countEdge i active) :
    t.peek (inputAddr i) = statusWord (s.edgedInput i active) (s.heldAfter i active) ∧
      (s.captures i active = true → t.peek (inputAddr i + 2 + edgeCode active) = s.time.timestamp) ∧
      s.KeepsWords t (fun a => a = inputAddr i ∨ (s.captures i active = true ∧ a = inputAddr i + 2 + edgeCode active)) ∧
      t = { s with mem := t.mem, inputs := s.inputs.set i (s.edgedInput i active) } := by
  have hb := inputAddr_bounds i
  have hside := edgeCode_le active
  by_cases hc : s.captures i active = true
  · have hx : s.edgedInput i active =
        (let x := { s.inputs[i] with level := active, window := .none, count := satInc 65535 s.inputs[i].count }
          if active then { x with actCap := s.time.timestamp } else { x with relCap := s.time.timestamp }) := by
      unfold edgedInput
      simp only [hc, true_and]
      cases active <;> rfl
    have hcount : t = (((s.setInputAt i (s.edgedInput i active)).poke (inputAddr i + 2 + edgeCode active)
        s.time.timestamp).writeStatus i (s.heldAfter i active)) := by
      rw [ht, hx]
      exact if_pos hc
    have hsame := setInputAt_same s i (s.edgedInput i active)
    have hword := peek_poke_same (s.setInputAt i (s.edgedInput i active)) (inputAddr i + 2 + edgeCode active) s.time.timestamp
      (Nat.lt_of_lt_of_le (show inputAddr i + 2 + edgeCode active < 0x100 by omega) (by decide))
    have hk := poke_keepsWords (s.setInputAt i (s.edgedInput i active)) (inputAddr i + 2 + edgeCode active) s.time.timestamp
    have he : (s.setInputAt i (s.edgedInput i active)).poke (inputAddr i + 2 + edgeCode active) s.time.timestamp =
        { s with
          mem := ((s.setInputAt i (s.edgedInput i active)).poke (inputAddr i + 2 + edgeCode active) s.time.timestamp).mem
          inputs := s.inputs.set i (s.edgedInput i active) } := rfl
    generalize hv : (s.setInputAt i (s.edgedInput i active)).poke (inputAddr i + 2 + edgeCode active) s.time.timestamp = v at *
    obtain ⟨hst, hk2, he2⟩ := writeStatus_written v i (s.heldAfter i active)
    have hvi : v.inputs[i] = s.edgedInput i active := by rw [← hsame, ← hv]; rfl
    rw [hvi] at hst
    rw [← hcount] at hst hk2 he2
    refine ⟨hst, fun _ => (hk2 _ (by omega)).trans hword, fun a ha => ?_, ?_⟩
    · simp only [not_or, not_and] at ha
      exact (hk2 a ha.1).trans (hk a (ha.2 hc))
    · rw [he2, he]
  · have hx : s.edgedInput i active =
        { s.inputs[i] with level := active, window := .none, count := satInc 65535 s.inputs[i].count } := by
      unfold edgedInput
      simp only [hc]
      rfl
    have hcount : t = (s.setInputAt i (s.edgedInput i active)).writeStatus i (s.heldAfter i active) := by
      rw [ht, hx]
      exact if_neg hc
    obtain ⟨hst, hk2, he2⟩ := writeStatus_written (s.setInputAt i (s.edgedInput i active)) i (s.heldAfter i active)
    rw [setInputAt_same] at hst
    rw [← hcount] at hst hk2 he2
    refine ⟨hst, fun h => absurd h hc, fun a ha => hk2 a fun h => ha (.inl h), he2⟩

/-- The EDGE record of an edge, where its set has it (R127). -/
def edgeMark (s : State) (i : Fin 16) (active : Bool) : Option Record :=
  if (s.settings.inputs[i]).recordEdges.has active then some (edgeRecord i active s.time.timestamp) else none

/-- An edge counted, recorded and raised: what stands before it triggers a list or moves a visit. -/
def markedEdge (s : State) (i : Fin 16) (active : Bool) : State :=
  let t := (s.countEdge i active).offerAll (s.edgeMark i active).toList
  if (s.settings.inputs[i]).wakeEdges.has active then t.raiseCause .edge else t

theorem contactEdge_eq (s : State) (i : Fin 16) (active : Bool) :
    s.contactEdge i active =
      (let t := s.markedEdge i active
        let t := if (s.settings.inputs[i]).triggerEdge.has active then t.offerTriggerTo (s.settings.inputs[i]).triggerList .edge else t
        if t.settings.visitInput = some i then
          if active then t.visitActive i s.time.timestamp else t.visitInactive
        else t) := by
  have hmark : (if (s.settings.inputs[i]).recordEdges.has active then
      (s.countEdge i active).offer (edgeRecord i active s.time.timestamp) else s.countEdge i active) =
        (s.countEdge i active).offerAll (s.edgeMark i active).toList := by
    unfold edgeMark
    split <;> rfl
  unfold contactEdge markedEdge
  dsimp only
  rw [hmark]

/-- What an edge at an input leaves before it triggers a list or moves a visit (R127, R128). -/
theorem markedEdge_marked (hroom : s.RoomForAll k (s.edgeMark i active).toList) (ht : t = s.markedEdge i active) :
    t.peek (inputAddr i) = statusWord (s.edgedInput i active) (s.heldAfter i active) ∧
      (s.captures i active = true → t.peek (inputAddr i + 2 + edgeCode active) = s.time.timestamp) ∧
      s.RecordedAll t k (s.edgeMark i active).toList ∧
      s.KeepsWords t (fun a => a = inputAddr i ∨ (s.captures i active = true ∧ a = inputAddr i + 2 + edgeCode active) ∨
        s.RecordWords k (s.edgeMark i active).toList a) ∧
      t =
        { s with
          mem := t.mem, inputs := s.inputs.set i (s.edgedInput i active), coll := t.coll
          wake := if (s.settings.inputs[i]).wakeEdges.has active then s.raised .edge else s.wake } := by
  obtain ⟨hst, hcap, hk1, he1⟩ := countEdge_counted (s := s) (i := i) (active := active) rfl
  unfold markedEdge at ht
  generalize s.countEdge i active = v at *
  obtain ⟨hrec, hk2, he2⟩ := offerAll_recorded (s := s) (u := v) (by rw [he1]) (by rw [he1]) (by rw [he1]) hroom rfl
  generalize v.offerAll (s.edgeMark i active).toList = w at *
  have hb := inputAddr_bounds i
  have hside := edgeCode_le active
  have hkept {a : Nat} (ha : 0xC0 ≤ a ∧ a < 0x100) : w.peek a = v.peek a := hk2 a fun h => by
    have := RecordWords.place hroom h
    omega
  have htw : t = { w with wake := if (s.settings.inputs[i]).wakeEdges.has active then s.raised .edge else s.wake } := by
    rw [ht]
    split
    next h =>
      rw [raiseCause_eq, raised_congr (t := w) (s := s) (by rw [he2, he1]) (by rw [he2, he1]) (by rw [he2, he1])]
    next h =>
      rw [← show w.wake = s.wake by rw [he2, he1]]
  subst htw
  refine ⟨(hkept (by omega)).trans hst, fun hc => (hkept (by omega)).trans (hcap hc), recordedAll_after hrec rfl fun _ _ => rfl,
    fun a ha => ?_, ?_⟩
  · simp only [not_or] at ha
    exact (hk2 a ha.2.2).trans (hk1 a fun h => h.elim ha.1 ha.2.1)
  · conv_lhs => rw [he2, he1]

end Sys2Proof.Machine.State

namespace Sys2Proof.Machine.State

variable {s t u v w z : State} {i j : Fin 16} {x y : Input} {k : Fin 16} {active : Bool} {raw : Bool} {due : Moment}

/-! ## The commands of an input in contact mode (R125, R126) -/

theorem exec_debounceExpiry (hr : s.ready) (hw : (s.inputs[i]).window = .debounce due) (hdue : due ≤ s.now) :
    exec (.debounceWindowExpiry i) s = .next ((s.setRaw i (s.inputs[i]).raw).endWindow i) := by
  rw [setRaw_self]
  refine congrArg Host.Outcome.next ((whenReady_of_ready _ hr).trans ?_)
  rw [hw]
  exact whenDue_of_le s _ hdue

theorem exec_firstExpiry (hr : s.ready) (hw : (s.inputs[i]).window = .first due) (hdue : due ≤ s.now) :
    exec (.firstWindowExpiry i) s = .next (((s.setRaw i (s.inputs[i]).raw).endFirstWindow i).settleEvent i) := by
  rw [setRaw_self]
  refine congrArg Host.Outcome.next ((whenReady_of_ready _ hr).trans ?_)
  rw [hw]
  exact whenDue_of_le s _ hdue

theorem exec_rawChange (hr : s.ready) (he : (s.settings.inputs[i]).enabled = true) (ht : (s.settings.inputs[i]).tach = false)
    (raw : Bool) : exec (.rawLevelChange i raw) s = .next ((s.setRaw i raw).contactRaw i) := by
  refine congrArg Host.Outcome.next ((whenReady_of_ready (s := s.setRaw i raw) _ hr).trans ?_)
  show (if ¬ (s.settings.inputs[i]).enabled then _ else if (s.settings.inputs[i]).tach then _ else _) = _
  rw [he, ht]
  rfl

theorem setRaw_input (s : State) (i : Fin 16) (raw : Bool) : (s.setRaw i raw).inputs[i] = { s.inputs[i] with raw } :=
  setInputAt_same _ _ _

theorem contactRaw_edge (hset : (s.inputs[i]).settled = true) (hd : (s.settings.inputs[i]).debounce = 0) :
    (s.setRaw i raw).contactRaw i = (s.setRaw i raw).endWindow i := by
  unfold contactRaw endWindow
  simp only [setRaw_input]
  rw [if_neg (by rw [hset]; exact fun h => h rfl)]
  split
  · rfl
  · exact if_pos hd

theorem contactRaw_settles (hset : (s.inputs[i]).settled = false) (hd : (s.settings.inputs[i]).debounce = 0) :
    (s.setRaw i raw).contactRaw i = ((s.setRaw i raw).endFirstWindow i).settleEvent i := by
  unfold contactRaw
  simp only [setRaw_input]
  rw [if_pos (by rw [hset]; exact nofun)]
  exact congrArg (fun t : State => t.settleEvent i) (if_pos hd)

/-- A window begins or is cancelled: the entry shows none, and stands. -/
theorem putInput_window (s : State) (i : Fin 16) (w : Window) :
    s.putInput i { s.inputs[i] with window := w } = s.setInputAt i { s.inputs[i] with window := w } :=
  putInput_of_same (statusWord_congr (x := { s.inputs[i] with window := w }) (y := s.inputs[i]) rfl rfl rfl rfl 0)

theorem putInput_raw_window (s : State) (i : Fin 16) (raw : Bool) (w : Window) :
    (s.setRaw i raw).putInput i { (s.setRaw i raw).inputs[i] with window := w } =
      { s with inputs := s.inputs.set i { s.inputs[i] with raw, window := w } } := by
  refine (putInput_window (s.setRaw i raw) i w).trans ?_
  rw [setRaw_input]
  show ({ s with inputs := (s.inputs.set i _).set i _ } : State) = _
  rw [Vector.set_set]

theorem endWindow_agrees (h : (raw != (s.settings.inputs[i]).activeLow) = (s.inputs[i]).level) :
    (s.setRaw i raw).endWindow i = { s with inputs := s.inputs.set i { s.inputs[i] with raw, window := .none } } := by
  have hagree : isActive (s.setRaw i raw).settings.inputs[i] ((s.setRaw i raw).inputs[i]) = ((s.setRaw i raw).inputs[i]).level := by
    rw [setRaw_input]
    exact h
  exact (if_pos hagree).trans (putInput_raw_window s i raw .none)

/-- A raw change with a debounce time begins a window, again where the input settles still, or cancels one (R125, R126). -/
theorem contactRaw_window (hpos : 0 < (s.settings.inputs[i]).debounce) :
    (s.setRaw i raw).contactRaw i =
      { s with
        inputs := s.inputs.set i { s.inputs[i] with
          raw
          window :=
            if (s.inputs[i]).settled = false then .first (s.now + 100 * (s.settings.inputs[i]).debounce)
            else if (raw != (s.settings.inputs[i]).activeLow) = (s.inputs[i]).level then .none
            else .debounce (s.now + 100 * (s.settings.inputs[i]).debounce) } } := by
  have hdeb : ¬ (s.settings.inputs[i]).debounce = 0 := Nat.pos_iff_ne_zero.1 hpos
  have hset : ((s.setRaw i raw).inputs[i]).settled = (s.inputs[i]).settled := by rw [setRaw_input]
  have hactive : (isActive (s.setRaw i raw).settings.inputs[i] ((s.setRaw i raw).inputs[i]) = ((s.setRaw i raw).inputs[i]).level) ↔
      (raw != (s.settings.inputs[i]).activeLow) = (s.inputs[i]).level := by
    rw [setRaw_input]
    exact Iff.rfl
  unfold contactRaw
  by_cases hs : (s.inputs[i]).settled = false
  · have hbegin : (s.setRaw i raw).beginFirstWindow i =
        { s with
          inputs := s.inputs.set i
            { s.inputs[i] with raw, window := .first (s.now + 100 * (s.settings.inputs[i]).debounce) } } :=
      (if_neg hdeb).trans (putInput_raw_window s i raw _)
    rw [if_pos (by rw [hset, hs]; exact nofun), if_pos hs, hbegin]
    refine if_neg fun ⟨_, h, _⟩ => ?_
    have hsettled : (s.inputs[i]).settled = true := by simpa using h
    rw [hs] at hsettled
    exact nomatch hsettled
  · rw [if_neg (by rw [hset]; exact fun h => hs (by simpa using h)), if_neg hs]
    by_cases hl : (raw != (s.settings.inputs[i]).activeLow) = (s.inputs[i]).level
    · rw [if_pos (hactive.2 hl), if_pos hl]
      exact putInput_raw_window s i raw .none
    · rw [if_neg (fun h => hl (hactive.1 h)), if_neg hl]
      exact (if_neg hdeb).trans (putInput_raw_window s i raw _)

theorem endWindow_edge (h : (raw != (s.settings.inputs[i]).activeLow) ≠ (s.inputs[i]).level) :
    (s.setRaw i raw).endWindow i = (s.setRaw i raw).contactEdge i (raw != (s.settings.inputs[i]).activeLow) := by
  have hdiffer : ¬ isActive (s.setRaw i raw).settings.inputs[i] ((s.setRaw i raw).inputs[i]) = ((s.setRaw i raw).inputs[i]).level := by
    rw [setRaw_input]
    exact h
  refine (if_neg hdiffer).trans ?_
  rw [setRaw_input]
  rfl

/-- An input settles at a first window's end, or at once (R126). -/
theorem endFirstWindow_settles (hset : (s.inputs[i]).settled = false) (ht : t = (s.setRaw i raw).endFirstWindow i) :
    t.peek (inputAddr i) =
        statusWord { s.inputs[i] with
          raw, level := raw != (s.settings.inputs[i]).activeLow, settled := true, window := .none } (s.heldFlags i) ∧
      s.KeepsWords t (· = inputAddr i) ∧
      t =
        { s with
          mem := t.mem
          inputs := s.inputs.set i { s.inputs[i] with
            raw, level := raw != (s.settings.inputs[i]).activeLow, settled := true, window := .none } } := by
  have hend : t = (s.setRaw i raw).putInput i { s.inputs[i] with
      raw, level := raw != (s.settings.inputs[i]).activeLow, settled := true, window := .none } := by
    rw [ht]
    unfold endFirstWindow
    simp only [setRaw_input]
    rfl
  have hword : statusWord (s.setRaw i raw).inputs[i] 0 ≠ statusWord { s.inputs[i] with
      raw, level := raw != (s.settings.inputs[i]).activeLow, settled := true, window := .none } 0 := by
    rw [setRaw_input]
    exact statusWord_settles hset rfl
  have hshown := putInput_shown hword
  have hk := putInput_keepsWords (s.setRaw i raw) i { s.inputs[i] with
      raw, level := raw != (s.settings.inputs[i]).activeLow, settled := true, window := .none }
  have he := putInput_eq (s.setRaw i raw) i { s.inputs[i] with
      raw, level := raw != (s.settings.inputs[i]).activeLow, settled := true, window := .none }
  rw [← hend] at hshown hk he
  refine ⟨hshown, hk, ?_⟩
  rw [show (s.setRaw i raw).inputs = s.inputs.set i { s.inputs[i] with raw } from rfl, Vector.set_set] at he
  exact he

theorem edge_triggers_none {list : Option (Fin 32)} {b : Bool} (h : list = none ∨ b = false) (t : State) :
    (if b then t.offerTriggerTo list .edge else t) = t := by
  obtain rfl | rfl := h
  · cases b <;> rfl
  · rfl

/-- Whether an edge of a kind is captured, by the hold setting and the held flags as they are read (R128). -/
def Captured (s : State) (i : Fin 16) (active : Bool) : Prop :=
  (s.settings.inputs[i]).firstHold = false ∨ (field (s.peek (inputAddr i)) 4 2).testBit (if active then 0 else 1) = false

theorem captures_iff : s.captures i active = true ↔ s.Captured i active := by
  unfold captures Captured heldFlags edgeCode
  simp

/-- The entry and the record of an edge at a pin that takes level `raw` (R125, R127, R128). -/
theorem rawEdge_marked {x' : Input} (hx : x' = (s.setRaw i raw).edgedInput i active) (hroom : s.RoomForAll k (s.edgeMark i active).toList)
    (ht : t = (s.setRaw i raw).markedEdge i active) :
    t.peek (inputAddr i) = statusWord x' (s.heldAfter i active) ∧
      (s.Captured i active → t.peek (inputAddr i + 2 + edgeCode active) = s.time.timestamp) ∧
      s.RecordedAll t k (s.edgeMark i active).toList ∧
      s.KeepsWords t (fun a => a = inputAddr i ∨ (s.Captured i active ∧ a = inputAddr i + 2 + edgeCode active) ∨
        s.RecordWords k (s.edgeMark i active).toList a) ∧
      t =
        { s with
          mem := t.mem, inputs := s.inputs.set i x', coll := t.coll
          wake := if (s.settings.inputs[i]).wakeEdges.has active then s.raised .edge else s.wake } := by
  have hcap : (s.setRaw i raw).captures i active = true ↔ s.Captured i active := captures_iff (s := s)
  obtain ⟨hst, hcapd, hrec, hkeep, heq⟩ := markedEdge_marked (s := s.setRaw i raw) (k := k) hroom ht
  rw [← hx] at hst heq
  simp only [hcap] at hcapd hkeep
  refine ⟨hst, hcapd, hrec, hkeep, ?_⟩
  rw [show (s.setRaw i raw).inputs = s.inputs.set i { s.inputs[i] with raw } from rfl, Vector.set_set] at heq
  exact heq

/-! ## The commands of an input in tach mode (R130) -/

theorem exec_rawChange_tach (hr : s.ready) (he : (s.settings.inputs[i]).enabled = true)
    (ht : (s.settings.inputs[i]).tach = true) (raw : Bool) :
    exec (.rawLevelChange i raw) s = .next ((s.setRaw i raw).tachRaw i) := by
  refine congrArg Host.Outcome.next ((whenReady_of_ready (s := s.setRaw i raw) _ hr).trans ?_)
  show (if ¬ (s.settings.inputs[i]).enabled then _ else if (s.settings.inputs[i]).tach then _ else _) = _
  rw [he, ht]
  rfl

theorem exec_tachEdge (hr : s.ready) (he : (s.settings.inputs[i]).enabled = true)
    (ht : (s.settings.inputs[i]).tach = true) (elapsed : Nat) :
    exec (.tachActiveEdge i elapsed) s =
      .next (((s.elapse elapsed).setRaw i (!(s.settings.inputs[i]).activeLow)).tachEdge i) := by
  refine congrArg Host.Outcome.next ((whenReady_of_ready
    (s := (s.elapse elapsed).setRaw i (!(s.settings.inputs[i]).activeLow)) _ hr).trans ?_)
  show (if ¬ (s.settings.inputs[i]).enabled then _ else if (s.settings.inputs[i]).tach then _ else _) = _
  rw [he, ht]
  rfl

theorem tachRaw_active : (s.setRaw i (!(s.settings.inputs[i]).activeLow)).tachRaw i =
    (s.setRaw i (!(s.settings.inputs[i]).activeLow)).tachEdge i := by
  refine if_pos ?_
  rw [setRaw_input]
  show ((!(s.settings.inputs[i]).activeLow) != (s.settings.inputs[i]).activeLow) = true
  simp

theorem tachRaw_inactive : (s.setRaw i (s.settings.inputs[i]).activeLow).tachRaw i =
    (s.setRaw i (s.settings.inputs[i]).activeLow).putInput i
      { s.inputs[i] with raw := (s.settings.inputs[i]).activeLow, level := false } := by
  unfold tachRaw
  rw [setRaw_input]
  refine if_neg ?_
  show ¬ ((s.settings.inputs[i]).activeLow != (s.settings.inputs[i]).activeLow) = true
  simp

theorem putInput_raw (s : State) (i : Fin 16) (raw : Bool) (x : Input) :
    (s.setRaw i raw).putInput i x = { s with mem := ((s.setRaw i raw).putInput i x).mem, inputs := s.inputs.set i x } := by
  refine (putInput_eq (s.setRaw i raw) i x).trans ?_
  rw [show (s.setRaw i raw).inputs = s.inputs.set i { s.inputs[i] with raw } from rfl, Vector.set_set]
  rfl

theorem settleEvent_of_other (h : s.settings.visitInput ≠ some i) : s.settleEvent i = s := if_neg fun h' => h h'.1

end Sys2Proof.Machine.State

open Sys2Proof.Machine State in
/-- Settles O54: an input by its mode, its debounce and its windows. -/
theorem inputsDebounceAndSettle : Obligations.InputsDebounceAndSettle := by
  intro s i hr g x put shown held edge settles
  have hedge {cmd : Sys2Proof.Instr} {raw : Bool} (hexec : exec cmd s = .next ((s.setRaw i raw).endWindow i)) : edge cmd raw := by
    refine ⟨fun hagree => hexec.trans (congrArg _ (endWindow_agrees hagree)), fun k hne hvisit hroom hquiet => ?_⟩
    generalize hactive : (raw != g.activeLow) = active at *
    have hmark : (s.edgeMark i active).toList = (if g.recordEdges.has active then
        [{ kind := .edge, payload := [pack [(4, i.val), (1, if active then 0 else 1)], s.time.timestamp] }] else []) := by
      unfold edgeMark
      split <;> rfl
    rw [← hmark] at hroom ⊢
    rw [endWindow_edge (by rw [hactive]; exact hne), hactive] at hexec
    obtain ⟨hst, hcap, hrec, hkeep, heq⟩ := rawEdge_marked (s := s) (i := i) (raw := raw) rfl hroom rfl
    rw [contactEdge_eq] at hexec
    rw [show (s.setRaw i raw).settings = s.settings from rfl] at hexec
    generalize (s.setRaw i raw).markedEdge i active = t at *
    have hq : (s.settings.inputs[i]).triggerList = none ∨ (s.settings.inputs[i]).triggerEdge.has active = false := hquiet
    dsimp only at hexec
    rw [edge_triggers_none hq, if_neg (by rw [heq]; exact hvisit)] at hexec
    have hcount : (s.setRaw i raw).edgedInput i active = { x with
        raw, level := active, window := .none, count := min (x.count + 1) 65535
        actCap :=
          if (g.firstHold = false ∨ held.testBit (if active then 0 else 1) = false) ∧ active = true then s.time.timestamp
          else x.actCap
        relCap :=
          if (g.firstHold = false ∨ held.testBit (if active then 0 else 1) = false) ∧ active = false then s.time.timestamp
          else x.relCap } := by
      have hcaptures : (s.setRaw i raw).captures i active = true ↔
          g.firstHold = false ∨ held.testBit (if active then 0 else 1) = false := captures_iff (s := s)
      unfold edgedInput
      simp only [setRaw_input, satInc_eq, hcaptures]
      rfl
    rw [hcount] at hst heq
    exact ⟨t, hexec, hst, hcap, hrec, hkeep, heq⟩
  have hsettle {cmd : Sys2Proof.Instr} {raw : Bool}
      (hexec : exec cmd s = .next (((s.setRaw i raw).endFirstWindow i).settleEvent i)) : settles cmd raw := by
    intro hvisit hset
    obtain ⟨hshown, hk, he⟩ := endFirstWindow_settles (raw := raw) hset rfl
    rw [settleEvent_of_other (by rw [he]; exact hvisit)] at hexec
    exact ⟨_, hexec, hshown, hk, he⟩
  refine ⟨?_, ?_, ?_, ?_, ?_, ?_⟩
  · intro high hoff
    refine congrArg Host.Outcome.next ((whenReady_of_ready (s := s.setRaw i high) _ hr).trans (if_pos ?_))
    show ¬ g.enabled = true
    rw [hoff]
    exact nofun
  · intro high hen htach hpos window
    rw [exec_rawChange hr hen htach]
    rw [contactRaw_window hpos]
  · intro high hen htach hzero
    refine ⟨fun hset => hedge ?_, fun hvisit hset => hsettle ?_ hvisit hset⟩
    · rw [exec_rawChange hr hen htach, contactRaw_edge hset hzero]
    · rw [exec_rawChange hr hen htach, contactRaw_settles hset hzero]
  · intro due hw hdue
    exact hedge (exec_debounceExpiry hr hw hdue)
  · intro due hw hdue
    exact hsettle (exec_firstExpiry hr hw hdue)
  · intro hen htach
    refine ⟨?_, ?_⟩
    · refine ⟨_, exec_rawChange_tach hr hen htach _, ?_⟩
      rw [tachRaw_inactive]
      exact ⟨fun a ha => putInput_keepsWords (s.setRaw i g.activeLow) i _ a ha, putInput_raw s i _ _⟩
    · rw [exec_rawChange_tach hr hen htach, exec_tachEdge hr hen htach]
      exact congrArg Host.Outcome.next tachRaw_active

end

section
/-! PROOFS. Tachometers, and the lists that edges, visits and calls for attention trigger (R130–R132, R138; O50, O56). -/

namespace Sys2Proof.Machine.State

variable {s t u v w z : State} {i : Fin 16} {x : Input} {k : Fin 16} {m : Moment} {elapsed : Nat}

/-! ## Tachometers that no channel names (R130–R132) -/

theorem notify_nobody (hch : ∀ c : Fin 4, (s.settings.channels[c]).tach ≠ some i) (f : State → Fin 4 → State) :
    s.notify i f = s := by
  have hall (ls : List (Fin 4)) : ls.foldl (fun s c => if s.tachOf c = some i then f s c else s) s = s := by
    induction ls with
    | nil => rfl
    | cons c ls ih =>
      rw [List.foldl_cons, if_neg (show ¬ s.tachOf c = some i from hch c)]
      exact ih
  exact hall _

/-- The state in which an input takes an active edge: the time that has passed, and the pin (R130, R164). -/
def atEdge (s : State) (i : Fin 16) (elapsed : Nat) : State := (s.elapse elapsed).setRaw i (!(s.settings.inputs[i]).activeLow)

theorem atEdge_input (s : State) (i : Fin 16) (elapsed : Nat) :
    (s.atEdge i elapsed).inputs[i] = { s.inputs[i] with raw := !(s.settings.inputs[i]).activeLow } :=
  setRaw_input (s.elapse elapsed) i _

/-- The input that an active edge leaves, but for its stall interval. -/
def tachEdged (s : State) (i : Fin 16) (elapsed : Nat) : Input :=
  { s.inputs[i] with
    raw := !(s.settings.inputs[i]).activeLow, level := true, count := min (s.inputs[i].count + 1) 65535
    lastEdge := some (s.now + elapsed) }

theorem atEdge_putPeriod (s : State) (i : Fin 16) (elapsed : Nat) (x : Input) :
    ((s.atEdge i elapsed).putPeriod i x).peek (inputAddr i + 1) = BitVec.ofNat 32 x.period ∧
      s.KeepsWords ((s.atEdge i elapsed).putPeriod i x) (fun a => a = inputAddr i ∨ a = inputAddr i + 1) ∧
      (s.atEdge i elapsed).putPeriod i x =
        { s with
          mem := ((s.atEdge i elapsed).putPeriod i x).mem, time := { s.time with base := s.now + elapsed }
          inputs := s.inputs.set i x } := by
  obtain ⟨hword, hkeep, heq⟩ := putPeriod_written (s.atEdge i elapsed) i x
  refine ⟨hword, fun a ha => hkeep a ha, heq.trans ?_⟩
  rw [show (s.atEdge i elapsed).inputs = s.inputs.set i { s.inputs[i] with raw := !(s.settings.inputs[i]).activeLow } from rfl,
    Vector.set_set]
  rfl

/-- An active edge with a last edge held: the period is measured, and a stall is told ended (R131). -/
theorem tachEdge_measures (hlast : (s.inputs[i]).lastEdge = some m) :
    (s.atEdge i elapsed).tachEdge i =
      (let t := (s.atEdge i elapsed).putPeriod i { s.tachEdged i elapsed with
          period := min (s.now + elapsed - m) 65535, stalled := false, stallFrom := some (s.now + elapsed) }
        if (s.inputs[i]).stalled then t.clearNotice i else t) := by
  unfold tachEdge
  rw [atEdge_input]
  simp only [hlast, satInc_eq]
  rfl

theorem tachEdge_first (hlast : (s.inputs[i]).lastEdge = none) :
    (s.atEdge i elapsed).tachEdge i =
      (s.atEdge i elapsed).putInput i { s.tachEdged i elapsed with
        stallFrom := if (s.inputs[i]).stalled then none else some (s.now + elapsed) } := by
  unfold tachEdge
  rw [atEdge_input]
  simp only [hlast, satInc_eq]
  rfl

/-- A stall interval that has run its length stalls the input (R132). -/
theorem exec_stallExpiry (hr : s.ready) (he : (s.settings.inputs[i]).enabled = true) (ht : (s.settings.inputs[i]).tach = true)
    (hm : (s.inputs[i]).stallFrom = some m) (hdue : m + 1000 * (s.settings.inputs[i]).stallTime ≤ s.now) :
    exec (.stallIntervalExpiry i) s = .next (s.stallInput i) := by
  refine congrArg Host.Outcome.next ((whenReady_of_ready _ hr).trans ?_)
  unfold compareStall
  rw [hm]
  exact if_pos ⟨he, ht, hdue⟩

end Sys2Proof.Machine.State

open Sys2Proof.Machine State in
/-- Settles O56: active edges of a tach input, and its stall. -/
theorem tachometersMeasureAndStall : Obligations.TachometersMeasureAndStall := by
  intro s i elapsed hr hen htach hch g x now edge time
  have hexec : exec (.tachActiveEdge i elapsed) s = .next ((s.atEdge i elapsed).tachEdge i) := exec_tachEdge hr hen htach elapsed
  refine ⟨fun m hlast => ?_, fun hlast => ?_, fun m hm hdue => ?_⟩
  · obtain ⟨hword, hkeep, heq⟩ := atEdge_putPeriod s i elapsed { s.tachEdged i elapsed with
      period := min (s.now + elapsed - m) 65535, stalled := false, stallFrom := some (s.now + elapsed) }
    rw [tachEdge_measures hlast] at hexec
    generalize (s.atEdge i elapsed).putPeriod i { s.tachEdged i elapsed with
      period := min (s.now + elapsed - m) 65535, stalled := false, stallFrom := some (s.now + elapsed) } = t at *
    have hclear : t.clearNotice i = t := notify_nobody (by rw [heq]; exact hch) _
    simp only [hclear, ite_self] at hexec
    exact ⟨t, hexec, hword, hkeep, heq⟩
  · rw [tachEdge_first hlast] at hexec
    refine ⟨_, hexec, fun a ha => putInput_keepsWords (s.atEdge i elapsed) i _ a ha, ?_⟩
    exact putInput_raw (s.elapse elapsed) i _ _
  · obtain ⟨hword, hkeep, heq⟩ := putPeriod_written s i
      { s.inputs[i] with stalled := true, period := 65535, lastEdge := none, stallFrom := none }
    have hexec := exec_stallExpiry hr hen htach hm hdue
    unfold stallInput at hexec
    generalize s.putPeriod i { s.inputs[i] with stalled := true, period := 65535, lastEdge := none, stallFrom := none } = t at *
    have hnotice : t.stallNotice i = t := notify_nobody (by rw [heq]; exact hch) _
    rw [hnotice] at hexec
    exact ⟨t, hexec, hword, hkeep, heq⟩

namespace Sys2Proof.Machine.State

variable {s t u v w y z : State} {i : Fin 16} {x : Input} {k : Fin 16} {l : Fin 32} {src : Source} {active raw : Bool}
  {V : Visit} {vs : Stamp} {b : VisitBroadcast}

/-! ## The beginning of a visit (R138) -/

/-- The visit state, its BEGIN record and its cause: what stands before the visit list is triggered. -/
def visitMarked (s : State) (V : Visit) : State := ((s.setVisitState V).offerVisit .begin).raiseCause .visit

theorem visitMarked_marked (hne : V.state ≠ s.visit.state) (hroom : s.RoomFor k 4) (ht : t = s.visitMarked V) :
    t.peek 0x40 = t.word40 ∧ s.Recorded t k (visitRecord V .begin) ∧
      s.KeepsWords t (fun a => a = 0x40 ∨ s.RecordWord k 4 a) ∧
      t = { s with mem := t.mem, visit := V, coll := s.collAfter 4, wake := s.raised .visit } := by
  have h40 := setVisitState_shown V hne
  have hk1 := setVisitState_keepsWords s V
  have he1 := setVisitState_eq s V
  unfold visitMarked at ht
  generalize s.setVisitState V = v at *
  have hV : v.visit = V := by rw [he1]
  unfold offerVisit at ht
  rw [hV] at ht
  obtain ⟨hrec, hk2, he2⟩ := offer_from (s := s) (u := v) (r := visitRecord V .begin) (by rw [he1]) (by rw [he1]) (by rw [he1]) hroom
  generalize v.offer (visitRecord V .begin) = w at *
  have htw : t = { w with wake := s.raised .visit } := by
    rw [ht, raiseCause_eq, raised_congr (t := w) (s := s) (by rw [he2, he1]) (by rw [he2, he1]) (by rw [he2, he1])]
  subst htw
  refine ⟨?_, recorded_after hrec rfl fun _ _ => rfl, hk1.trans hk2, ?_⟩
  · refine ((hk2 _ (not_recordWord hroom (by decide) (by decide) (by decide) (by decide))).trans h40).trans ?_
    refine (word40_eq_iff (t := v)).2 ?_
    rw [he2]
    exact ⟨rfl, rfl, rfl, rfl, rfl, rfl⟩
  · conv_lhs => rw [he2, he1]
    rfl

theorem visitBegin_eq (s : State) (i : Fin 16) (vs : Stamp) :
    s.visitBegin i vs =
      ((s.visitMarked { state := .starting, begin := vs, input := i, endDue := none }).offerTriggerTo
        (s.visitMarked { state := .starting, begin := vs, input := i, endDue := none }).settings.visitList .visit).makePending
          .localRelease := rfl

end Sys2Proof.Machine.State

namespace Sys2Proof.Machine.State

variable {s t u v w y z : State} {i j : Fin 16} {x : Input} {k : Fin 16} {l : Fin 32} {src : Source} {active raw : Bool}
  {V : Visit} {vs : Stamp} {b : VisitBroadcast}

/-- A trigger leaves the engine state, and the context is the one given. -/
theorem Triggered.engine_rest {e : Option Ctx} (h : s.Triggered t l src e) :
    t.engine.ctx = e ∧ t.engine.mode = s.engine.mode := by
  unfold Triggered at h
  split at h
  · rw [h.1]
    exact ⟨rfl, rfl⟩
  · split at h
    · rw [h.1]
      exact ⟨rfl, rfl⟩
    · split at h <;>
      · rw [h.1]
        exact ⟨rfl, rfl⟩

/-- A visit begins, with no list to trigger (R135, R138). -/
theorem visitBegin_begins (hV : V = { state := .starting, begin := vs, input := i, endDue := none })
    (hoff : s.visit.state = .off) (hlist : s.settings.visitList = none) (hroom : s.RoomFor k 4) (ht : t = s.visitBegin i vs) :
    s.Recorded t k (visitRecord V .begin) ∧ t.peek 0x40 = t.word40 ∧ s.KeepsWords t (fun a => a = 0x40 ∨ s.RecordWord k 4 a) ∧
      t =
        { s with
          mem := t.mem, visit := V, coll := s.collAfter 4, wake := s.raised .visit, bus := s.busPending .localRelease } := by
  rw [visitBegin_eq, ← hV] at ht
  obtain ⟨h40, hrec, hk1, he1⟩ := visitMarked_marked (s := s) (V := V) (by rw [hV, hoff]; exact nofun) hroom rfl
  generalize s.visitMarked V = y at *
  have hnone : y.offerTriggerTo y.settings.visitList .visit = y := by
    rw [show y.settings.visitList = none by rw [he1]; exact hlist]
    rfl
  rw [hnone] at ht
  obtain ⟨hk2, hshows, he2⟩ := makePending_pending ht
  rw [busPending_congr (s := s) (by rw [he1]) (by rw [he1])] at he2
  refine ⟨recorded_after hrec (by rw [he2]) fun a ha => hk2 a ?_, ?_, (hk1.trans hk2).mono fun a ha => ?_, ?_⟩
  · have := RecordWord.place hroom ha
    omega
  · exact hshows.elim id fun h => by rw [h.1, h.2, h40]
  · exact ha.elim id .inl
  · conv_lhs => rw [he2, he1]

/-- A visit begins, and triggers its list, the engine not being IDLE (R135, R138). -/
theorem visitBegin_triggers (hV : V = { state := .starting, begin := vs, input := i, endDue := none })
    (hoff : s.visit.state = .off) (hlist : s.settings.visitList = some l) (hmode : s.engine.mode ≠ .idle) (hroom : s.RoomFor k 4)
    (ht : t = s.visitBegin i vs) :
    s.Triggered t l .visit s.engine.ctx ∧ s.Recorded t k (visitRecord V .begin) ∧ t.peek 0x40 = t.word40 ∧
      s.KeepsWords t (fun a => a = 0x40 ∨ TriggerWord l a ∨ s.RecordWord k 4 a) ∧
      t =
        { s with
          mem := t.mem, engine := t.engine, visit := V, coll := s.collAfter 4, wake := s.raised .visit
          bus := s.busPending .localRelease } := by
  rw [visitBegin_eq, ← hV] at ht
  obtain ⟨h40, hrec, hk1, he1⟩ := visitMarked_marked (s := s) (V := V) (by rw [hV, hoff]; exact nofun) hroom rfl
  generalize s.visitMarked V = y at *
  have hd := dirAddr_bounds l
  have hstands {a : Nat} (ha : (0x46 ≤ a ∧ a ≤ 0x56) ∨ (0xAC ≤ a ∧ a < 0xBC) ∨ (0x180 ≤ a ∧ a < 0x200)) : y.peek a = s.peek a :=
    hk1 a fun hb => by
      rcases hb with hb | hb
      · omega
      · have := RecordWord.place hroom hb
        omega
  have hsome : y.offerTriggerTo y.settings.visitList .visit = y.triggered l .visit := by
    rw [show y.settings.visitList = some l by rw [he1]; exact hlist]
    exact offerTrigger_eq (by rw [he1]; exact hmode)
  rw [hsome] at ht
  have htr := triggered_triggered y l .visit
  have hkt := triggered_keepsWords y l .visit
  have het := triggered_eq y l .visit
  generalize y.triggered l .visit = z at *
  have htr' : s.Triggered z l .visit s.engine.ctx := by
    rw [show y.engine.ctx = s.engine.ctx by rw [he1]] at htr
    exact triggered_since htr (readDir_congr (hstands (by omega)) (hstands (by omega)))
      (fun a ha => hstands (triggerWord_bounds ha)) (x := s.engine.ctx) (by rw [he1]) (by rw [he1])
  obtain ⟨hzctx, hzmode⟩ := htr'.engine_rest
  obtain ⟨hk2, hshows, he2⟩ := makePending_pending ht
  rw [busPending_congr (s := s) (by rw [het, he1]) (by rw [het, he1])] at he2
  have hother {a : Nat} (ha : a = 0x40 ∨ 0x2000 ≤ a ∨ a = 0x9B ∨ a = 0xA0 ∨ a = 0xA1) : z.peek a = y.peek a := hkt a fun hb => by
    have := triggerWord_bounds hb
    omega
  refine ⟨?_, ?_, ?_, ((hk1.trans hkt).trans hk2).mono fun a ha => ?_, ?_⟩
  · refine triggered_after htr' (fun a ha => hk2 a ?_) (x := s.engine.ctx) ?_
    · have := triggerWord_bounds ha
      omega
    · rw [he2]
      show z.engine = { z.engine with ctx := s.engine.ctx }
      rw [← hzctx]
  · refine recorded_after hrec (by rw [he2, het]) fun a ha => ?_
    have := RecordWord.place hroom ha
    rw [hk2 a (by omega), hother (by omega)]
  · have hword : z.word40 = y.word40 := word40_eq_iff.2 (by
      rw [hzmode, het, he1]
      exact ⟨rfl, rfl, rfl, rfl, rfl, rfl⟩)
    exact hshows.elim id fun h => by rw [h.1, h.2, hother (.inl rfl), h40, hword]
  · rcases ha with ((ha | ha) | ha) | ha
    · exact .inl ha
    · exact .inr (.inr ha)
    · exact .inr (.inl ha)
    · exact .inl ha
  · rw [show t.engine = z.engine by rw [he2]]
    conv_lhs => rw [he2, het, he1]

end Sys2Proof.Machine.State


namespace Sys2Proof.Machine.State

variable {s t u v w y z : State} {i j : Fin 16} {k : Fin 16} {l : Fin 32} {active raw : Bool} {vs : Stamp}

theorem worsenList_of_named {d : WatchDef} (h : d.worsen = l.val) : d.worsenList = some l := by
  unfold WatchDef.worsenList optByte
  rw [h, if_neg (by omega)]
  exact congrArg some (Fin.ext (Nat.mod_eq_of_lt l.isLt))

theorem edgeMark_none (h : (s.settings.inputs[i]).recordEdges.has active = false) : s.edgeMark i active = none := by
  unfold edgeMark
  rw [h]
  rfl

theorem visitActive_of_off (h : s.visit.state = .off) : s.visitActive i vs = s.visitBegin i vs := by
  unfold visitActive
  rw [h]

theorem recordWords_nil {a : Nat} : ¬ s.RecordWords k [] a := fun h => h.1 rfl

theorem roomForAll_nil : s.RoomForAll k [] := fun h => absurd rfl h

/-- The words of the input an edge may write. -/
theorem inputWord_of_edge {a : Nat} (h : a = inputAddr i ∨ (s.Captured i active ∧ a = inputAddr i + 2 + edgeCode active) ∨
    s.RecordWords k [] a) : InputWord i a := by
  have := edgeCode_le active
  unfold InputWord
  rcases h with h | h | h
  · omega
  · omega
  · exact absurd h recordWords_nil

theorem busPending_of_busy (h : s.bus.ctl ≠ .idle) (b : VisitBroadcast) :
    s.busPending b = { s.bus with visitPending := some b } := if_pos h

/-- The slot before the thirtieth passes to the next one. -/
theorem passSlot_next_eq {m n : Fin 30} (hj : n.val = m.val + 1) (present attention : Word) (r : SlotReading) :
    s.passSlot m present attention r =
      (s.takeSlotReading m r).setCtl (.slots n (presentAfter present m r) (attentionAfter attention m r)) := by
  have hlt : m.val + 1 < 30 := hj ▸ n.isLt
  unfold passSlot
  rw [dif_pos hlt, show (⟨m.val + 1, hlt⟩ : Fin 30) = n from Fin.ext hj.symm]
  rfl

/-- An edge that is not recorded triggers its list (R127). -/
theorem edge_triggers (hvisit : s.settings.visitInput ≠ some i) (hrec : (s.settings.inputs[i]).recordEdges.has active = false)
    (hlist : (s.settings.inputs[i]).triggerList = some l) (hhas : (s.settings.inputs[i]).triggerEdge.has active = true)
    (hmode : s.engine.mode ≠ .idle) (ht : t = (s.setRaw i raw).contactEdge i active) :
    s.Triggered t l .edge s.engine.ctx ∧ s.KeepsWords t (fun a => InputWord i a ∨ TriggerWord l a) ∧
      (t.inputs[i]).level = active ∧ (∀ j : Fin 16, j ≠ i → t.inputs[j] = s.inputs[j]) ∧
      t =
        { s with
          mem := t.mem, inputs := t.inputs, engine := t.engine
          wake := if (s.settings.inputs[i]).wakeEdges.has active then s.raised .edge else s.wake } := by
  have hmark := edgeMark_none hrec
  obtain ⟨-, -, hrecs, hk1, he1⟩ := rawEdge_marked (s := s) (raw := raw) (k := 0) rfl (by rw [hmark]; exact roomForAll_nil) rfl
  rw [contactEdge_eq] at ht
  generalize hx : (s.setRaw i raw).edgedInput i active = x at *
  have hlevel : x.level = active := by rw [← hx]; rfl
  clear hx
  generalize (s.setRaw i raw).markedEdge i active = y at *
  rw [hmark] at hrecs hk1
  have hcoll : y.coll = s.coll := hrecs.nil_coll
  rw [hcoll] at he1
  have hkept (a : Nat) (ha : ¬ InputWord i a) : y.peek a = s.peek a := hk1 a fun h => ha (inputWord_of_edge h)
  have hsome : t = y.triggered l .edge := by
    have hb : (((s.setRaw i raw).settings.inputs[i]).triggerEdge.has active) = true := hhas
    have hl : ((s.setRaw i raw).settings.inputs[i]).triggerList = some l := hlist
    have hv : (y.triggered l .edge).settings.visitInput ≠ some i := by
      rw [triggered_eq, he1]
      exact hvisit
    have hoffer : y.offerTriggerTo (some l) .edge = y.triggered l .edge := offerTrigger_eq (by rw [he1]; exact hmode)
    rw [ht, hl, hb]
    simp only [if_true, hoffer]
    exact if_neg hv
  have htr := triggered_triggered y l .edge
  have hkt := triggered_keepsWords y l .edge
  have het := triggered_eq y l .edge
  rw [← hsome] at htr hkt het
  rw [show y.engine.ctx = s.engine.ctx by rw [he1]] at htr
  have hb {a : Nat} (h : InputWord i a) : 0xC0 ≤ a ∧ a < 0x100 := inputWord_bounds h
  have hd := dirAddr_bounds l
  have hfar {a : Nat} (ha : (0x46 ≤ a ∧ a ≤ 0x56) ∨ (0xAC ≤ a ∧ a < 0xBC) ∨ (0x180 ≤ a ∧ a < 0x200)) : ¬ InputWord i a := fun h => by
    have := hb h
    omega
  have hinputs : t.inputs = s.inputs.set i x := by rw [het, he1]
  refine ⟨?_, (show s.KeepsWords y (InputWord i) from hkept).trans hkt, ?_, fun j hj => ?_, ?_⟩
  · exact triggered_since htr (readDir_congr (hkept _ (hfar (by omega))) (hkept _ (hfar (by omega))))
      (fun a ha => hkept _ (hfar (triggerWord_bounds ha))) (x := s.engine.ctx) (by rw [he1]) (by rw [he1])
  · rw [show t.inputs[i] = (s.inputs.set i x)[i] by simp only [hinputs], Fin.getElem_fin, Vector.getElem_set_self]
    exact hlevel
  · rw [show t.inputs[j] = (s.inputs.set i x)[j] by simp only [hinputs], Fin.getElem_fin,
      Vector.getElem_set_ne _ _ fun h => hj (Fin.ext h.symm)]
    rfl
  · rw [hinputs]
    conv_lhs => rw [het, he1]

/-- The ACTIVATE edge of the visit input, the edge doing nothing else, begins a visit that triggers its list (R135, R138). -/
theorem edge_visit_triggers (hvisit : s.settings.visitInput = some i) (hactive : active = true) (hoff : s.visit.state = .off)
    (hlist : s.settings.visitList = some l) (hrec : (s.settings.inputs[i]).recordEdges.has active = false)
    (hwake : (s.settings.inputs[i]).wakeEdges.has active = false)
    (hquiet : (s.settings.inputs[i]).triggerList = none ∨ (s.settings.inputs[i]).triggerEdge.has active = false)
    (hmode : s.engine.mode ≠ .idle) (hroom : s.RoomFor k 4) (ht : t = (s.setRaw i raw).contactEdge i active) :
    s.Triggered t l .visit s.engine.ctx ∧ s.Recorded t k (visitRecord t.visit .begin) ∧ t.peek 0x40 = t.word40 ∧
      s.KeepsWords t (fun a => InputWord i a ∨ a = 0x40 ∨ TriggerWord l a ∨ s.RecordWord k 4 a) ∧
      t =
        { s with
          mem := t.mem, inputs := t.inputs, engine := t.engine, coll := s.collAfter 4, wake := s.raised .visit
          visit := { state := .starting, begin := s.time.timestamp, input := i, endDue := none }
          bus := s.busPending .localRelease } := by
  have hmark := edgeMark_none hrec
  obtain ⟨-, -, hrecs, hk1, he1⟩ := rawEdge_marked (s := s) (raw := raw) (k := 0) rfl (by rw [hmark]; exact roomForAll_nil) rfl
  rw [contactEdge_eq] at ht
  generalize (s.setRaw i raw).edgedInput i active = x at *
  generalize (s.setRaw i raw).markedEdge i active = y at *
  rw [hmark] at hrecs hk1
  rw [hrecs.nil_coll, if_neg (by rw [hwake]; exact nofun)] at he1
  have hkept (a : Nat) (ha : ¬ InputWord i a) : y.peek a = s.peek a := hk1 a fun h => ha (inputWord_of_edge h)
  have hbegin : t = y.visitBegin i s.time.timestamp := by
    have hq : ((s.setRaw i raw).settings.inputs[i]).triggerList = none ∨
      ((s.setRaw i raw).settings.inputs[i]).triggerEdge.has active = false := hquiet
    have hv : y.settings.visitInput = some i := by
      rw [he1]
      exact hvisit
    rw [ht]
    simp only [edge_triggers_none hq, if_pos hv, if_pos hactive]
    exact visitActive_of_off (by rw [he1]; exact hoff)
  have hb {a : Nat} (h : InputWord i a) : 0xC0 ≤ a ∧ a < 0x100 := inputWord_bounds h
  have hd := dirAddr_bounds l
  have hfar {a : Nat} (ha : a < 0xC0 ∨ 0x180 ≤ a) : ¬ InputWord i a := fun h => by
    have := hb h
    omega
  obtain ⟨htr, hr, h40, hk2, he2⟩ := visitBegin_triggers (s := y) (k := k) rfl (by rw [he1]; exact hoff) (by rw [he1]; exact hlist)
    (by rw [he1]; exact hmode) ((roomFor_congr (by rw [he1]) (by rw [he1])).2 hroom) hbegin
  have hvisitT : t.visit = { state := .starting, begin := s.time.timestamp, input := i, endDue := none } := by rw [he2]
  have hword (a : Nat) : y.RecordWord k 4 a ↔ s.RecordWord k 4 a := recordWord_congr (by rw [he1]) (by rw [he1]) a
  simp only [hword] at hk2
  refine ⟨?_, ?_, h40, (show s.KeepsWords y (InputWord i) from hkept).trans hk2, ?_⟩
  · rw [show y.engine.ctx = s.engine.ctx by rw [he1]] at htr
    exact triggered_since htr (readDir_congr (hkept _ (hfar (by omega))) (hkept _ (hfar (by omega))))
      (fun a ha => hkept _ (hfar (by have := triggerWord_bounds ha; omega))) (x := s.engine.ctx) (by rw [he1]) (by rw [he1])
  · rw [hvisitT]
    exact (recorded_congr (by rw [he1]) (by rw [he1]) (by rw [he1])).1 hr
  · rw [show y.collAfter 4 = s.collAfter 4 by unfold collAfter; rw [he1],
      show y.raised .visit = s.raised .visit from raised_congr (by rw [he1]) (by rw [he1]) (by rw [he1]) _,
      show y.busPending .localRelease = s.busPending .localRelease from busPending_congr (by rw [he1]) (by rw [he1]) _] at he2
    conv_lhs => rw [he2, he1]
    rw [show t.inputs = s.inputs.set i x by rw [he2, he1]]

end Sys2Proof.Machine.State

open Sys2Proof.Machine State in
/-- Settles O50: a worsening grade, an edge, the beginning of a visit and a call for attention trigger their lists. -/
theorem triggersFollowTheirEvents : Obligations.TriggersFollowTheirEvents := by
  intro s l k hmode
  refine ⟨?_, ?_, ?_⟩
  · intro r h hp n d old w harmed hgood hsev hworsen hshed hroom
    have hworsenList : d.worsenList = some l := worsenList_of_named hworsen
    have hwork : s.feedWatch r.watch (signed 32 r.p2.toNat) =
        (s.regrade n w d .evaluation, some (.ok, BitVec.ofNat 32 ((s.regrade n w d .evaluation).watches[n]).grade.code)) := by
      unfold feedWatch
      rw [if_pos (show (s.watches[r.watch]).armed = true from harmed)]
      simp only [show (readDef s.mem r.watch).firstFault = none from hgood]
      rfl
    rw [regrade_watches, Fin.getElem_fin, Vector.getElem_set_self] at hwork
    clear_value w
    obtain ⟨hshown, hrec, htr, hkeep, heq⟩ := regrade_triggers (s := s) (n := n) (x := w) (d := d) (cause := .evaluation) (i := k)
      hmode hsev hshed hworsenList hroom rfl
    generalize s.regrade n w d .evaluation = t at *
    have htrigger : Spares r (TriggerWord l) := spares_of_bounds fun a ha => by
      have := triggerWord_bounds ha
      omega
    have hsp := (spares_watchWord (r := r) n).or (htrigger.or (spares_recordWord hroom))
    have hexec : exec .watchFeed s = .next (s.whenReady fun s => s.carryOut .watchFeed fun r s =>
        s.feedWatch r.watch (signed 32 r.p2.toNat)) := rfl
    obtain ⟨v, hv, hdone, hu⟩ := answers_of_work h hexec hwork
      { s with
        watches := s.watches.set n w, coll := s.collAfter 4, engine := t.engine
        wake := if d.wakes w.grade then s.raised .grade else s.wake } hsp hkeep heq rfl (held := s.req.inflight) rfl fun u hu => hu
    have heng : v.engine = t.engine := by rw [hu.2]
    rw [← heng] at hdone
    refine ⟨v, hv, hdone, watchShown_congr hshown (by rw [hu.2]) fun a ha => hu.peek hsp (.inl ha), recorded_reported hroom hrec hu,
      triggered_after htr (fun a ha => hu.peek hsp (.inr (.inl ha))) (x := s.engine.ctx) ?_⟩
    rw [heng]
    show t.engine = { t.engine with ctx := s.engine.ctx }
    rw [← htr.engine_rest.1]
  · intro i due hr hw hdue g active hne
    have hexec := exec_debounceExpiry hr hw hdue
    rw [endWindow_edge hne] at hexec
    refine ⟨fun hvisit hnorec hlist hhas => ⟨_, hexec, edge_triggers hvisit hnorec hlist hhas hmode rfl⟩,
      fun hvisit hactive hoff hlist hnorec hnowake hquiet hroom hctl => ⟨_, hexec, ?_⟩⟩
    have h := edge_visit_triggers hvisit hactive hoff hlist hnorec hnowake hquiet hmode hroom (raw := (s.inputs[i]).raw) rfl
    rw [busPending_of_busy hctl] at h
    exact h
  · intro i j present attention hr hctl hj hlost hcalm hlist mark
    have hanswer : readSlot (.bits true true false false) = .presence true := readSlot_presence true
    have hexec := exec_rollCallSlot hr hctl (.bits true true false false)
    rw [hanswer] at hexec
    have hh : (s.heardNow i).attention = false := hcalm
    obtain ⟨y, hy, hattend⟩ := (heard_exchanged (k := k) (how := .rollCall) hlost).attend_triggers hh hlist hmode
    have htake : s.takeSlotReading i (.presence true) = y.triggered l .attention := hattend
    rw [passSlot_next_eq hj, htake] at hexec
    obtain ⟨htr, hshown, -, hrecs, hkeep, hctx, heq⟩ := hy.trigger (w := y.triggered l .attention) rfl
    generalize y.triggered l .attention = w at *
    have hcode : (BusCtl.slots j (presentAfter present i (.presence true)) (attentionAfter attention i (.presence true))).code =
        w.bus.ctl.code := by
      rw [heq]
      show 5 = s.bus.ctl.code
      rw [hctl]
      rfl
    rw [setCtl_of_same_code hcode, attentionAfter_presence] at hexec
    refine ⟨_, hexec, ?_, ?_, ?_, ?_⟩
    · exact triggered_after htr (fun _ _ => rfl) (x := s.engine.ctx) (by rw [← hctx]; rfl)
    · exact stationShown_congr hshown rfl fun _ _ => rfl
    · exact hkeep.mono fun b hb => hb.imp_left fun hb => hb.elim id fun hb => hb.elim (fun h => nomatch h) fun h => absurd h recordWords_nil
    · rw [hrecs.nil_coll] at heq
      conv_lhs => rw [heq]
      rfl

end

section

namespace Sys2Proof.Machine

variable {a : Awaited} {source type n v : Nat} {accept ready attention last b : Bool} {data check bits body : List Bool}

/-! ## Bits and the numbers they spell -/

theorem bitsOf_length (n v : Nat) : (bitsOf n v).length = n := by simp [bitsOf]

theorem bitsOf_succ (n v : Nat) : bitsOf (n + 1) v = bitsOf n (v / 2) ++ [v.testBit 0] := by
  unfold bitsOf
  rw [List.range_succ, List.map_append, List.map_singleton, Nat.add_sub_cancel, Nat.sub_self]
  congr 1
  refine List.map_congr_left fun i hi => ?_
  have hi := List.mem_range.1 hi
  rw [← Nat.testBit_succ]
  congr 1
  omega

theorem natOfBits_concat (bits : List Bool) (b : Bool) : natOfBits (bits ++ [b]) = 2 * natOfBits bits + bit b := by
  simp [natOfBits]

theorem bit_testBit_zero (v : Nat) : bit (v.testBit 0) = v % 2 := by
  rw [Nat.testBit_zero]
  rcases Nat.mod_two_eq_zero_or_one v with h | h <;> rw [h] <;> rfl

/-- A number sent reads back as its low bits. -/
theorem natOfBits_bitsOf (n v : Nat) : natOfBits (bitsOf n v) = v % 2 ^ n := by
  induction n generalizing v with
  | zero => simp [bitsOf, natOfBits, Nat.mod_one]
  | succ n ih =>
    rw [bitsOf_succ, natOfBits_concat, ih, bit_testBit_zero, Nat.pow_succ, Nat.mul_comm (2 ^ n), Nat.mod_mul]
    omega

/-- Bits received are the bits of the number they spell. -/
theorem bitsOf_natOfBits (bits : List Bool) : bitsOf bits.length (natOfBits bits) = bits := by
  induction bits using List.reverseRecOn with
  | nil => rfl
  | append_singleton bits b ih =>
    have hhalf : natOfBits (bits ++ [b]) / 2 = natOfBits bits := by
      rw [natOfBits_concat]
      have : bit b < 2 := by cases b <;> decide
      omega
    have hlow : (natOfBits (bits ++ [b])).testBit 0 = b := by
      rw [natOfBits_concat, Nat.testBit_zero]
      cases b <;> simp [bit]
    rw [List.length_append, List.length_singleton, bitsOf_succ, hhalf, hlow, ih]

/-! ## The check of a reply (R55) -/

theorem checkStep_lt (reg : Nat) (b : Bool) : checkStep reg b < 2 ^ 16 := by
  have h : reg * 2 % 65536 < 2 ^ 16 := Nat.mod_lt _ (by decide)
  unfold checkStep
  dsimp only
  split
  · exact Nat.xor_lt_two_pow h (by decide)
  · exact h

theorem checkOf_lt (bits : List Bool) : checkOf bits < 2 ^ 16 := by
  unfold checkOf
  induction bits using List.reverseRecOn with
  | nil => decide
  | append_singleton bits b _ =>
    rw [List.foldl_append]
    exact checkStep_lt _ b

/-- Sixteen bits spell a check exactly when they are its bits. -/
theorem checkOf_eq_iff (hc : check.length = 16) : checkOf body = natOfBits check ↔ check = bitsOf 16 (checkOf body) := by
  constructor
  · intro h
    rw [h, ← hc]
    exact (bitsOf_natOfBits check).symm
  · intro h
    rw [h, natOfBits_bitsOf, Nat.mod_eq_of_lt (checkOf_lt body)]

/-! ## The fields of a reply (R54) -/

/-- A reply's bits before its check. -/
def replyBody (source type : Nat) (accept ready attention last : Bool) (data : List Bool) : List Bool :=
  bitsOf 5 source ++ [accept, ready, attention, last] ++ bitsOf 2 type ++ data

theorem replyBody_length : (replyBody source type accept ready attention last data).length = data.length + 11 := by
  simp [replyBody, bitsOf_length]
  omega

theorem replyFields_of_body (hs : source < 32) (ht : type < 4) (hc : check.length = 16) :
    replyFields (replyBody source type accept ready attention last data ++ check) =
      { source, accept, ready, attention, last, type, data := natOfBits data } := by
  have hlen : (replyBody source type accept ready attention last data ++ check).length - 27 = data.length := by
    rw [List.length_append, replyBody_length, hc]
    omega
  have h5 : (bitsOf 5 source).length = 5 := bitsOf_length 5 source
  have h2 : (bitsOf 2 type).length = 2 := bitsOf_length 2 type
  have hsource : natOfBits (bitsOf 5 source) = source := by
    rw [natOfBits_bitsOf, Nat.mod_eq_of_lt (show source < 2 ^ 5 from hs)]
  have htype : natOfBits (bitsOf 2 type) = type := by
    rw [natOfBits_bitsOf, Nat.mod_eq_of_lt (show type < 2 ^ 2 from ht)]
  have h9 : (bitsOf 5 source).drop 9 = [] := List.drop_eq_nil_of_le (by omega)
  have h11 : (bitsOf 5 source).drop 11 = [] := List.drop_eq_nil_of_le (by omega)
  unfold replyFields
  rw [hlen]
  simp [replyBody, List.drop_append, h5, h2, h9, h11, hsource, htype, List.getElem?_append]

/-- A check is good exactly when it is the check of the bits before it and the length is the one R54 fixes. -/
theorem checkGood_iff (hs : source < 32) (ht : type < 4) (hc : check.length = 16)
    (hb : body = replyBody source type accept ready attention last data) :
    checkGood a (body ++ check) = true ↔
      check = bitsOf 16 (checkOf body) ∧ ∀ n, fixedLength a type = some n → data.length + 27 = n := by
  have hlen : body.length = data.length + 11 := by rw [hb, replyBody_length]
  have hfields : (replyFields (body ++ check)).type = type := by rw [hb, replyFields_of_body hs ht hc]
  have hn : (body ++ check).length = data.length + 27 := by
    rw [List.length_append, hc, hlen]
  have hcut : data.length + 27 - 16 = body.length := by omega
  unfold checkGood
  dsimp only
  rw [hfields, hn, hcut, List.take_left, List.drop_left, ← checkOf_eq_iff hc]
  cases hf : fixedLength a type with
  | none => simp
  | some n =>
    simp only [Option.all_some, Bool.and_eq_true, decide_eq_true_eq, beq_iff_eq, Option.some.injEq, forall_eq']
    constructor
    · rintro ⟨⟨-, h⟩, hcheck⟩
      exact ⟨hcheck, h.symm⟩
    · rintro ⟨hcheck, h⟩
      exact ⟨⟨by omega, h.symm⟩, hcheck⟩

end Sys2Proof.Machine

open Sys2Proof.Machine in
/-- Settles O31: a reply's bits read back, and its check tells the reply sent from every other sixteen bits. -/
theorem repliesReadBack : Obligations.RepliesReadBack := by
  intro a source type accept ready attention last data check hs ht hc body
  refine ⟨replyFields_of_body hs ht hc, checkGood_iff hs ht hc rfl, fun hbad => ?_⟩
  unfold judgeReply
  simp [hbad]

end

section
/-! PROOFS. What a settings apply leaves of the report of the request that asks for it (R174, R180). -/

namespace Sys2Proof.Machine.State

variable {s t u : State} {k : Fin 16}

/-! ## Work that leaves the report of one slot alone -/

/-- From `s` to `t` the collection stays in its region, the slot `k` stays out of the in-flight set, and the report of that
slot stands. -/
structure ReportStands (k : Fin 16) (s t : State) : Prop where
  stands : 0x2000 ≤ s.settings.base → (∀ e ∈ s.req.inflight, e.slot ≠ k) →
    0x2000 ≤ t.settings.base ∧ (∀ e ∈ t.req.inflight, e.slot ≠ k) ∧ ∀ a, SlotReport k a → t.peek a = s.peek a

namespace ReportStands

theorem refl (k : Fin 16) (s : State) : ReportStands k s s := ⟨fun hb hf => ⟨hb, hf, fun _ _ => rfl⟩⟩

theorem trans (h : ReportStands k s t) (h' : ReportStands k t u) : ReportStands k s u := ⟨fun hb hf => by
  obtain ⟨hb', hf', hk⟩ := h.stands hb hf
  obtain ⟨hb'', hf'', hk'⟩ := h'.stands hb' hf'
  exact ⟨hb'', hf'', fun a ha => (hk' a ha).trans (hk a ha)⟩⟩

/-- An operation that writes words outside the Request Table. -/
theorem writes (h : ReportStands k s t) {p : Nat → Prop} (hk : t.KeepsWords u p)
    (hp : 0x2000 ≤ t.settings.base → ∀ a, p a → a < 0x100 ∨ 0x180 ≤ a) (hreq : u.req = t.req := by simp)
    (hset : u.settings = t.settings := by simp) : ReportStands k s u :=
  h.trans ⟨fun hb hf => ⟨by rw [hset]; exact hb, by rw [hreq]; exact hf, fun a ha => hk a fun hpa => by
    have := slotReport_bounds ha
    have := hp hb a hpa
    omega⟩⟩

/-- An operation that writes no word. -/
theorem same (h : ReportStands k s t) (hm : u.mem = t.mem := by rfl) (hreq : u.req = t.req := by rfl)
    (hset : u.settings = t.settings := by rfl) : ReportStands k s u :=
  h.writes (p := fun _ => False) (fun a _ => by unfold peek; rw [hm]) (fun _ _ h => h.elim) hreq hset

theorem ite {p : Prop} [Decidable p] (ht : ReportStands k s t) (hu : ReportStands k s u) :
    ReportStands k s (if p then t else u) := by
  split
  · exact ht
  · exact hu

theorem foldl {α : Type} (h : ReportStands k s t) (f : State → α → State) (l : List α)
    (hf : ∀ u a, ReportStands k s u → ReportStands k s (f u a)) : ReportStands k s (l.foldl f t) := by
  induction l generalizing t with
  | nil => exact h
  | cons a l ih => exact ih (hf t a h)

/-! ### The mirrors and the state -/

theorem poke (h : ReportStands k s t) {a : Nat} (ha : 0x2000 ≤ t.settings.base → a < 0x100 ∨ 0x180 ≤ a) (v : Word) :
    ReportStands k s (t.poke a v) :=
  h.writes (poke_keepsWords t a v) (fun hb b hab => by rw [hab]; exact ha hb) rfl rfl

theorem setEngine (h : ReportStands k s t) (e : Engine) : ReportStands k s (t.setEngine e) := h.same

theorem setColl (h : ReportStands k s t) (c : Coll) : ReportStands k s (t.setColl c) := h.same

theorem setBus (h : ReportStands k s t) (b : Bus) : ReportStands k s (t.setBus b) := h.same

theorem setDuty (h : ReportStands k s t) (d : Duty) : ReportStands k s (t.setDuty d) := h.same

theorem setTime (h : ReportStands k s t) (b : TimeBase) : ReportStands k s (t.setTime b) := h.same

theorem setInputAt (h : ReportStands k s t) (i : Fin 16) (x : Input) : ReportStands k s (t.setInputAt i x) := h.same

theorem judge (h : ReportStands k s t) : ReportStands k s t.judge := h.same

theorem reshow40 (h : ReportStands k s t) (v : State) : ReportStands k s (t.reshow40 v) :=
  h.writes (reshow40_keepsWords t v) fun _ a ha => .inl (by omega)

theorem raiseCause (h : ReportStands k s t) (c : WakeCause) : ReportStands k s (t.raiseCause c) := h.same

theorem setCtl (h : ReportStands k s t) (c : BusCtl) : ReportStands k s (t.setCtl c) :=
  h.writes (setCtl_keepsWords t c) fun _ a ha => .inl (by omega)

theorem setMode (h : ReportStands k s t) (m : EngineMode) : ReportStands k s (t.setMode m) :=
  h.writes (setMode_keepsWords t m) fun _ a ha => .inl (by omega)

theorem setVisitState (h : ReportStands k s t) (v : Visit) : ReportStands k s (t.setVisitState v) :=
  h.writes (setVisitState_keepsWords t v) fun _ a ha => .inl (by omega)

theorem setStation (h : ReportStands k s t) (i : Fin 30) (x : Station) : ReportStands k s (t.setStation i x) :=
  h.writes (setStation_keepsWords t i x) fun _ a ha => .inl (by unfold StationWord at ha; omega)

theorem setChannel (h : ReportStands k s t) (c : Fin 4) (ch : Channel) : ReportStands k s (t.setChannel c ch) :=
  h.writes (setChannel_keepsWords t c ch) fun _ a ha => .inl (by unfold ChannelWord at ha; omega)

theorem setQueue (h : ReportStands k s t) (q : List QEntry) : ReportStands k s (t.setQueue q) :=
  h.writes (setQueue_keepsWords t q) fun _ a ha => .inl (by unfold QueueWord at ha; omega)

theorem bumpHalf (h : ReportStands k s t) {a : Nat} (ha : a < 0x100 ∨ 0x180 ≤ a) (lo : Nat) : ReportStands k s (t.bumpHalf a lo) :=
  h.writes (bumpHalf_keepsWords t a lo) (fun _ b hb => by rw [hb]; exact ha) rfl rfl

theorem showRunning (h : ReportStands k s t) : ReportStands k s t.showRunning :=
  h.writes (showRunning_keepsWords t) (fun _ a ha => .inl (by omega)) rfl rfl

theorem setShed (h : ReportStands k s t) (l : ShedLevel) : ReportStands k s (t.setShed l) := ((h.setDuty _).reshow40 t).judge

/-! ### The Collection Buffer (chapter 5) -/

theorem pokeRegion (h : ReportStands k s t) {a : Nat} (ha : t.settings.base ≤ a) (v : Word) : ReportStands k s (t.poke a v) :=
  h.poke (fun hb => by omega) v

theorem pokesRegion (h : ReportStands k s t) {a : Nat} (ha : t.settings.base ≤ a) (vs : List Word) :
    ReportStands k s (t.pokes a vs) :=
  h.writes (pokes_keepsWords t a vs) (fun hb b hab => by omega)

theorem showFilling (h : ReportStands k s t) : ReportStands k s t.showFilling :=
  h.writes t.showFilling_keepsWords fun _ a ha => .inl (by omega)

theorem showColl (h : ReportStands k s t) (old : Coll) : ReportStands k s (t.showColl old) :=
  h.writes (t.showColl_keepsWords old) fun _ a ha => .inl (by omega)

theorem putRecord (h : ReportStands k s t) (i : Fin 16) (r : Record) : ReportStands k s (t.putRecord i r) :=
  (((h.pokesRegion (Nat.le_add_right_of_le (Nat.le_add_right_of_le (base_le_segAddr t _))) _).pokeRegion
    (Nat.le_add_right_of_le (base_le_segAddr t _)) _).setColl _).showFilling

theorem openNext (h : ReportStands k s t) : ReportStands k s t.openNext :=
  ((h.pokesRegion (Nat.le_add_right_of_le (base_le_segAddr t _)) _).pokeRegion (base_le_segAddr t _) _).setColl _

theorem closeAt (h : ReportStands k s t) (i : Fin 16) (r : CloseReason) : ReportStands k s (t.closeAt i r) :=
  (((h.pokesRegion (Nat.le_add_right_of_le (base_le_segAddr t _)) _).pokeRegion (base_le_segAddr t _) _).setColl _).raiseCause _

theorem dropRecord (h : ReportStands k s t) : ReportStands k s t.dropRecord := by
  dsimp only [State.dropRecord]
  split
  · exact (h.setColl _).raiseCause _
  · exact h.setColl _

theorem tryNext (h : ReportStands k s t) (r : Record) : ReportStands k s (t.tryNext r) := by
  dsimp only [State.tryNext]
  split
  · refine ReportStands.putRecord ?_ _ r
    unfold accountLoss
    split
    · exact h.openNext
    · exact (h.openNext.putRecord _ _).setColl _
  · exact h.dropRecord

theorem placeRecord (h : ReportStands k s t) (r : Record) : ReportStands k s (t.placeRecord r) := by
  unfold State.placeRecord
  split
  · split
    · exact h.putRecord _ r
    · exact (h.closeAt _ _).tryNext r
  · exact h.tryNext r
  · exact h.tryNext r

theorem offer (h : ReportStands k s t) (r : Record) : ReportStands k s (t.offer r) :=
  ((h.setColl _).placeRecord r).showColl _

theorem closeByAge (h : ReportStands k s t) : ReportStands k s t.closeByAge := by
  have hclose : ReportStands k s (t.closeFilling .age) := by
    unfold State.closeFilling
    split
    · exact (h.closeAt _ _).showColl _
    · exact h
    · exact h
  unfold State.closeByAge
  split
  · exact .ite hclose h
  · exact h
  · exact h

theorem restartCollection (h : ReportStands k s t) : ReportStands k s t.restartCollection := by
  have hempty := h.foldl State.emptyHeader (List.range t.settings.count) fun u i hu =>
    hu.writes (emptyHeader_keepsWords u i) fun hb a ha => by
      have := base_le_segAddr u i
      omega
  exact (hempty.setColl _).showColl _

/-! ### The Run Engine (chapter 1) -/

/-- Requests held in flight complete in slots of their own (R175). -/
theorem completeHeld (h : ReportStands k s t) (kind : HeldKind) (res : Result) (v : Word) :
    ReportStands k s (t.completeHeld kind res v) :=
  h.trans ⟨fun hb hf => by
    have hgone := completeHeld_eq (s := t) (k := kind) (res := res) (v := v)
    have hkeep := completeHeld_keepsWords (s := t) (k := kind) (res := res) (v := v)
    generalize t.completeHeld kind res v = u at *
    refine ⟨by rw [hgone]; exact hb, fun e he => ?_, fun a ha => hkeep a ?_⟩
    · rw [hgone] at he
      exact hf e (List.mem_of_mem_filter he)
    · rintro ⟨e, he, hae⟩
      exact slotReport_other (hf e (List.mem_of_mem_filter he)) ha hae⟩

theorem setLastOutcome (h : ReportStands k s t) (l : Fin 32) (o : ListOutcome) : ReportStands k s (t.setLastOutcome l o) := by
  have hl := l.isLt
  exact h.poke (fun _ => .inl (by omega)) _

theorem finishRun (h : ReportStands k s t) (c : Ctx) (o : ListOutcome) (f : Option StepOutcome) (a : Option Nat) :
    ReportStands k s (t.finishRun c o f a) := by
  have hd := dirAddr_bounds c.list
  have hdir : ReportStands k s (((t.bumpRunCount c.list).setLastOutcome c.list o).poke (dirAddr c.list + 3) t.time.timestamp) :=
    ((h.bumpHalf (.inr (by omega)) _).setLastOutcome _ o).poke (fun _ => .inr (by omega)) _
  have hrecord := ReportStands.ite (p := c.endRecord = true) (hdir.offer (listEndRecord c o f a)) hdir
  exact ((((hrecord.setEngine _).poke (fun _ => .inl (by decide)) _).completeHeld _ _ _).setEngine _).showRunning

theorem startRun (h : ReportStands k s t) (e : QEntry) (rest : List QEntry) : ReportStands k s (t.startRun e rest) :=
  (((h.setQueue rest).setEngine _).setMode _).showRunning

theorem startHeads (h : ReportStands k s t) (n : Nat) : ReportStands k s (State.startHeads n t) := by
  induction n generalizing t with
  | zero => exact h
  | succ n ih =>
    unfold State.startHeads
    split
    · exact h.setMode _
    · dsimp only
      split
      · exact .ite (h.startRun _ _) (ih ((h.startRun _ _).finishRun ..))
      · exact h.startRun _ _

theorem bumpShedDrop (h : ReportStands k s t) (l : Fin 32) : ReportStands k s (t.bumpShedDrop l) := by
  have := shedDropAddr_bounds l
  exact h.bumpHalf (.inl (by omega)) _

theorem offerTriggerTo (h : ReportStands k s t) (l : Option (Fin 32)) (src : Source) : ReportStands k s (t.offerTriggerTo l src) := by
  cases l with
  | none => exact h
  | some l =>
    have hd := dirAddr_bounds l
    show ReportStands k s (t.trigger l src).1
    dsimp only [State.trigger]
    split
    · exact h
    · split
      · exact h.bumpShedDrop l
      · split
        · exact h.bumpHalf (.inr (by omega)) _
        · exact .ite ((h.setQueue _).startHeads _) (h.setQueue _)

/-! ### The Duty Controller (chapter 7) -/

theorem purge (h : ReportStands k s t) : ReportStands k s t.purge :=
  (h.foldl _ _ fun _ e hu => hu.bumpShedDrop e.list).setQueue _

theorem recomputeShed (h : ReportStands k s t) (c : ShedCause) : ReportStands k s (t.recomputeShed c) := by
  have hnew := ((h.setShed t.derivedLevel).offer (shedRecord t.duty.shed t.derivedLevel t.settings.shedWatch c)).raiseCause .shed
  exact .ite h (.ite hnew.purge hnew)

theorem beginEpisode (h : ReportStands k s t) (c : Fin 4) : ReportStands k s (t.beginEpisode c) :=
  ((h.setChannel c _).offer _).raiseCause _

theorem stallNotice (h : ReportStands k s t) (i : Fin 16) : ReportStands k s (t.stallNotice i) :=
  h.foldl _ _ fun _ c hu => .ite (.ite ((hu.setChannel c _).beginEpisode c) (hu.setChannel c _)) hu

theorem clearNotice (h : ReportStands k s t) (i : Fin 16) : ReportStands k s (t.clearNotice i) :=
  h.foldl _ _ fun _ c hu => .ite (.ite (hu.setChannel c _) (((hu.setChannel c _).offer _).setChannel c _)) hu

theorem retachChannel (h : ReportStands k s t) (c : Fin 4) : ReportStands k s (t.retachChannel c) :=
  .ite ((h.setChannel c _).beginEpisode c) (h.setChannel c _)

/-! ### The stations, the visit and the inputs (chapters 3 and 6) -/

theorem reexamine (h : ReportStands k s t) (i : Fin 30) : ReportStands k s (t.reexamine i) :=
  .ite (((h.setStation i _).offer _).raiseCause _) h

theorem makePending (h : ReportStands k s t) (b : VisitBroadcast) : ReportStands k s (t.makePending b) := by
  obtain ⟨hk, -, heq⟩ := makePending_pending (s := t) (b := b) rfl
  generalize t.makePending b = u at *
  exact h.writes hk (fun _ a ha => .inl (by omega)) (by rw [heq]) (by rw [heq])

theorem offerVisit (h : ReportStands k s t) (e : VisitEvent) : ReportStands k s (t.offerVisit e) := h.offer _

theorem visitBegin (h : ReportStands k s t) (i : Fin 16) (st : Stamp) : ReportStands k s (t.visitBegin i st) :=
  ((((h.setVisitState _).offerVisit _).raiseCause _).offerTriggerTo _ _).makePending _

theorem visitAbort (h : ReportStands k s t) : ReportStands k s t.visitAbort :=
  ((h.setBus _).setVisitState _).offerVisit _

theorem visitForcedEnd (h : ReportStands k s t) : ReportStands k s t.visitForcedEnd := by
  unfold State.visitForcedEnd
  split
  · exact h
  · exact h
  · exact h.visitAbort
  · exact (h.setVisitState _).makePending _
  · exact (h.setVisitState _).makePending _

theorem settleEvent (h : ReportStands k s t) (i : Fin 16) : ReportStands k s (t.settleEvent i) := by
  unfold State.settleEvent State.visitActive
  split
  · split
    · exact h.visitBegin i _
    · exact h
    · exact h
    · exact h.setVisitState _
    · exact (h.setBus _).setVisitState _
  · exact h

theorem putInput (h : ReportStands k s t) (i : Fin 16) (x : Input) : ReportStands k s (t.putInput i x) :=
  h.writes (putInput_keepsWords t i x) fun _ a ha => .inl (by have := inputAddr_bounds i; omega)

theorem putPeriod (h : ReportStands k s t) (i : Fin 16) (x : Input) : ReportStands k s (t.putPeriod i x) :=
  h.writes (putPeriod_written t i x).2.1 fun _ a ha => .inl (by have := inputAddr_bounds i; omega)

theorem beginFirstWindow (h : ReportStands k s t) (i : Fin 16) : ReportStands k s (t.beginFirstWindow i) :=
  .ite (h.putInput i _) (h.putInput i _)

theorem settleInput (h : ReportStands k s t) (i : Fin 16) (tached : Bool) : ReportStands k s (t.settleInput i tached) := by
  have hi := inputAddr_bounds i
  dsimp only [State.settleInput]
  have hperiod := ReportStands.ite (p := tached = true) (h.poke (a := inputAddr i + 1) (fun _ => .inl (by omega)) 0) h
  refine .ite (ReportStands.clearNotice ?_ i) ?_
  all_goals
    split
    · exact h.putPeriod i _
    · exact (hperiod.putInput i _).beginFirstWindow i

theorem disableInput (h : ReportStands k s t) (i : Fin 16) (tached : Bool) : ReportStands k s (t.disableInput i tached) := by
  have hi := inputAddr_bounds i
  dsimp only [State.disableInput]
  have hperiod := ReportStands.ite (p := tached = true) (h.poke (a := inputAddr i + 1) (fun _ => .inl (by omega)) 0) h
  exact .ite ((hperiod.putInput ..).clearNotice i) (hperiod.putInput ..)

theorem compareStall (h : ReportStands k s t) (i : Fin 16) : ReportStands k s (t.compareStall i) := by
  dsimp only [State.compareStall]
  split
  · exact .ite ((h.putPeriod ..).stallNotice i) h
  · exact h

/-! ### The settings apply (R180) -/

theorem applyInputs (h : ReportStands k s t) (old : Settings) : ReportStands k s (t.applyInputs old) := by
  have hinputs := (h.foldl (State.applyEnable old) (List.finRange 16) fun _ i hu =>
      .ite (hu.settleInput ..) (.ite (hu.disableInput ..) hu)).foldl
    (State.applyStallTime old) (List.finRange 16) fun _ i hu => .ite (hu.compareStall i) hu
  have hforced := ReportStands.ite (p := roleEnds old ((List.foldl (State.applyStallTime old)
    (List.foldl (State.applyEnable old) t (List.finRange 16)) (List.finRange 16)).settings) = true) hinputs.visitForcedEnd hinputs
  unfold State.applyInputs applySettleEvent
  dsimp only
  split
  · exact .ite (hforced.settleEvent _) hforced
  · exact hforced

end ReportStands

/-- An apply leaves the report of a slot not held in flight alone. -/
theorem acceptSettings_reportStands {new : Settings} (hbase : 0x2000 ≤ new.base) (hf : ∀ e ∈ s.req.inflight, e.slot ≠ k) :
    ∀ a, SlotReport k a → (s.acceptSettings new).peek a = s.peek a := by
  have htaken := ReportStands.refl k (s.setSettings new).judge
  have hcoll : ReportStands k (s.setSettings new).judge ((s.setSettings new).judge.applyCollection s.settings) :=
    .ite htaken.restartCollection (.ite htaken.closeByAge htaken)
  have hbus : ReportStands k (s.setSettings new).judge (((s.setSettings new).judge.applyCollection s.settings).applyBus s.settings) :=
    .ite (hcoll.foldl _ _ fun _ i hu => hu.reexamine i) hcoll
  have hchannels := (hbus.applyInputs s.settings).foldl
    (fun s' c => if (s'.settings.channels[c]).tach ≠ (s.settings.channels[c]).tach then s'.retachChannel c else s') (List.finRange 4)
    fun _ c hu => .ite (hu.retachChannel c) hu
  exact (((hchannels.setTime _).recomputeShed .settings).stands hbase hf).2.2

end Sys2Proof.Machine.State

end

section
/-! PROOFS. The settings apply: its consequences one by one, and what it does where none of them meets a difference
(R179, R180). -/

namespace Sys2Proof.Machine.State

variable {s t u v w : State} {r : Taken} {old new : Settings}

/-! ## The consequences of an apply, each where nothing calls for it -/

/-- The settings are in force, and the line is judged by their masks (R180, R194). -/
def accepted (s : State) (new : Settings) : State := (s.setSettings new).judge

/-- What an apply has done before its timers restart and the shed level is derived again. -/
def applied (s : State) (new : Settings) : State :=
  ((((s.accepted new).applyCollection s.settings).applyBus s.settings).applyInputs s.settings).applyChannels s.settings

theorem foldl_eq_self {α : Type} {f : State → α → State} {l : List α} (h : ∀ a ∈ l, f s a = s) : l.foldl f s = s := by
  induction l with
  | nil => rfl
  | cons a l ih =>
    rw [List.foldl_cons, h a List.mem_cons_self]
    exact ih fun b hb => h b (List.mem_cons_of_mem _ hb)

/-- A fold in which one element alone does something. -/
theorem foldl_eq_one {α : Type} [DecidableEq α] {f : State → α → State} {l : List α} {a : α} (ha : a ∈ l) (hnodup : l.Nodup)
    (hbefore : ∀ b, b ≠ a → f s b = s) (hafter : ∀ b, b ≠ a → f (f s a) b = f s a) : l.foldl f s = f s a := by
  obtain ⟨l₁, l₂, rfl⟩ := List.append_of_mem ha
  have hdis := List.nodup_append.1 hnodup
  rw [List.foldl_append, List.foldl_cons, foldl_eq_self (l := l₁) fun b hb => hbefore b fun h => ?_,
    foldl_eq_self (l := l₂) fun b hb => hafter b fun h => ?_]
  · exact (List.nodup_cons.1 hdis.2.1).1 (h ▸ hb)
  · exact hdis.2.2 b hb a List.mem_cons_self h

theorem applyCollection_same (hm : geometryMoves old s.settings = false) (ha : s.settings.closeAge = old.closeAge) :
    s.applyCollection old = s := by
  unfold applyCollection
  rw [hm, if_neg (by simp), if_neg (not_not_intro ha)]

theorem applyBus_same (h : s.settings.lostLimit = old.lostLimit) : s.applyBus old = s := if_neg (not_not_intro h)

theorem resettles_self (g : InputSettings) : resettles g g = false := by
  unfold resettles
  cases g.enabled <;> simp

theorem applyEnable_same {i : Fin 16} (h : s.settings.inputs[i] = old.inputs[i]) : applyEnable old s i = s := by
  unfold applyEnable
  simp only [h, resettles_self]
  rw [if_neg (by simp), if_neg (by simp)]

theorem applyStallTime_same {i : Fin 16} (h : (s.settings.inputs[i]).stallTime = (old.inputs[i]).stallTime) :
    applyStallTime old s i = s := if_neg (not_not_intro h)

theorem applySettleEvent_same (h : ∀ v, s.settings.visitInput = some v → s.settings.inputs[v] = old.inputs[v]) :
    s.applySettleEvent old = s := by
  unfold applySettleEvent
  split
  next v hv => rw [h v hv, resettles_self, if_neg (by simp)]
  · rfl

theorem roleEnds_same (hv : new.visitInput = old.visitInput)
    (hi : ∀ v, old.visitInput = some v → new.inputs[v] = old.inputs[v]) : roleEnds old new = false := by
  unfold roleEnds
  split
  · rfl
  next v h => simp [hv, hi v h]

theorem applyInputs_same (hi : s.settings.inputs = old.inputs) (hv : s.settings.visitInput = old.visitInput) :
    s.applyInputs old = s := by
  have hin (i : Fin 16) : s.settings.inputs[i] = old.inputs[i] := by rw [hi]
  unfold applyInputs
  rw [foldl_eq_self fun i _ => applyEnable_same (hin i), foldl_eq_self fun i _ => applyStallTime_same (by rw [hin i])]
  dsimp only
  rw [roleEnds_same hv fun v _ => hin v, if_neg (by simp)]
  exact applySettleEvent_same fun v _ => hin v

theorem applyChannels_same (h : ∀ c : Fin 4, (s.settings.channels[c]).tach = (old.channels[c]).tach) : s.applyChannels old = s :=
  foldl_eq_self fun c _ => if_neg (not_not_intro (h c))

theorem applied_settings : (s.applied new).settings = new := by simp [applied, accepted]

theorem applied_time : (s.applied new).time = s.time := by simp [applied, accepted]

/-- Behind its other consequences an apply restarts the timers (R166, R167). -/
theorem applied_timers : (s.applied new).applyTimers s.settings = { s.applied new with time := s.clockUnder new } := by
  have htime := applied_time (s := s) (new := new)
  have hset := applied_settings (s := s) (new := new)
  generalize s.applied new = w at *
  refine congrArg w.setTime ?_
  have hnow : w.now = s.now := by unfold now; rw [htime]
  unfold clockUnder timerStart
  rw [htime, hset, hnow]
  simp only [ne_eq, ite_not, tens]

theorem recomputeShed_same {c : ShedCause} (h : s.derivedLevel = s.duty.shed) : s.recomputeShed c = s := if_pos h

theorem derivedLevel_congr (hs : t.settings = s.settings) (hw : t.watches = s.watches) : t.derivedLevel = s.derivedLevel := by
  unfold derivedLevel
  rw [hs, hw]

/-- An apply that leaves the shed level as it is (R157). -/
theorem acceptSettings_eq (hlevel : derivedLevel { s with settings := new } = s.duty.shed)
    (hw : (s.applied new).watches = s.watches) (hd : (s.applied new).duty.shed = s.duty.shed) :
    s.acceptSettings new = { s.applied new with time := s.clockUnder new } := by
  have haccept : s.acceptSettings new = ((s.applied new).applyTimers s.settings).recomputeShed .settings := rfl
  have hset := applied_settings (s := s) (new := new)
  rw [haccept, applied_timers]
  generalize s.applied new = w at *
  exact recomputeShed_same ((derivedLevel_congr (s := { s with settings := new }) hset hw).trans (hlevel.trans hd.symm))

/-- An apply that differs in the collection alone (R180). -/
theorem applied_of_collection (hlost : new.lostLimit = s.settings.lostLimit) (hin : new.inputs = s.settings.inputs)
    (hv : new.visitInput = s.settings.visitInput)
    (htach : ∀ c : Fin 4, (new.channels[c]).tach = (s.settings.channels[c]).tach) :
    s.applied new = (s.accepted new).applyCollection s.settings := by
  have hset : ((s.accepted new).applyCollection s.settings).settings = new := by simp [accepted]
  unfold applied
  generalize (s.accepted new).applyCollection s.settings = w at *
  rw [applyBus_same (by rw [hset]; exact hlost), applyInputs_same (by rw [hset]; exact hin) (by rw [hset]; exact hv),
    applyChannels_same (by rw [hset]; exact htach)]

/-- What an apply takes in force and when (R180). -/
theorem acceptSettings_takes : (s.acceptSettings new).settings = new ∧ (s.acceptSettings new).time = s.clockUnder new := by
  have haccept : s.acceptSettings new = ((s.applied new).applyTimers s.settings).recomputeShed .settings := rfl
  have hset := applied_settings (s := s) (new := new)
  rw [haccept, applied_timers]
  generalize s.applied new = w at *
  simp [hset]

/-- The state an apply leaves where the collection alone differs (R103, R180). -/
def afterApply (s : State) (new : Settings) : State :=
  { s.under new with coll := if geometryMoves s.settings new then restartedColl s.coll else s.coll }

theorem afterApply_of_moves (h : geometryMoves s.settings new = true) :
    s.afterApply new = { s.under new with coll := restartedColl s.coll } := by
  unfold afterApply
  rw [if_pos h]

theorem afterApply_of_stays (h : geometryMoves s.settings new = false) : s.afterApply new = s.under new := by
  unfold afterApply
  rw [h]
  rfl

/-! ## The request SETTINGS_APPLY (R179) -/

theorem settings_work_of_bad {n : Nat} (h : firstBadField s.mem = some n) :
    s.applySettings = (s, some (.badSettings, BitVec.ofNat 32 n)) := by
  unfold applySettings
  rw [h]

theorem settings_work (h : firstBadField s.mem = none) :
    s.applySettings =
      if geometryMoves s.settings (blockSettings s.mem) ∧ (s.engine.mode = .running ∨ s.engine.mode = .holding) then (s, some (.busy, 0))
      else (s.acceptSettings (blockSettings s.mem),
        some (.ok, BitVec.ofNat 32 (bit (geometryMoves s.settings (blockSettings s.mem))))) := by
  unfold applySettings
  rw [h]

end Sys2Proof.Machine.State

open Sys2Proof.Machine State in
/-- Settles O29: SETTINGS_APPLY refuses the block, is BUSY, or takes the block whole. -/
theorem settingsApplyTakesTheBlockWhole : Obligations.SettingsApplyTakesTheBlockWhole := by
  intro s r hc new moves
  have hcmd : exec .settingsApply s = .next (s.whenReady fun s => s.carryOut .settingsApply fun _ s => s.applySettings) := rfl
  have hmoves : geometryMoves s.settings new = moves := rfl
  have hbit : BitVec.ofNat 32 (bit moves) = if moves then 1 else 0 := by cases moves <;> rfl
  refine ⟨fun n hn => ?_, fun hgood hm hbusy => ?_, fun hgood hnot => ?_, ?_⟩
  · exact answers_of_idle hc hcmd (settings_work_of_bad hn)
  · refine answers_of_idle hc hcmd ((settings_work hgood).trans ?_)
    rw [if_pos ⟨hmoves.trans hm, hbusy⟩]
  · have hwork := settings_work hgood
    rw [if_neg (by rw [hmoves]; exact hnot), hmoves, hbit] at hwork
    have hexec := exec_of_carries hc hcmd hwork
    have hslot := acceptSettings_reportStands (s := s) (new := new) (blockSettings_geometry hgood).1 hc.2.2.2
    obtain ⟨hset, htime⟩ := acceptSettings_takes (s := s) (new := new)
    generalize s.acceptSettings new = w at *
    have hdone := completeSlot_done (s := w) (slot := r.slot) (wake := r.wake) (res := .ok) (v := if moves then 1 else 0)
    have hce := completeSlot_eq w r.slot r.wake .ok (if moves then 1 else 0)
    generalize w.completeSlot r.slot r.wake .ok (if moves then 1 else 0) = c at *
    have hee := endExamination_eq c
    have hek := endExamination_keepsWords c
    generalize c.endExamination = t at *
    refine ⟨t, hexec, by rw [hee, hce]; exact hset, by rw [hee, hce]; exact htime,
      slotDone_congr (slotDone_since hdone hslot) fun a ha => hek a fun h => ?_⟩
    have := slotReport_bounds ha
    omega
  · intro hgood hidle hage hlost hin hv htach hlevel
    have hgeo : (s.accepted new).GeometryOk := blockSettings_geometry hgood
    have hwork := settings_work hgood
    rw [if_neg fun h => ?_, hmoves, hbit] at hwork
    swap
    · obtain ⟨hm, hmode⟩ := h
      rcases hidle (hmoves.symm.trans hm) with h | h <;> rw [h] at hmode <;> exact hmode.elim nofun nofun
    have happlied := applied_of_collection (s := s) (new := new) hlost hin hv htach
    have haccept := acceptSettings_eq (s := s) (new := new) hlevel
    by_cases hm : moves = true
    · have hcoll : s.applied new = (s.accepted new).restartCollection := happlied.trans (if_pos (hmoves.trans hm))
      have hk := restartCollection_keepsWords (s.accepted new)
      have he := restartCollection_eq (s.accepted new)
      have hzero := (restartCollection_words (s := s.accepted new) hgeo).1
      rw [hcoll] at haccept
      generalize (s.accepted new).restartCollection = w at *
      have haccept := haccept (by rw [he]; rfl) (by rw [he]; rfl)
      rw [haccept] at hwork
      have hregion {a : Nat} (ha : (s.accepted new).HeaderWord a) : 0x2000 ≤ a := by
        obtain ⟨i, hi, ha, -⟩ := ha
        exact hgeo.1.trans ((base_le_segAddr _ i).trans ha)
      have hsp : Spares r (fun a => moves = true ∧ ((s.accepted new).HeaderWord a ∨ 0x9A ≤ a ∧ a ≤ 0xA2)) :=
        spares_of_bounds fun a ha => by
          rcases ha.2 with h | h
          · have := hregion h
            omega
          · omega
      refine answers_of_work hc hcmd hwork (s.afterApply new) hsp (fun a ha => hk a fun h => ha ⟨hm, h⟩) (w := { w with time := s.clockUnder new }) ?_ rfl
        (held := s.req.inflight) rfl fun t ht hmv i hi j hj => ?_
      · rw [afterApply_of_moves hm]
        conv_lhs => rw [he]
        rfl
      · exact (ht.peek (a := new.base + i * new.size + j) hsp ⟨hm, .inl ⟨i, hi, Nat.le_add_right _ _, Nat.add_lt_add_left hj _⟩⟩).trans
          (hzero i hi j hj)
    · have hcoll : s.applied new = s.accepted new :=
        happlied.trans (applyCollection_same (by rw [← Bool.not_eq_true]; exact fun h => hm (hmoves.symm.trans h)) (hage.resolve_left hm))
      rw [hcoll] at haccept
      have haccept := haccept rfl rfl
      rw [haccept] at hwork
      refine answers_of_work hc hcmd hwork (s.afterApply new) (p := fun a => moves = true ∧ ((s.accepted new).HeaderWord a ∨ 0x9A ≤ a ∧ a ≤ 0xA2))
        (spares_nothing.imp fun a ha => hm ha.1) (fun a _ => rfl) ?_ rfl
        (held := s.req.inflight) rfl fun t ht hmv => absurd hmv hm
      rw [afterApply_of_stays (Bool.eq_false_of_not_eq_true hm)]
      rfl

end

section
/-! PROOFS. What an apply does besides: lost stations, the close age, inputs, the forced end of a visit (R180). -/

namespace Sys2Proof.Machine.State

variable {s t u v w : State} {r : Taken} {old new : Settings} {i : Fin 30} {k : Fin 16} {l : List (Fin 30)}

/-! ## A new lost limit (R72) -/

/-- A station whose silences reach the lost limit in force. -/
def Reaches (s : State) (i : Fin 30) : Prop :=
  (s.bus.stations[i]).state ≠ .lost ∧ s.settings.lostLimit ≤ (s.bus.stations[i]).silences

/-- Its record once lost. -/
def gone (s : State) (i : Fin 30) : Station := { s.bus.stations[i] with state := .lost }

/-- The STATION records of the stations of a list that reach the limit, in its order. -/
def lossesOf (s : State) (l : List (Fin 30)) : List Record :=
  l.filterMap fun i =>
    if (s.bus.stations[i]).state ≠ .lost ∧ s.settings.lostLimit ≤ (s.bus.stations[i]).silences then
      some (stationRecord i (s.bus.stations[i]).state (s.gone i) 3)
    else none

theorem lossesOf_snoc (s : State) (l : List (Fin 30)) (i : Fin 30) : s.lossesOf (l ++ [i]) = s.lossesOf l ++ s.lossesOf [i] :=
  List.filterMap_append

theorem lossesOf_reaches (h : s.Reaches i) : s.lossesOf [i] = [stationRecord i (s.bus.stations[i]).state (s.gone i) 3] := by
  unfold lossesOf
  rw [List.filterMap_cons, show (if (s.bus.stations[i]).state ≠ .lost ∧ s.settings.lostLimit ≤ (s.bus.stations[i]).silences then
    some (stationRecord i (s.bus.stations[i]).state (s.gone i) 3) else none) = _ from if_pos h]
  rfl

theorem lossesOf_stays (h : ¬ s.Reaches i) : s.lossesOf [i] = [] := by
  unfold lossesOf
  rw [List.filterMap_cons, show (if (s.bus.stations[i]).state ≠ .lost ∧ s.settings.lostLimit ≤ (s.bus.stations[i]).silences then
    some (stationRecord i (s.bus.stations[i]).state (s.gone i) 3) else none) = _ from if_neg h]
  rfl

theorem reexamine_of_stays (h : ¬ s.Reaches i) : s.reexamine i = s := if_neg h

/-- One station that reaches the limit is lost, and reported. -/
theorem reexamine_of_reaches (h : s.Reaches i) (hroom : s.RoomForAll k (s.lossesOf [i])) :
    s.Exchanged (s.reexamine i) s.bus.ctl i (s.gone i) s.bus.counts [] (s.lossesOf [i]) k (s.raised .station) := by
  rw [lossesOf_reaches h] at *
  exact (Exchanged.of_setStation rfl).report (roomForAll_singleton.1 hroom) (if_pos h)

/-- Stations of a list, examined one after another. -/
theorem reexamineAll (hnodup : l.Nodup) (hroom : s.RoomForAll k (s.lossesOf l)) :
    (∀ i ∈ l, s.Reaches i → (l.foldl reexamine s).StationShown i) ∧ s.RecordedAll (l.foldl reexamine s) k (s.lossesOf l) ∧
      s.KeepsWords (l.foldl reexamine s)
        (fun a => (∃ i ∈ l, s.Reaches i ∧ StationWord i a) ∨ s.RecordWords k (s.lossesOf l) a) ∧
      (∀ i, (i ∈ l ∧ s.Reaches i → (l.foldl reexamine s).bus.stations[i] = s.gone i) ∧
        (¬ (i ∈ l ∧ s.Reaches i) → (l.foldl reexamine s).bus.stations[i] = s.bus.stations[i])) ∧
      l.foldl reexamine s =
        { s with
          mem := (l.foldl reexamine s).mem, coll := (l.foldl reexamine s).coll
          wake := if s.lossesOf l = [] then s.wake else s.raised .station
          bus := { s.bus with stations := (l.foldl reexamine s).bus.stations } } := by
  induction l using List.reverseRecOn with
  | nil => exact ⟨nofun, .nil rfl, fun _ _ => rfl, fun i => ⟨fun h => (nomatch h.1), fun _ => rfl⟩, rfl⟩
  | append_singleton l i ih =>
    rw [lossesOf_snoc] at *
    obtain ⟨hshown, hrec, hkeep, hstations, heq⟩ := ih (List.nodup_append.1 hnodup).1 hroom.left
    have hnew : i ∉ l := fun h => (List.nodup_append.1 hnodup).2.2 i h i List.mem_cons_self rfl
    rw [List.foldl_append, List.foldl_cons, List.foldl_nil]
    generalize l.foldl reexamine s = v at *
    have hx : v.bus.stations[i] = s.bus.stations[i] := (hstations i).2 fun h => hnew h.1
    have hset : v.settings = s.settings := by rw [heq]
    have htime : v.time.timestamp = s.time.timestamp := by rw [heq]
    have hreaches : v.Reaches i ↔ s.Reaches i := by
      unfold Reaches
      rw [hx, hset]
    have hgone : v.gone i = s.gone i := by
      unfold gone
      rw [hx]
    by_cases h : s.Reaches i
    · have hlosses : v.lossesOf [i] = s.lossesOf [i] := by
        rw [lossesOf_reaches (hreaches.2 h), lossesOf_reaches h, hx, hgone]
      have hroomv := roomForAll_behind hrec hset htime hroom
      have hone := reexamine_of_reaches (k := k) (hreaches.2 h) (by rw [hlosses]; exact hroomv)
      rw [hlosses, hgone] at hone
      generalize v.reexamine i = t at *
      have hword {a : Nat} (ha : StationWord i a ∨ a ∈ ([] : List (Nat × Word)).map Prod.fst ∨ v.RecordWords k (s.lossesOf [i]) a) :
          StationWord i a ∨ s.RecordWords k (s.lossesOf l ++ s.lossesOf [i]) a :=
        ha.imp_right fun h => recordWords_behind hrec hset htime (h.resolve_left nofun)
      have hst (j : Fin 30) (hj : j ≠ i) : t.bus.stations[j] = v.bus.stations[j] := by
        rw [hone.rest]
        exact Vector.getElem_set_ne i.isLt j.isLt fun h => hj (Fin.ext h.symm)
      refine ⟨fun j hj hr => ?_, ?_, fun a ha => ?_, fun j => ⟨fun hj => ?_, fun hj => ?_⟩, ?_⟩
      · by_cases hji : j = i
        · exact hji ▸ hone.shown
        · have hjl : j ∈ l := (List.mem_append.1 hj).resolve_right fun h => hji (List.mem_singleton.1 h)
          refine stationShown_congr (hshown j hjl hr) (hst j hji) fun a ha => hone.keeps a fun hb => ?_
          rcases hb with hb | hb | hb
          · exact stationWord_other (fun h => hji h.symm) ha hb
          · exact nomatch hb
          · have := stationWord_bounds ha
            have := RecordWords.place hroomv hb
            omega
      · refine RecordedAll.append hrec hone.recs hset htime hroom fun a ha hna => hone.keeps a fun hb => ?_
        rcases hb with hb | hb | hb
        · have := stationWord_bounds hb
          have := RecordWords.place hroom.left ha
          omega
        · exact nomatch hb
        · exact hna hb
      · simp only [not_or] at ha
        refine (hone.keeps a fun hb => ?_).trans (hkeep a fun hb => hb.elim (fun ⟨j, hj, hr⟩ => ha.1 ⟨j, List.mem_append_left _ hj, hr⟩)
          fun hb => ha.2 (recordWords_before hb))
        exact (hword hb).elim (fun hw => ha.1 ⟨i, by simp, h, hw⟩) ha.2
      · by_cases hji : j = i
        · rw [hji]
          exact hone.station_eq
        · rw [hst j hji]
          exact (hstations j).1 ⟨(List.mem_append.1 hj.1).resolve_right fun h => hji (List.mem_singleton.1 h), hj.2⟩
      · have hji : j ≠ i := fun hji => hj ⟨by simp [hji], hji ▸ h⟩
        rw [hst j hji]
        exact (hstations j).2 fun hjl => hj ⟨List.mem_append_left _ hjl.1, hjl.2⟩
      · rw [if_neg (by rw [lossesOf_reaches h]; simp)]
        have hwake : v.raised .station = s.raised .station := by
          by_cases hl : s.lossesOf l = []
          · exact raised_congr (by rw [heq, if_pos hl]) (by rw [heq]) hset _
          · exact raised_raised (by rw [heq, if_neg hl]) (by rw [heq]) hset
        have hrest := hone.rest
        rw [hwake] at hrest
        conv_lhs => rw [hrest, heq]
        rw [hrest]
        rfl
    · rw [lossesOf_stays h, List.append_nil, reexamine_of_stays (hreaches.not.2 h)]
      have hmem (j : Fin 30) : j ∈ l ++ [i] ∧ s.Reaches j ↔ j ∈ l ∧ s.Reaches j := by
        rw [List.mem_append, List.mem_singleton]
        constructor
        · rintro ⟨hj | rfl, hr⟩
          · exact ⟨hj, hr⟩
          · exact absurd hr h
        · exact fun hj => ⟨.inl hj.1, hj.2⟩
      refine ⟨fun j hj hr => hshown j ((hmem j).1 ⟨hj, hr⟩).1 hr, hrec, hkeep.mono fun a ha => ha.imp_left ?_, fun j => ?_, heq⟩
      · rintro ⟨j, hj, hr⟩
        exact ⟨j, List.mem_append_left _ hj, hr⟩
      · rw [hmem]
        exact hstations j

end Sys2Proof.Machine.State

end

section
/-! PROOFS. What an apply does at one input (R126, R133). -/

namespace Sys2Proof.Machine.State

variable {s t u v w : State} {old new : Settings} {i j : Fin 16} {x y z : Input} {tached : Bool} {g : InputSettings}

/-! ## The held flags in the status word (R124) -/

theorem statusWord_toNat (x : Input) (held : Nat) :
    (statusWord x held).toNat =
      bit x.level + 2 * bit x.settled + 4 * bit x.stalled + 16 * (held % 4) + 65536 * (x.count % 65536) := by
  have hb (b : Bool) : bit b < 2 := by cases b <;> decide
  have h1 := hb x.level
  have h2 := hb x.settled
  have h3 := hb x.stalled
  unfold statusWord pack
  rw [BitVec.toNat_ofNat]
  simp only [packNat]
  omega

/-- What a status word shows of the unit's does not hang on the held flags. -/
theorem statusWord_of_same (h : statusWord x 0 = statusWord y 0) (held : Nat) : statusWord x held = statusWord y held := by
  have hn := congrArg BitVec.toNat h
  rw [statusWord_toNat, statusWord_toNat] at hn
  refine BitVec.eq_of_toNat_eq ?_
  rw [statusWord_toNat, statusWord_toNat]
  omega

theorem field_statusWord (x : Input) (held : Nat) : field (statusWord x held) 4 2 = held % 4 := by
  have hb (b : Bool) : bit b < 2 := by cases b <;> decide
  have h1 := hb x.level
  have h2 := hb x.settled
  have h3 := hb x.stalled
  unfold field
  rw [statusWord_toNat, Nat.shiftRight_eq_div_pow]
  omega

theorem heldFlags_lt (s : State) (i : Fin 16) : s.heldFlags i < 4 := Nat.mod_lt _ (by decide)

theorem heldFlags_congr (h : t.peek (inputAddr i) = s.peek (inputAddr i)) : t.heldFlags i = s.heldFlags i := by
  unfold heldFlags
  rw [h]

/-- A status word written with the held flags as they are read keeps them. -/
theorem putInput_heldFlags (s : State) (i : Fin 16) (x : Input) : (s.putInput i x).heldFlags i = s.heldFlags i := by
  by_cases h : statusWord s.inputs[i] 0 = statusWord x 0
  · rw [putInput_of_same h]
    rfl
  · have hshown := putInput_shown h
    generalize s.putInput i x = t at *
    have hheld : t.heldFlags i = s.heldFlags i % 4 := (congrArg (field · 4 2) hshown).trans (field_statusWord x _)
    rw [hheld, Nat.mod_eq_of_lt (s.heldFlags_lt i)]

/-! ## An input given another state -/

/-- Input `i` has the state `x` in `t`, and its entry shows it; its period where `tached` holds (R124, R133). -/
def Gives (s t : State) (i : Fin 16) (tached : Bool) (x : Input) : Prop :=
  s.KeepsWords t (fun a => a = inputAddr i ∨ tached = true ∧ a = inputAddr i + 1) ∧
    (statusWord x 0 ≠ statusWord s.inputs[i] 0 → t.peek (inputAddr i) = statusWord x (s.heldFlags i)) ∧
    (x ≠ s.inputs[i] → tached = true → t.peek (inputAddr i + 1) = BitVec.ofNat 32 x.period) ∧
    t = { s with mem := t.mem, inputs := s.inputs.set i x }

theorem gives_self (s : State) (i : Fin 16) (tached : Bool) : s.Gives s i tached s.inputs[i] :=
  ⟨.refl s _, fun h => absurd rfl h, fun h => absurd rfl h, (setRaw_self s i).symm⟩

/-- The period word of an input that leaves tach mode is cleared (R133). -/
def clearPeriod (s : State) (i : Fin 16) (tached : Bool) : State := if tached then s.poke (inputAddr i + 1) 0 else s

theorem clearPeriod_cleared (ht : t = s.clearPeriod i tached) :
    s.KeepsWords t (fun a => tached = true ∧ a = inputAddr i + 1) ∧ (tached = true → t.peek (inputAddr i + 1) = 0) ∧
      t = { s with mem := t.mem } := by
  have hb := inputAddr_bounds i
  subst ht
  unfold clearPeriod
  split
  next h =>
    refine ⟨(poke_keepsWords s _ _).mono fun a ha => ⟨h, ha⟩, fun _ => ?_, rfl⟩
    exact peek_poke_same _ _ _ (Nat.lt_of_lt_of_le (show inputAddr i + 1 < 0x100 by omega) (by decide))
  next h => exact ⟨.refl s _, fun ht => absurd ht h, rfl⟩

theorem inputs_eq_of {y : Vector Input 16} (h : t.inputs = y) : t.inputs[i] = y[i] := by simp only [h]

/-- A state with the period 0 is put behind the clearing of the period word. -/
theorem clearPeriod_gives (hp : x.period = 0) : s.Gives ((s.clearPeriod i tached).putInput i x) i tached x := by
  have hb := inputAddr_bounds i
  obtain ⟨hk1, hperiod, he1⟩ := clearPeriod_cleared (s := s) (i := i) (tached := tached) rfl
  generalize s.clearPeriod i tached = v at *
  have hinputs : v.inputs = s.inputs := by rw [he1]
  have hk2 := putInput_keepsWords v i x
  have he2 := putInput_eq v i x
  refine ⟨(hk1.trans hk2).mono fun a ha => ha.symm, fun hne => ?_, fun _ ht => ?_, ?_⟩
  · rw [putInput_shown (by rw [inputs_eq_of hinputs]; exact hne.symm), heldFlags_congr (s := s) (hk1 _ fun h => by omega)]
  · rw [hk2 _ (by omega), hperiod ht, hp]
    rfl
  · generalize v.putInput i x = t at *
    rw [hinputs] at he2
    conv_lhs => rw [he2, he1]

/-- A state put behind another one whose period word it leaves. -/
theorem Gives.behind (h : s.Gives v i tached x) (hheld : v.heldFlags i = s.heldFlags i)
    (hword : tached = true → v.peek (inputAddr i + 1) = BitVec.ofNat 32 y.period) : s.Gives (v.putInput i y) i tached y := by
  obtain ⟨hkeep, hshown, -, heq⟩ := h
  have hb := inputAddr_bounds i
  have hin : v.inputs[i] = x := by
    rw [inputs_eq_of (show v.inputs = s.inputs.set i x by rw [heq])]
    exact Vector.getElem_set_self i.isLt
  have hk2 := putInput_keepsWords v i y
  have he2 := putInput_eq v i y
  refine ⟨(hkeep.trans hk2).mono fun a ha => ha.elim id .inl, fun hne => ?_, fun _ ht => ?_, ?_⟩
  · by_cases hsame : statusWord x 0 = statusWord y 0
    · rw [putInput_of_same (by rw [hin]; exact hsame), ← statusWord_of_same hsame]
      exact hshown (by rw [hsame]; exact hne)
    · rw [putInput_shown (by rw [hin]; exact hsame), hheld]
  · rw [hk2 _ (by omega), hword ht]
  · have hset : v.inputs.set i y = s.inputs.set i y := by
      rw [show v.inputs = s.inputs.set i x by rw [heq], Vector.set_set]
    generalize v.putInput i y = t at *
    rw [hset] at he2
    conv_lhs => rw [he2, heq]

theorem putPeriod_gives (ht : tached = true) : s.Gives (s.putPeriod i x) i tached x := by
  have hb := inputAddr_bounds i
  obtain ⟨hword, hkeep, heq⟩ := putPeriod_written s i x
  have hput : s.putPeriod i x = ((s.setInputAt i x).poke (inputAddr i + 1) (BitVec.ofNat 32 x.period)).writeStatus i
    (((s.setInputAt i x).poke (inputAddr i + 1) (BitVec.ofNat 32 x.period)).heldFlags i) := rfl
  have hk : ((s.setInputAt i x).poke (inputAddr i + 1) (BitVec.ofNat 32 x.period)).peek (inputAddr i) = s.peek (inputAddr i) :=
    poke_keepsWords (s.setInputAt i x) (inputAddr i + 1) (BitVec.ofNat 32 x.period) _ (by omega)
  have hin : ((s.setInputAt i x).poke (inputAddr i + 1) (BitVec.ofNat 32 x.period)).inputs[i] = x := setInputAt_same s i x
  generalize (s.setInputAt i x).poke (inputAddr i + 1) (BitVec.ofNat 32 x.period) = v at *
  refine ⟨hkeep.mono fun a ha => ha.imp_right fun h => ⟨ht, h⟩, fun _ => ?_, fun _ _ => hword, heq⟩
  rw [hput, (writeStatus_written v i _).1, hin, heldFlags_congr hk]

/-! ## The operations of an apply at one input -/

/-- An input begins its first window behind the clearing of its state (R126). -/
theorem firstWindow_gives (hp : x.period = 0) :
    s.Gives (((s.clearPeriod i tached).putInput i x).beginFirstWindow i) i tached
      (if (s.settings.inputs[i]).debounce = 0 then
        { x with level := isActive s.settings.inputs[i] x, settled := true, window := .none }
      else { x with window := .first (s.now + millis (s.settings.inputs[i]).debounce) }) := by
  have hb := inputAddr_bounds i
  obtain ⟨hk1, hperiod, he1⟩ := clearPeriod_cleared (s := s) (i := i) (tached := tached) rfl
  have hfirst := clearPeriod_gives (s := s) (i := i) (tached := tached) hp
  have hheld := putInput_heldFlags (s.clearPeriod i tached) i x
  have hk2 := putInput_keepsWords (s.clearPeriod i tached) i x
  rw [heldFlags_congr (s := s) (hk1 _ fun h => by omega)] at hheld
  have hword : tached = true → ((s.clearPeriod i tached).putInput i x).peek (inputAddr i + 1) = 0 := fun h => by
    rw [hk2 _ (by omega), hperiod h]
  have hset : ((s.clearPeriod i tached).putInput i x).settings = s.settings := by rw [hfirst.2.2.2]
  have hin : ((s.clearPeriod i tached).putInput i x).inputs[i] = x := by
    rw [inputs_eq_of (show ((s.clearPeriod i tached).putInput i x).inputs = s.inputs.set i x by rw [hfirst.2.2.2])]
    exact Vector.getElem_set_self i.isLt
  generalize (s.clearPeriod i tached).putInput i x = v at *
  unfold beginFirstWindow endFirstWindow
  simp only [hset, hin]
  split
  · exact hfirst.behind hheld fun h => by rw [hword h, hp]; rfl
  · rw [show v.now = s.now by unfold now; rw [hfirst.2.2.2]]
    exact hfirst.behind hheld fun h => by rw [hword h, hp]; rfl

/-! ### An input that settles, is disabled, or has another stall time -/

/-- What remains of an input enabled anew or disabled: its raw level, its count and its captures. -/
def clearedInput (x : Input) : Input :=
  { x with
    level := false, settled := false, stalled := false, period := 0, window := .none, lastEdge := none, stallFrom := none }

theorem notices_nobody (hch : ∀ c : Fin 4, (s.settings.channels[c]).tach ≠ some i) (b : Bool) :
    (if b then s.clearNotice i else s) = s := by
  rw [show s.clearNotice i = s from notify_nobody hch _, ite_self]

theorem Gives.settings (h : s.Gives t i tached x) : t.settings = s.settings := by rw [h.2.2.2]

/-- A tach input settles at once, its stall interval starting now (R130, R133). -/
def tachSettled (s : State) (i : Fin 16) : Input :=
  { clearedInput s.inputs[i] with
    level := isActive s.settings.inputs[i] s.inputs[i], settled := true, stallFrom := some s.now }

/-- An input that settles before a stall that stood is told ended. -/
def settled (s : State) (i : Fin 16) (tached : Bool) : State :=
  if (s.settings.inputs[i]).tach then s.putPeriod i (s.tachSettled i)
  else ((s.clearPeriod i tached).putInput i (clearedInput s.inputs[i])).beginFirstWindow i

theorem settleInput_eq (s : State) (i : Fin 16) (tached : Bool) :
    s.settleInput i tached =
      if (s.inputs[i]).stalled then (s.settled i tached).clearNotice i else s.settled i tached := rfl

theorem settleInput_gives (hch : ∀ c : Fin 4, (s.settings.channels[c]).tach ≠ some i) (h : s.Gives (s.settled i tached) i tached x) :
    s.Gives (s.settleInput i tached) i tached x := by
  rw [settleInput_eq]
  generalize s.settled i tached = t at *
  rw [notices_nobody (by rw [h.settings]; exact hch)]
  exact h

/-- An input that settles in contact mode: a first window, or at once (R126). -/
theorem settled_contact (hg : (s.settings.inputs[i]).tach = false) :
    s.Gives (s.settled i tached) i tached
      (if (s.settings.inputs[i]).debounce = 0 then
        { clearedInput s.inputs[i] with level := isActive s.settings.inputs[i] s.inputs[i], settled := true }
      else { clearedInput s.inputs[i] with window := .first (s.now + millis (s.settings.inputs[i]).debounce) }) := by
  have hfirst := firstWindow_gives (s := s) (i := i) (tached := tached) (x := clearedInput s.inputs[i]) rfl
  unfold settled
  rw [if_neg (by rw [hg]; exact nofun)]
  exact hfirst

/-- An input that settles in tach mode: at once, with its stall interval (R130, R133). -/
theorem settleInput_tach (hch : ∀ c : Fin 4, (s.settings.channels[c]).tach ≠ some i) (hg : (s.settings.inputs[i]).tach = true)
    (ht : tached = true) : s.Gives (s.settleInput i tached) i tached (s.tachSettled i) := by
  refine settleInput_gives hch ?_
  unfold settled
  rw [if_pos hg]
  exact putPeriod_gives ht

theorem disableInput_gives (hch : ∀ c : Fin 4, (s.settings.channels[c]).tach ≠ some i) :
    s.Gives (s.disableInput i tached) i tached (clearedInput s.inputs[i]) := by
  have hput := clearPeriod_gives (s := s) (i := i) (tached := tached) (x := clearedInput s.inputs[i]) rfl
  have hdisable : s.disableInput i tached =
      (let t := (s.clearPeriod i tached).putInput i (clearedInput s.inputs[i])
        if (s.inputs[i]).stalled then t.clearNotice i else t) := rfl
  rw [hdisable]
  dsimp only
  generalize (s.clearPeriod i tached).putInput i (clearedInput s.inputs[i]) = t at *
  rw [notices_nobody (by rw [hput.settings]; exact hch)]
  exact hput

/-- A stall interval compared with the stall time in force (R133). -/
theorem compareStall_gives {m : Moment} (hch : ∀ c : Fin 4, (s.settings.channels[c]).tach ≠ some i)
    (he : (s.settings.inputs[i]).enabled = true) (hg : (s.settings.inputs[i]).tach = true) (ht : tached = true)
    (hm : (s.inputs[i]).stallFrom = some m) :
    s.Gives (s.compareStall i) i tached
      (if m + tens (s.settings.inputs[i]).stallTime ≤ s.now then
        { s.inputs[i] with stalled := true, period := 65535, lastEdge := none, stallFrom := none }
      else s.inputs[i]) := by
  unfold compareStall
  rw [hm]
  dsimp only
  by_cases hdue : m + tens (s.settings.inputs[i]).stallTime ≤ s.now
  · rw [if_pos hdue, if_pos ⟨he, hg, hdue⟩]
    have hput := putPeriod_gives (s := s) (i := i) (tached := tached)
      (x := { s.inputs[i] with stalled := true, period := 65535, lastEdge := none, stallFrom := none }) ht
    unfold stallInput
    generalize s.putPeriod i { s.inputs[i] with stalled := true, period := 65535, lastEdge := none, stallFrom := none } = t at *
    rw [show t.stallNotice i = t from notify_nobody (by rw [hput.settings]; exact hch) _]
    exact hput
  · rw [if_neg hdue, if_neg fun h => hdue h.2.2]
    exact gives_self s i tached

theorem compareStall_of_none (h : (s.inputs[i]).stallFrom = none) : s.compareStall i = s := by
  unfold compareStall
  rw [h]

/-! ### The inputs of an apply that differs at one of them -/

/-- Where one input alone differs, the apply works at that input (R126, R133). -/
theorem applyFolds_one (hin : ∀ j : Fin 16, j ≠ i → s.settings.inputs[j] = old.inputs[j]) :
    (List.finRange 16).foldl (applyStallTime old) ((List.finRange 16).foldl (applyEnable old) s) =
      applyStallTime old (applyEnable old s i) i := by
  have hset : (applyEnable old s i).settings = s.settings := by simp
  have hset' : (applyStallTime old (applyEnable old s i) i).settings = s.settings := by simp
  rw [foldl_eq_one (List.mem_finRange i) (List.nodup_finRange 16) (fun j hj => applyEnable_same (hin j hj))
    fun j hj => applyEnable_same (by rw [hset]; exact hin j hj)]
  generalize applyEnable old s i = v at *
  exact foldl_eq_one (List.mem_finRange i) (List.nodup_finRange 16) (fun j hj => applyStallTime_same (by rw [hset, hin j hj]))
    fun j hj => applyStallTime_same (by rw [hset', hin j hj])

theorem applyInputs_one (hin : ∀ j : Fin 16, j ≠ i → s.settings.inputs[j] = old.inputs[j])
    (hv : s.settings.visitInput = old.visitInput) (hne : old.visitInput ≠ some i) :
    s.applyInputs old = applyStallTime old (applyEnable old s i) i := by
  have hset : (applyStallTime old (applyEnable old s i) i).settings = s.settings := by simp
  have hother (v : Fin 16) (h : old.visitInput = some v) : s.settings.inputs[v] = old.inputs[v] :=
    hin v fun hvi => hne (h.trans (congrArg some hvi))
  unfold applyInputs
  rw [applyFolds_one hin]
  generalize applyStallTime old (applyEnable old s i) i = w at *
  dsimp only
  rw [roleEnds_same (by rw [hset]; exact hv) fun j hj => by rw [hset]; exact hother j hj, if_neg (by simp)]
  exact applySettleEvent_same fun j hj => by
    rw [hset] at hj ⊢
    exact hother j (hv.symm.trans hj)

end Sys2Proof.Machine.State

end

section
/-! PROOFS. SETTINGS_APPLY with the consequences of one difference (R180; O30). -/

namespace Sys2Proof.Machine.State

variable {s t u v w : State} {r : Taken} {old new : Settings} {i : Fin 16} {k : Fin 16} {p : Nat → Prop}

/-- An accepted block answers what its consequences left. -/
theorem apply_answers (hc : s.Carries r .settingsApply) (hgood : firstBadField s.mem = none) (hnew : new = blockSettings s.mem)
    (hm : geometryMoves s.settings new = false) (hlevel : derivedLevel { s with settings := new } = s.duty.shed)
    (hw : w = s.applied new) (hwatches : w.watches = s.watches) (hshed : w.duty.shed = s.duty.shed) (u : State)
    (hp : Spares r p) (hkeep : s.KeepsWords w p) (heq : { w with time := s.clockUnder new } = { u with mem := w.mem })
    (hmem : u.mem = s.mem) (hreq : u.req = s.req) {Q : State → Prop}
    (hQ : ∀ t, Reports r { w with time := s.clockUnder new } t → Q t) :
    Answers (exec .settingsApply s) fun t => s.Completes t r .ok 0 p u ∧ Q t := by
  subst hnew
  have hcmd : exec .settingsApply s = .next (s.whenReady fun s => s.carryOut .settingsApply fun _ s => s.applySettings) := rfl
  have hwork := settings_work hgood
  rw [hm, if_neg fun h => Bool.noConfusion h.1, acceptSettings_eq hlevel (by rw [← hw]; exact hwatches) (by rw [← hw]; exact hshed), ← hw] at hwork
  exact answers_of_work hc hcmd hwork u hp hkeep heq hmem (held := s.req.inflight) hreq hQ

/-! ### The Collection Buffer under other settings with the same geometry -/

/-- The geometry of two settings is the same. -/
def SameGeometry (old new : Settings) : Prop := new.base = old.base ∧ new.count = old.count ∧ new.size = old.size

section
variable (h : SameGeometry s.settings t.settings) (hc : t.coll = s.coll)
include h

theorem segAddr_geometry (n : Nat) : t.segAddr n = s.segAddr n := by
  obtain ⟨hb, -, hs⟩ := h
  unfold segAddr
  rw [hb, hs]

theorem geometryOk_geometry : t.GeometryOk ↔ s.GeometryOk := by
  obtain ⟨hb, hn, hs⟩ := h
  unfold GeometryOk
  rw [hb, hn, hs]

theorem closeWord_geometry (a : Nat) : t.CloseWord k a ↔ s.CloseWord k a := by
  unfold CloseWord
  rw [segAddr_geometry h]

include hc

theorem roomFor_geometry (n : Nat) : t.RoomFor k n ↔ s.RoomFor k n := by
  unfold RoomFor
  rw [geometryOk_geometry h, hc]
  obtain ⟨hb, hn, hs⟩ := h
  rw [hn, hs]

theorem recordWord_geometry (n a : Nat) : t.RecordWord k n a ↔ s.RecordWord k n a := by
  unfold RecordWord
  rw [segAddr_geometry h, hc]

variable (ht : t.time.timestamp = s.time.timestamp) (rs : List Record)
include ht

theorem roomForAll_geometry : t.RoomForAll k rs ↔ s.RoomForAll k rs := by
  unfold RoomForAll
  rw [roomFor_geometry h hc, recordWords_congr ht]

theorem recordWords_geometry (a : Nat) : t.RecordWords k rs a ↔ s.RecordWords k rs a := by
  unfold RecordWords
  rw [recordWord_geometry h hc, recordWords_congr ht]

theorem recordedAll_geometry : t.RecordedAll u k rs ↔ s.RecordedAll u k rs := by
  unfold RecordedAll
  rw [segAddr_geometry h, hc, recordWords_congr ht]

theorem recorded_geometry (x : Record) : t.Recorded u k x ↔ s.Recorded u k x := by
  unfold Recorded collAfter
  rw [segAddr_geometry h, hc, ht]

theorem closed_geometry (reason : CloseReason) : t.Closed u k reason ↔ s.Closed u k reason := by
  unfold Closed
  rw [segAddr_geometry h, hc, ht]

end

theorem apply_answers_plain (hc : s.Carries r .settingsApply) (hgood : firstBadField s.mem = none) (hnew : new = blockSettings s.mem)
    (hm : geometryMoves s.settings new = false) (hlevel : derivedLevel { s with settings := new } = s.duty.shed)
    (happ : s.applied new = s.accepted new) :
    Answers (exec .settingsApply s) (s.Completes · r .ok 0 (fun _ => False) (s.under new)) := by
  obtain ⟨t, ht, hdone, -⟩ := apply_answers (p := fun _ => False) hc hgood hnew hm hlevel happ.symm rfl rfl (s.under new) spares_nothing
    (fun a _ => rfl) rfl rfl rfl (Q := fun _ => True) fun _ _ => trivial
  exact ⟨t, ht, hdone⟩

/-- Where the geometry stays, nothing moves. -/
theorem geometryMoves_same (h : new.base = s.settings.base ∧ new.count = s.settings.count ∧ new.size = s.settings.size) :
    geometryMoves s.settings new = false := by
  obtain ⟨hb, hc, hs⟩ := h
  simp [geometryMoves, hb, hc, hs]

/-! ### What an apply does at an input that differs -/

theorem applyEnable_settles (h : resettles old.inputs[i] s.settings.inputs[i] = true) :
    applyEnable old s i = s.settleInput i ((old.inputs[i]).tach || (s.settings.inputs[i]).tach) := if_pos h

theorem resettles_of_enabled {o g : InputSettings} (he : g.enabled = true)
    (h : o.enabled = false ∨ g.activeLow ≠ o.activeLow ∨ g.tach ≠ o.tach) : resettles o g = true := by
  unfold resettles
  rw [he]
  rcases h with h | h | h <;> simp [h]

theorem applyEnable_disables (ho : (old.inputs[i]).enabled = true) (hg : (s.settings.inputs[i]).enabled = false) :
    applyEnable old s i = s.disableInput i ((old.inputs[i]).tach || (s.settings.inputs[i]).tach) := by
  unfold applyEnable resettles
  simp only [hg, ho]
  rfl

/-- An input that goes on under the same settings but for its stall time. -/
theorem applyEnable_stays (he : (s.settings.inputs[i]).enabled = (old.inputs[i]).enabled)
    (ha : (s.settings.inputs[i]).activeLow = (old.inputs[i]).activeLow) (ht : (s.settings.inputs[i]).tach = (old.inputs[i]).tach) :
    applyEnable old s i = s := by
  unfold applyEnable resettles
  simp only [he, ha, ht]
  cases (old.inputs[i]).enabled <;> simp

theorem applyStallTime_of_none (h : (s.inputs[i]).stallFrom = none) : applyStallTime old s i = s := by
  unfold applyStallTime
  rw [compareStall_of_none h, ite_self]

/-- A stall interval that starts now has not run its length. -/
theorem applyStallTime_of_now (h : (s.inputs[i]).stallFrom = some s.now) (hpos : 0 < (s.settings.inputs[i]).stallTime) :
    applyStallTime old s i = s := by
  have hcompare : s.compareStall i = s := by
    unfold compareStall
    rw [h]
    refine if_neg fun hdue => ?_
    exact Nat.not_le_of_lt (Nat.lt_add_of_pos_right (Nat.mul_pos (by decide) hpos)) hdue.2.2
  unfold applyStallTime
  rw [hcompare, ite_self]

theorem Gives.input {tached : Bool} {x : Input} (h : s.Gives t i tached x) : t.inputs[i] = x := by
  rw [inputs_eq_of (show t.inputs = s.inputs.set i x by rw [h.2.2.2])]
  exact Vector.getElem_set_self i.isLt

/-- No interval runs at an input given another state: a changed stall time finds nothing to compare. -/
theorem Gives.stallTime {tached : Bool} {x : Input} (h : s.Gives v i tached x) (hx : x.stallFrom = none) :
    s.Gives (applyStallTime old v i) i tached x := by
  rw [applyStallTime_of_none (by rw [h.input]; exact hx)]
  exact h

theorem Gives.now {tached : Bool} {x : Input} (h : s.Gives t i tached x) : t.now = s.now := by
  unfold State.now
  rw [h.2.2.2]

theorem applied_of_bus (hm : geometryMoves s.settings new = false) (hage : new.closeAge = s.settings.closeAge)
    (hin : new.inputs = s.settings.inputs) (hv : new.visitInput = s.settings.visitInput)
    (htach : ∀ c : Fin 4, (new.channels[c]).tach = (s.settings.channels[c]).tach) :
    s.applied new = (s.accepted new).applyBus s.settings := by
  have hset : ((s.accepted new).applyBus s.settings).settings = new := by simp [accepted]
  unfold applied
  rw [applyCollection_same (s := s.accepted new) hm hage]
  generalize (s.accepted new).applyBus s.settings = w at *
  rw [applyInputs_same (by rw [hset]; exact hin) (by rw [hset]; exact hv), applyChannels_same (by rw [hset]; exact htach)]

theorem applied_of_inputs (hm : geometryMoves s.settings new = false) (hage : new.closeAge = s.settings.closeAge)
    (hlost : new.lostLimit = s.settings.lostLimit)
    (htach : ∀ c : Fin 4, (new.channels[c]).tach = (s.settings.channels[c]).tach) :
    s.applied new = (s.accepted new).applyInputs s.settings := by
  have hset : ((s.accepted new).applyInputs s.settings).settings = new := by simp [accepted]
  unfold applied
  rw [applyCollection_same (s := s.accepted new) hm hage, applyBus_same (s := s.accepted new) hlost]
  generalize (s.accepted new).applyInputs s.settings = w at *
  rw [applyChannels_same (by rw [hset]; exact htach)]

/-- A visit that is STARTING aborts, with its record (R135, R138). -/
theorem visitAbort_aborted (hst : s.visit.state = .starting) (hroom : s.RoomFor k 4) (ht : t = s.visitAbort) :
    t.peek 0x40 = t.word40 ∧ s.Recorded t k (visitRecord s.visit .aborted) ∧
      s.KeepsWords t (fun a => a = 0x40 ∨ s.RecordWord k 4 a) ∧
      t =
        { s with
          mem := t.mem, visit := { s.visit with state := .off }, coll := s.collAfter 4
          bus := { s.bus with visitPending := none } } := by
  have h40 := setVisitState_shown (s := s.cancelPending) { s.visit with state := .off } (by
    show VisitState.off ≠ s.visit.state
    rw [hst]
    exact nofun)
  have hk1 := setVisitState_keepsWords s.cancelPending { s.visit with state := .off }
  have he1 := setVisitState_eq s.cancelPending { s.visit with state := .off }
  have ht : t = (s.cancelPending.setVisitState { s.visit with state := .off }).offerVisit .aborted := ht
  generalize s.cancelPending.setVisitState { s.visit with state := .off } = v at *
  have hrecord : visitRecord v.visit .aborted = visitRecord s.visit .aborted := by
    rw [he1]
    rfl
  unfold offerVisit at ht
  rw [hrecord] at ht
  obtain ⟨hrec, hk2, he2⟩ := offer_from (s := s) (u := v) (r := visitRecord s.visit .aborted) (by rw [he1]; rfl) (by rw [he1]; rfl)
    (by rw [he1]; rfl) hroom
  rw [← ht] at hrec hk2 he2
  refine ⟨?_, hrec, KeepsWords.trans (s := s) hk1 hk2, ?_⟩
  · refine ((hk2 _ (not_recordWord hroom (by decide) (by decide) (by decide) (by decide))).trans h40).trans ?_
    refine (word40_eq_iff (t := v)).2 ?_
    rw [he2]
    exact ⟨rfl, rfl, rfl, rfl, rfl, rfl⟩
  · conv_lhs => rw [he2, he1]
    rfl

/-- Where another input is named for the visit, the visit ends (R134). -/
theorem applyInputs_forced (hin : s.settings.inputs = old.inputs) (hhas : old.visitInput ≠ none)
    (hne : s.settings.visitInput ≠ old.visitInput) : s.applyInputs old = s.visitForcedEnd := by
  have hi (j : Fin 16) : s.settings.inputs[j] = old.inputs[j] := by simp only [hin]
  have hrole : roleEnds old s.settings = true := by
    obtain ⟨v, hv⟩ := Option.ne_none_iff_exists'.1 hhas
    unfold roleEnds
    simp [hv, show s.settings.visitInput ≠ some v from hv ▸ hne]
  have hset : s.visitForcedEnd.settings = s.settings := by simp
  unfold applyInputs
  rw [foldl_eq_self fun j _ => applyEnable_same (hi j), foldl_eq_self fun j _ => applyStallTime_same (by rw [hi j])]
  dsimp only
  rw [if_pos hrole]
  generalize s.visitForcedEnd = w at *
  exact applySettleEvent_same fun j _ => by rw [hset]; exact hi j

end Sys2Proof.Machine.State

open Sys2Proof.Machine State in
/-- Settles O30: lost stations, the close age, inputs that settle or are disabled, stall times, and the forced end of a visit. -/
theorem applyHasItsConsequences : Obligations.ApplyHasItsConsequences := by
  intro s r k hc hgood new applied
  refine ⟨?_, ?_, ?_, ?_⟩
  · intro hquiet hne loses gone rs hroom
    obtain ⟨hgeo, hage, -, hin, hv, htach, hlevel⟩ := hquiet
    have hsame : SameGeometry s.settings (s.accepted new).settings := hgeo
    have hm := geometryMoves_same (new := new) hgeo
    have happ := applied_of_bus (new := new) hm hage hin hv htach
    rw [show (s.accepted new).applyBus s.settings = (List.finRange 30).foldl reexamine (s.accepted new) from if_pos hne] at happ
    obtain ⟨hshown, hrec, hkeep, hst, heq⟩ := reexamineAll (s := s.accepted new) (k := k) (List.nodup_finRange 30)
      ((roomForAll_geometry hsame rfl rfl _).2 hroom)
    rw [← happ] at hshown hrec hkeep hst heq
    have hlosses : (s.accepted new).lossesOf (List.finRange 30) = rs := rfl
    rw [hlosses] at hrec hkeep heq
    simp only [recordWords_geometry hsame rfl rfl] at hkeep
    rw [recordedAll_geometry hsame rfl rfl] at hrec
    obtain ⟨w, hw⟩ : ∃ w, w = s.applied new := ⟨_, rfl⟩
    rw [← hw] at hshown hrec hkeep hst heq
    have hkeep : s.KeepsWords w fun a => (∃ i, loses i ∧ StationWord i a) ∨ s.RecordWords k rs a :=
      KeepsWords.mono (s := s) hkeep fun a ha => ha.imp_left fun ⟨i, _, hi⟩ => ⟨i, hi⟩
    have hsp : Spares r fun a => (∃ i, loses i ∧ StationWord i a) ∨ s.RecordWords k rs a := spares_of_bounds fun a ha => by
      rcases ha with ⟨i, -, hi⟩ | ha
      · have := stationWord_bounds hi
        omega
      · have := RecordWords.place hroom ha
        omega
    obtain ⟨t, ht, hdone, hr⟩ := apply_answers hc hgood (new := new) rfl hm hlevel hw (by rw [heq]; rfl) (by rw [heq]; rfl)
      { s.under new with
        bus := { s.bus with stations := w.bus.stations }, coll := w.coll
        wake := if rs = [] then (s.under new).wake else (s.under new).raised .station } hsp hkeep
      (by conv_lhs => rw [heq]
          rfl) rfl rfl fun t ht => ht
    have hbus : t.bus = w.bus := by rw [hr.2]
    have hcoll : t.coll = w.coll := by rw [hr.2]
    refine ⟨t, ht, ?_, recordedAll_after hrec hcoll fun a ha => hr.peek hsp (.inr ha), fun i => ⟨fun hi => ⟨?_, ?_⟩, fun hi => ?_⟩⟩
    · rw [hbus, hcoll]
      exact hdone
    · rw [hbus]
      exact (hst i).1 ⟨List.mem_finRange i, hi⟩
    · exact stationShown_congr (hshown i (List.mem_finRange i) hi) (by rw [hbus]) fun a ha => hr.peek hsp (.inl ⟨i, hi, ha⟩)
    · rw [hbus]
      exact (hst i).2 fun h => hi h.2
  · intro start hquiet hne hst old
    obtain ⟨hgeo, -, hlost, hin, hv, htach, hlevel⟩ := hquiet
    have hsame : SameGeometry s.settings (s.accepted new).settings := hgeo
    have hm := geometryMoves_same (new := new) hgeo
    have happ := applied_of_collection (new := new) hlost hin hv htach
    have hage : (s.accepted new).applyCollection s.settings = (s.accepted new).closeByAge := by
      unfold applyCollection
      rw [show geometryMoves s.settings (s.accepted new).settings = false from hm, if_neg (by simp)]
      exact if_pos hne
    rw [hage] at happ
    refine ⟨fun hold hgeom hk => ?_, fun hyoung => ?_⟩
    · rw [closeByAge_of_old (s := s.accepted new) hst hold.1 hold.2] at happ
      have hkeep := closeFilling_keepsWords (s := s.accepted new) .age hst
      have heq := closeFilling_eq (s := s.accepted new) .age hst
      have hclosed := closeFilling_closed (s := s.accepted new) .age hst ((geometryOk_geometry hsame).2 hgeom)
        (by rw [hsame.2.1]; exact hk)
      rw [closed_geometry hsame rfl rfl] at hclosed
      rw [← happ] at hkeep heq hclosed
      obtain ⟨w, hw⟩ : ∃ w, w = s.applied new := ⟨_, rfl⟩
      rw [← hw] at hkeep heq hclosed
      have hkeep : s.KeepsWords w (s.CloseWord k) := KeepsWords.mono (s := s) hkeep fun a => (closeWord_geometry hsame a).1
      have hsp : Spares r (s.CloseWord k) := spares_of_bounds fun a ha => by
        have := (segAddr_bounds hgeom hk).1
        unfold CloseWord at ha
        omega
      refine apply_answers hc hgood (new := new) rfl hm hlevel hw (by rw [heq]; rfl) (by rw [heq]; rfl)
        { s.under new with coll := { s.coll with st := .between }, wake := (s.under new).raised .closed } hsp hkeep
        ?_ rfl rfl fun t ht => closed_after hclosed (by rw [ht.2]) fun a ha => ht.peek hsp ha
      have hcoll : w.coll = { s.coll with st := .between } := hclosed.2.2.2.2.2
      rw [hcoll] at heq
      conv_lhs => rw [heq]
      rfl
    · refine apply_answers_plain hc hgood rfl hm hlevel (happ.trans (closeByAge_of_young (s := s.accepted new) ?_))
      by_cases hzero : new.closeAge = 0
      · exact .inr (.inl hzero)
      · exact .inr (.inr ⟨k, start, hst, Nat.lt_of_not_le fun h => hyoung ⟨Nat.pos_of_ne_zero hzero, h⟩⟩)
  · intro i hquiet hone hnv hch o g x cleared active puts anew
    obtain ⟨hgeo, hage, hlost, -, hv, htach, hlevel⟩ := hquiet
    have hm := geometryMoves_same (new := new) hgeo
    have happ := applied_of_inputs (new := new) hm hage hlost htach
    have hin (j : Fin 16) (hj : j ≠ i) : new.inputs[j] = s.settings.inputs[j] := by
      have h : new.inputs[j] = (s.settings.inputs.set i new.inputs[i])[j] := by rw [← hone]
      exact h.trans (Vector.getElem_set_ne i.isLt j.isLt fun h => hj (Fin.ext h.symm))
    rw [applyInputs_one (s := s.accepted new) (old := s.settings) hin hv hnv] at happ
    have hnobody (c : Fin 4) : (new.channels[c]).tach ≠ some i := by rw [htach c]; exact hch c
    obtain ⟨w, hw⟩ : ∃ w, w = s.applied new := ⟨_, rfl⟩
    rw [← hw] at happ
    have hputs {x' : Input} (h : (s.accepted new).Gives w i (o.tach || g.tach) x') : puts x' := by
      obtain ⟨hkeep, hshown, hperiod, heq⟩ := h
      have hkeep : s.KeepsWords w fun a => a = inputAddr i ∨ (o.tach = true ∨ g.tach = true) ∧ a = inputAddr i + 1 :=
        KeepsWords.mono (s := s) hkeep fun a ha => ha.imp_right fun ha => ha.imp_left Bool.or_eq_true_iff.1
      have hb := inputAddr_bounds i
      have hsp : Spares r fun a => a = inputAddr i ∨ (o.tach = true ∨ g.tach = true) ∧ a = inputAddr i + 1 :=
        spares_of_bounds fun a ha => by omega
      refine apply_answers hc hgood (new := new) rfl hm hlevel hw (by rw [heq]; rfl) (by rw [heq]; rfl)
        { s.under new with inputs := s.inputs.set i x' } hsp hkeep (by conv_lhs => rw [heq]
                                                                       rfl) rfl rfl fun t ht => ⟨fun hne => ?_, fun hne htach => ?_⟩
      · exact (ht.peek hsp (.inl rfl)).trans (hshown hne)
      · exact (ht.peek hsp (.inr ⟨htach, rfl⟩)).trans (hperiod hne (Bool.or_eq_true_iff.2 htach))
    refine ⟨fun hanew hgt => hputs ?_, fun hanew hgt hpos => hputs ?_, fun hoe hge => hputs ?_, fun m hstall hne hge hgt hfrom =>
      hputs ?_⟩
    · rw [applyEnable_settles (s := s.accepted new) (resettles_of_enabled hanew.1 hanew.2)] at happ
      have h := (settleInput_gives hnobody (settled_contact (s := s.accepted new) (tached := o.tach || g.tach) hgt)).stallTime (old := s.settings)
        (by split <;> rfl)
      rw [happ]
      exact h
    · rw [applyEnable_settles (s := s.accepted new) (resettles_of_enabled hanew.1 hanew.2)] at happ
      have h := settleInput_tach (s := s.accepted new) (tached := o.tach || g.tach) hnobody hgt (by rw [hgt, Bool.or_true])
      have hstands := applyStallTime_of_now (old := s.settings) (by rw [h.input, h.now]; rfl) (by rw [h.settings]; exact hpos)
      rw [happ]
      exact hstands.symm ▸ h
    · rw [applyEnable_disables (s := s.accepted new) hoe hge] at happ
      have h := (disableInput_gives (s := s.accepted new) (tached := o.tach || g.tach) hnobody).stallTime (old := s.settings) rfl
      rw [happ]
      exact h
    · have hog : g.enabled = o.enabled ∧ g.activeLow = o.activeLow ∧ g.tach = o.tach := by
        rw [hstall]
        exact ⟨rfl, rfl, rfl⟩
      rw [applyEnable_stays (s := s.accepted new) hog.1 hog.2.1 hog.2.2,
        show applyStallTime s.settings (s.accepted new) i = (s.accepted new).compareStall i from if_pos hne] at happ
      rw [happ]
      exact compareStall_gives (s := s.accepted new) (tached := o.tach || g.tach) hnobody hge hgt (by rw [hgt, Bool.or_true]) hfrom
  · intro hquiet hhas hvne
    obtain ⟨hgeo, hage, hlost, hin, -, htach, hlevel⟩ := hquiet
    have hsame : SameGeometry s.settings (s.accepted new).settings := hgeo
    have hm := geometryMoves_same (new := new) hgeo
    have happ := applied_of_inputs (new := new) hm hage hlost htach
    rw [applyInputs_forced (s := s.accepted new) (old := s.settings) hin hhas hvne] at happ
    refine ⟨fun hst => ?_, fun hst hroom => ?_, fun hst => ?_⟩
    · refine apply_answers_plain hc hgood rfl hm hlevel (happ.trans ?_)
      unfold visitForcedEnd
      rcases hst with h | h
      · rw [show (s.accepted new).visit.state = .off from h]
      · rw [show (s.accepted new).visit.state = .ending from h]
    · have habort : (s.accepted new).visitForcedEnd = (s.accepted new).visitAbort := by
        unfold visitForcedEnd
        rw [show (s.accepted new).visit.state = .starting from hst]
      rw [habort] at happ
      obtain ⟨w, hw⟩ : ∃ w, w = s.applied new := ⟨_, rfl⟩
      rw [← hw] at happ
      obtain ⟨h40, hrec, hkeep, heq⟩ := visitAbort_aborted (k := k) (s := s.accepted new) hst ((roomFor_geometry hsame rfl 4).2 hroom) happ
      rw [recorded_geometry hsame rfl rfl] at hrec
      have hkeep : s.KeepsWords w fun a => a = 0x40 ∨ s.RecordWord k 4 a :=
        KeepsWords.mono (s := s) hkeep fun a ha => ha.imp_right (recordWord_geometry hsame rfl 4 a).1
      have hsp : Spares r fun a => a = 0x40 ∨ s.RecordWord k 4 a := (spares_word (by decide)).or (spares_recordWord hroom)
      refine apply_answers hc hgood (new := new) rfl hm hlevel hw (by rw [heq]; rfl) (by rw [heq]; rfl)
        { s.under new with visit := { s.visit with state := .off }, coll := s.collAfter 4, bus := { s.bus with visitPending := none } }
        hsp hkeep (by conv_lhs => rw [heq]
                      rfl) rfl rfl fun t ht => ⟨((ht.peek hsp (.inl rfl)).trans h40).trans ht.word40.symm,
          recorded_after hrec (by rw [ht.2]) fun a ha => ht.peek hsp (.inr ha)⟩
    · have hends : (s.accepted new).visitForcedEnd = (s.accepted new).visitEnding := by
        unfold visitForcedEnd
        rcases hst with h | h
        · rw [show (s.accepted new).visit.state = .on from h]
        · rw [show (s.accepted new).visit.state = .leaving from h]
      rw [hends] at happ
      obtain ⟨w, hw⟩ : ∃ w, w = s.applied new := ⟨_, rfl⟩
      rw [← hw] at happ
      obtain ⟨h40, hkeep, heq⟩ := visitEnding_ending (s := s.accepted new)
        (by rcases hst with h | h <;> rw [show (s.accepted new).visit.state = _ from h] <;> exact nofun) happ
      have hsp : Spares r (· = 0x40) := spares_word (by decide)
      refine apply_answers hc hgood (new := new) rfl hm hlevel hw (by rw [heq]; rfl) (by rw [heq]; rfl)
        { s.under new with visit := { s.visit with state := .ending, endDue := none }, bus := (s.under new).busPending .remoteTake }
        hsp hkeep (by conv_lhs => rw [heq]
                      rfl) rfl rfl fun t ht => ((ht.peek hsp rfl).trans h40).trans ht.word40.symm

end

section
/-! PROOFS. The visit input (R134, R135; O55). -/

namespace Sys2Proof.Machine.State

variable {s t u v w y : State} {r : Taken} {old new : Settings} {i k : Fin 16} {active raw : Bool} {cmd : Sys2Proof.Instr}
  {visit : Visit} {bus : Bus}

/-! ## An event at the visit input -/

/-- What an event at input `i` leaves before it moves the visit: the input at its level, with no window. -/
def EventFrom (s y : State) (i : Fin 16) (active : Bool) : Prop :=
  s.KeepsWords y (InputWord i) ∧ (y.inputs[i]).level = active ∧ (y.inputs[i]).window = .none ∧
    (∀ j : Fin 16, j ≠ i → y.inputs[j] = s.inputs[j]) ∧ y = { s with mem := y.mem, inputs := y.inputs }

/-- An input with no window put at its level, with its entry. -/
theorem eventFrom_of_put {x : Input} (hkeep : s.KeepsWords y (InputWord i)) (hl : x.level = active) (hw : x.window = .none)
    (heq : y = { s with mem := y.mem, inputs := s.inputs.set i x }) : s.EventFrom y i active := by
  have hin : y.inputs = s.inputs.set i x := by rw [heq]
  have hx : y.inputs[i] = x := by
    rw [inputs_eq_of hin]
    exact Vector.getElem_set_self i.isLt
  refine ⟨hkeep, by rw [hx, hl], by rw [hx, hw], fun j hj => ?_, by rw [hin]; exact heq⟩
  rw [inputs_eq_of hin]
  exact Vector.getElem_set_ne i.isLt j.isLt fun h => hj (Fin.ext h.symm)

/-- An edge with no other effect is an event of the visit machine. -/
theorem contactEdge_event (hv : s.settings.visitInput = some i) (hrec : (s.settings.inputs[i]).recordEdges.has active = false)
    (hwake : (s.settings.inputs[i]).wakeEdges.has active = false)
    (hquiet : (s.settings.inputs[i]).triggerList = none ∨ (s.settings.inputs[i]).triggerEdge.has active = false) :
    ∃ y, s.EventFrom y i active ∧
      (s.setRaw i raw).contactEdge i active = if active then y.visitActive i s.time.timestamp else y.visitInactive := by
  have hmark := edgeMark_none hrec
  obtain ⟨-, -, hrecs, hk1, he1⟩ := rawEdge_marked (s := s) (raw := raw) (k := 0) rfl (by rw [hmark]; exact roomForAll_nil) rfl
  have hcontact := contactEdge_eq (s.setRaw i raw) i active
  obtain ⟨x, hx⟩ : ∃ x, x = (s.setRaw i raw).edgedInput i active := ⟨_, rfl⟩
  rw [← hx] at he1
  generalize (s.setRaw i raw).markedEdge i active = y at *
  rw [hmark] at hrecs hk1
  rw [hrecs.nil_coll, if_neg (by rw [hwake]; exact nofun)] at he1
  refine ⟨y, eventFrom_of_put (fun a ha => hk1 a fun h => ha (inputWord_of_edge h)) (by rw [hx]; rfl) (by rw [hx]; rfl) he1, ?_⟩
  have hq : ((s.setRaw i raw).settings.inputs[i]).triggerList = none ∨
    ((s.setRaw i raw).settings.inputs[i]).triggerEdge.has active = false := hquiet
  have hvy : y.settings.visitInput = some i := by
    rw [he1]
    exact hv
  rw [hcontact]
  simp only [edge_triggers_none hq, if_pos hvy]
  rfl

/-- The settling of the visit input at once is an event where it settles active. -/
theorem endFirstWindow_event (hv : s.settings.visitInput = some i) (htach : (s.settings.inputs[i]).tach = false)
    (hactive : (raw != (s.settings.inputs[i]).activeLow) = active) :
    ∃ y, s.EventFrom y i active ∧
      ((s.setRaw i raw).endFirstWindow i).settleEvent i = if active then y.visitActive i s.time.timestamp else y := by
  have hput : (s.setRaw i raw).endFirstWindow i =
      (s.setRaw i raw).putInput i { s.inputs[i] with raw, level := active, settled := true, window := .none } := by
    unfold endFirstWindow isActive
    rw [setRaw_input]
    simp only [← hactive]
    rfl
  have hkeep := putInput_keepsWords (s.setRaw i raw) i { s.inputs[i] with raw, level := active, settled := true, window := .none }
  have heq := putInput_raw s i raw { s.inputs[i] with raw, level := active, settled := true, window := .none }
  rw [hput]
  generalize (s.setRaw i raw).putInput i { s.inputs[i] with raw, level := active, settled := true, window := .none } = y at *
  have hx : y.inputs[i] = { s.inputs[i] with raw, level := active, settled := true, window := .none } := by
    rw [inputs_eq_of (show y.inputs = _ by rw [heq])]
    exact Vector.getElem_set_self i.isLt
  refine ⟨y, eventFrom_of_put (fun a ha => hkeep a fun h => ha (by unfold InputWord; omega)) rfl rfl heq, ?_⟩
  have hset : y.settings = s.settings := by rw [heq]
  have htime : y.time = s.time := by rw [heq]
  unfold settleEvent
  rw [hset, htime, hx]
  cases active
  · exact if_neg fun h => nomatch h.2.2.1
  · refine (if_pos ⟨hv, rfl, rfl, ?_⟩).trans rfl
    rw [htach]
    exact nofun

/-! ### What the visit machine leaves of such an event -/

/-- `t` is `s` after an event at input `i` that moved the visit and the bus alone (R135). -/
def EventLeaves (s t : State) (i : Fin 16) (visit : Visit) (bus : Bus) : Prop :=
  s.KeepsWords t (fun a => InputWord i a ∨ a = 0x40) ∧ (visit = s.visit ∨ t.peek 0x40 = t.word40) ∧
    (t.inputs[i]).window = .none ∧ (∀ j : Fin 16, j ≠ i → t.inputs[j] = s.inputs[j]) ∧
    t = { s with mem := t.mem, inputs := t.inputs, visit, bus }

namespace EventFrom

theorem stays (h : s.EventFrom y i active) : s.EventLeaves y i s.visit s.bus := by
  obtain ⟨hkeep, -, hw, hother, heq⟩ := h
  exact ⟨hkeep.mono fun a ha => .inl ha, .inl rfl, hw, hother, heq⟩

/-- The visit moves to a state, and the bus waits for nothing else. -/
theorem moves (h : s.EventFrom y i active) (hk : y.KeepsWords t (· = 0x40)) (h40 : visit = y.visit ∨ t.peek 0x40 = t.word40)
    (ht : t = { y with mem := t.mem, visit := visit, bus := bus }) : s.EventLeaves t i visit bus := by
  obtain ⟨hkeep, -, hw, hother, heq⟩ := h
  have hin : t.inputs = y.inputs := by rw [ht]
  refine ⟨hkeep.trans hk, h40.imp_left fun h => h.trans (by rw [heq]), by rw [inputs_eq_of hin]; exact hw, fun j hj => ?_, ?_⟩
  · rw [inputs_eq_of hin]
    exact hother j hj
  · rw [hin]
    conv_lhs => rw [ht, heq]

theorem sets (h : s.EventFrom y i active) {v : Visit} (hne : v.state ≠ s.visit.state) :
    s.EventLeaves (y.setVisitState v) i v s.bus := by
  have hvisit : y.visit = s.visit := by rw [h.2.2.2.2]
  have hbus : y.bus = s.bus := by rw [h.2.2.2.2]
  have hshown := setVisitState_shown (s := y) v (by rw [hvisit]; exact hne)
  have hkeep := setVisitState_keepsWords y v
  have heq := setVisitState_eq y v
  generalize y.setVisitState v = t at *
  exact h.moves hkeep (.inr hshown) (by rw [← hbus]; exact heq)

/-- An active event in a state other than OFF (R135). -/
theorem active_leaves (h : s.EventFrom y i active) (st : Stamp) :
    (s.visit.state = .starting ∨ s.visit.state = .on → s.EventLeaves (y.visitActive i st) i s.visit s.bus) ∧
      (s.visit.state = .leaving →
        s.EventLeaves (y.visitActive i st) i { s.visit with state := .on, endDue := none } s.bus) ∧
      (s.visit.state = .ending →
        s.EventLeaves (y.visitActive i st) i { s.visit with state := .on } { s.bus with visitPending := none }) := by
  have hvisit : y.visit = s.visit := by rw [h.2.2.2.2]
  have hbus : y.bus = s.bus := by rw [h.2.2.2.2]
  unfold visitActive
  rw [hvisit]
  refine ⟨fun hst => ?_, fun hst => ?_, fun hst => ?_⟩
  · rcases hst with hst | hst <;> rw [hst] <;> exact h.stays
  · rw [hst]
    exact h.sets (by rw [hst]; exact nofun)
  · rw [hst]
    have hshown := setVisitState_shown (s := y.cancelPending) { s.visit with state := .on } (by
      show VisitState.on ≠ y.visit.state
      rw [hvisit, hst]
      exact nofun)
    have hkeep := setVisitState_keepsWords y.cancelPending { s.visit with state := .on }
    have heq := setVisitState_eq y.cancelPending { s.visit with state := .on }
    show s.EventLeaves (y.cancelPending.setVisitState { s.visit with state := .on }) i _ _
    generalize y.cancelPending.setVisitState { s.visit with state := .on } = t at *
    refine h.moves hkeep (.inr hshown) (heq.trans ?_)
    rw [← hbus]
    rfl

/-- An inactive event in a state other than STARTING (R135). -/
theorem inactive_leaves (h : s.EventFrom y i active) :
    (s.visit.state = .off ∨ s.visit.state = .leaving ∨ s.visit.state = .ending → s.EventLeaves y.visitInactive i s.visit s.bus) ∧
      (s.visit.state = .on →
        s.EventLeaves y.visitInactive i
          (if s.settings.endDelay = 0 then { s.visit with state := .ending, endDue := none }
          else { s.visit with state := .leaving, endDue := some (s.now + seconds s.settings.endDelay) })
          (if s.settings.endDelay = 0 then s.busPending .remoteTake else s.bus)) := by
  have hvisit : y.visit = s.visit := by rw [h.2.2.2.2]
  have hset : y.settings = s.settings := by rw [h.2.2.2.2]
  have hnow : y.now = s.now := by
    unfold now
    rw [h.2.2.2.2]
  unfold visitInactive
  rw [hvisit]
  refine ⟨fun hst => ?_, fun hst => ?_⟩
  · rcases hst with hst | hst | hst <;> rw [hst] <;> exact h.stays
  · rw [hst]
    dsimp only
    rw [hset, hnow]
    split
    · obtain ⟨h40, hkeep, heq⟩ := visitEnding_ending (s := y) (by rw [hvisit, hst]; exact nofun) rfl
      rw [hvisit, busPending_congr (s := s) (by rw [h.2.2.2.2]) hset] at heq
      generalize y.visitEnding = t at *
      exact h.moves hkeep (.inr h40) heq
    · exact h.sets (by rw [hst]; exact nofun)

/-- An active event in OFF begins a visit, with no list to trigger (R135, R138). -/
theorem begins (h : s.EventFrom y i active) (hV : visit = { state := .starting, begin := s.time.timestamp, input := i, endDue := none })
    (hoff : s.visit.state = .off) (hlist : s.settings.visitList = none) (hroom : s.RoomFor k 4)
    (ht : t = y.visitActive i s.time.timestamp) :
    s.Recorded t k (visitRecord visit .begin) ∧ t.peek 0x40 = t.word40 ∧
      s.KeepsWords t (fun a => InputWord i a ∨ a = 0x40 ∨ s.RecordWord k 4 a) ∧ t.inputs = y.inputs ∧
      t =
        { s with
          mem := t.mem, inputs := t.inputs, visit, coll := s.collAfter 4, wake := s.raised .visit
          bus := s.busPending .localRelease } := by
  obtain ⟨hkeep, -, -, -, heq⟩ := h
  have hset : y.settings = s.settings := by rw [heq]
  have hcoll : y.coll = s.coll := by rw [heq]
  rw [visitActive_of_off (by rw [heq]; exact hoff)] at ht
  obtain ⟨hrec, h40, hk2, he2⟩ := visitBegin_begins hV (s := y) (by rw [heq]; exact hoff) (by rw [hset]; exact hlist)
    ((roomFor_congr hcoll hset).2 hroom) ht
  have hin : t.inputs = y.inputs := by rw [he2]
  refine ⟨(recorded_congr hcoll hset (by rw [heq])).1 hrec, h40, (hkeep.trans hk2).mono fun a ha => ?_, hin, ?_⟩
  · exact ha.imp_right fun ha => ha.imp_right (recordWord_congr hcoll hset a).1
  · rw [busPending_congr (s := s) (by rw [heq]) hset, raised_congr (t := y) (s := s) (by rw [heq]) (by rw [heq]) hset] at he2
    rw [show y.collAfter 4 = s.collAfter 4 by unfold collAfter; rw [hcoll]] at he2
    rw [hin]
    conv_lhs => rw [he2, heq]

/-- An inactive event in STARTING aborts the visit (R135). -/
theorem aborts (h : s.EventFrom y i active) (hst : s.visit.state = .starting) (hroom : s.RoomFor k 4) (ht : t = y.visitInactive) :
    s.Recorded t k (visitRecord s.visit .aborted) ∧ t.peek 0x40 = t.word40 ∧
      s.KeepsWords t (fun a => InputWord i a ∨ a = 0x40 ∨ s.RecordWord k 4 a) ∧ t.inputs = y.inputs ∧
      t =
        { s with
          mem := t.mem, inputs := t.inputs, visit := { s.visit with state := .off }, coll := s.collAfter 4
          bus := { s.bus with visitPending := none } } := by
  obtain ⟨hkeep, -, -, -, heq⟩ := h
  have hset : y.settings = s.settings := by rw [heq]
  have hcoll : y.coll = s.coll := by rw [heq]
  have hvisit : y.visit = s.visit := by rw [heq]
  have habort : y.visitInactive = y.visitAbort := by
    unfold visitInactive
    rw [hvisit, hst]
  rw [habort] at ht
  obtain ⟨h40, hrec, hk2, he2⟩ := visitAbort_aborted (s := y) (by rw [hvisit]; exact hst) ((roomFor_congr hcoll hset).2 hroom) ht
  have hin : t.inputs = y.inputs := by rw [he2]
  rw [hvisit, recorded_congr hcoll hset (by rw [heq])] at hrec
  refine ⟨hrec, h40, (hkeep.trans hk2).mono fun a ha => ?_, hin, ?_⟩
  · exact ha.imp_right fun ha => ha.imp_right (recordWord_congr hcoll hset a).1
  · rw [hvisit, show y.bus = s.bus by rw [heq], show y.collAfter 4 = s.collAfter 4 by unfold collAfter; rw [hcoll]] at he2
    rw [hin]
    conv_lhs => rw [he2, heq]

end EventFrom

/-! ### The visit input that settles at an apply (R126, R134) -/

/-- Where the visit is OFF, an apply that enables its input takes the settling at once as the event it is (log 14). -/
theorem applyInputs_begins (hin : ∀ j : Fin 16, j ≠ i → s.settings.inputs[j] = old.inputs[j]) (hv : s.settings.visitInput = some i)
    (hoff : s.visit.state = .off) (hre : resettles old.inputs[i] s.settings.inputs[i] = true) :
    s.applyInputs old = (applyStallTime old (applyEnable old s i) i).settleEvent i := by
  have hset : (applyStallTime old (applyEnable old s i) i).settings = s.settings := by simp
  have hvisit : (applyStallTime old (applyEnable old s i) i).visit = s.visit := by simp
  unfold applyInputs
  rw [applyFolds_one hin]
  generalize applyStallTime old (applyEnable old s i) i = w at *
  have hforced : w.visitForcedEnd = w := by
    unfold visitForcedEnd
    rw [hvisit, hoff]
  dsimp only
  rw [hforced, ite_self]
  unfold applySettleEvent
  rw [hset, hv]
  exact if_pos hre

end Sys2Proof.Machine.State

open Sys2Proof.Machine State in
/-- Settles O55: edges and settles of the visit input by the visit state, and the settling at an apply. -/
theorem visitInputBeginsAndEndsVisits : Obligations.VisitInputBeginsAndEndsVisits := by
  intro s i k hr x record begun
  refine ⟨?_, ?_⟩
  · intro hv g active alone edge settle leaves
    have hedge (cmd : Sys2Proof.Instr) (raw : Bool) (h : edge cmd raw) :
        ∃ y, s.EventFrom y i (active raw) ∧
          exec cmd s = .next (if active raw then y.visitActive i s.time.timestamp else y.visitInactive) := by
      obtain ⟨hcmd, hne, hrec, hwake, hquiet⟩ := h
      obtain ⟨y, hy, hcontact⟩ := contactEdge_event (raw := raw) hv hrec hwake hquiet
      refine ⟨y, hy, ?_⟩
      rw [← hcontact, ← endWindow_edge hne]
      rcases hcmd with ⟨rfl, rfl, due, hw, hdue⟩ | ⟨rfl, hen, htach, hd, hset⟩
      · exact exec_debounceExpiry hr hw hdue
      · rw [← contactRaw_edge hset hd]
        exact exec_rawChange hr hen htach raw
    have hsettle (cmd : Sys2Proof.Instr) (raw : Bool) (h : settle cmd raw) :
        ∃ y, s.EventFrom y i (active raw) ∧
          exec cmd s = .next (if active raw then y.visitActive i s.time.timestamp else y) := by
      rcases h with ⟨rfl, rfl, htach, due, hw, hdue⟩ | ⟨rfl, hen, htach, hd, hset⟩
      · obtain ⟨y, hy, hend⟩ := endFirstWindow_event (raw := x.raw) hv htach rfl
        exact ⟨y, hy, by rw [← hend]; exact exec_firstExpiry hr hw hdue⟩
      · obtain ⟨y, hy, hend⟩ := endFirstWindow_event (raw := raw) hv htach rfl
        refine ⟨y, hy, ?_⟩
        rw [← hend, ← contactRaw_settles hset hd]
        exact exec_rawChange hr hen htach raw
    refine ⟨fun cmd raw hcmd hactive => ?_, fun cmd raw hcmd hactive => ?_, fun cmd raw hcmd hactive => ?_⟩
    · obtain ⟨y, hy, hexec⟩ : ∃ y, s.EventFrom y i (active raw) ∧ exec cmd s = .next (y.visitActive i s.time.timestamp) := by
        rcases hcmd with h | h
        · obtain ⟨y, hy, hexec⟩ := hedge cmd raw h
          rw [if_pos hactive] at hexec
          exact ⟨y, hy, hexec⟩
        · obtain ⟨y, hy, hexec⟩ := hsettle cmd raw h
          rw [if_pos hactive] at hexec
          exact ⟨y, hy, hexec⟩
      obtain ⟨hstays, hleaving, hending⟩ := hy.active_leaves s.time.timestamp
      refine ⟨fun hoff hlist hroom => ⟨_, hexec, ?_⟩, fun hst => ⟨_, hexec, hstays hst⟩, fun hst => ⟨_, hexec, hleaving hst⟩,
        fun hst => ⟨_, hexec, hending hst⟩⟩
      obtain ⟨hrec, h40, hkeep, hin, heq⟩ := hy.begins (visit := begun) rfl hoff hlist hroom rfl
      refine ⟨hrec, h40, hkeep, ?_, fun j hj => ?_, heq⟩
      · rw [inputs_eq_of hin, hy.2.1, hactive]
      · rw [inputs_eq_of hin, hy.2.2.2.1 j hj]
    · obtain ⟨y, hy, hexec⟩ := hsettle cmd raw hcmd
      rw [if_neg (by rw [hactive]; exact nofun)] at hexec
      exact ⟨y, hexec, hy.stays⟩
    · obtain ⟨y, hy, hexec⟩ := hedge cmd raw hcmd
      rw [if_neg (by rw [hactive]; exact nofun)] at hexec
      obtain ⟨hstays, hon⟩ := hy.inactive_leaves
      refine ⟨fun hst => ⟨_, hexec, hstays hst⟩, fun hst => ⟨_, hexec, hon hst⟩, fun hst hroom => ⟨_, hexec, ?_⟩⟩
      obtain ⟨hrec, h40, hkeep, hin, heq⟩ := hy.aborts hst hroom rfl
      refine ⟨hrec, h40, hkeep, ?_, fun j hj => ?_, heq⟩
      · rw [inputs_eq_of hin, hy.2.1, hactive]
      · rw [inputs_eq_of hin, hy.2.2.2.1 j hj]
  · intro r hc hgood new g settled hquiet hone hnv hold hdis hen htach hd hraw hstall hoff hlist hroom
    obtain ⟨hgeo, hage, hlost, -, -, hchannels, hlevel⟩ := hquiet
    have hsame : SameGeometry s.settings (s.accepted new).settings := hgeo
    have hm := geometryMoves_same (new := new) hgeo
    have happ := applied_of_inputs (new := new) hm hage hlost hchannels
    have hin (j : Fin 16) (hj : j ≠ i) : new.inputs[j] = s.settings.inputs[j] := by
      have h : new.inputs[j] = (s.settings.inputs.set i g)[j] := by rw [← hone]
      exact h.trans (Vector.getElem_set_ne i.isLt j.isLt fun h => hj (Fin.ext h.symm))
    have hre := resettles_of_enabled (o := s.settings.inputs[i]) hen (.inl hdis)
    rw [applyInputs_begins (s := s.accepted new) (old := s.settings) hin hnv hoff hre,
      applyEnable_settles (s := s.accepted new) hre, settleInput_eq,
      if_neg (show ¬ ((s.accepted new).inputs[i]).stalled = true from fun h => Bool.noConfusion (hstall.symm.trans h))] at happ
    have hput := settled_contact (s := s.accepted new) (i := i) (tached := (s.settings.inputs[i]).tach || g.tach) htach
    rw [if_pos (show ((s.accepted new).settings.inputs[i]).debounce = 0 from hd)] at hput
    have hlev : isActive (s.accepted new).settings.inputs[i] ((s.accepted new).inputs[i]) = true := bne_iff_ne.2 hraw
    rw [hlev] at hput
    have hput := hput.stallTime (old := s.settings) rfl
    change s.applied new = (applyStallTime s.settings ((s.accepted new).settled i ((s.settings.inputs[i]).tach || g.tach)) i).settleEvent i
      at happ
    obtain ⟨w, hw⟩ : ∃ w : State, w = s.applied new := ⟨_, rfl⟩
    rw [← hw] at happ
    generalize applyStallTime s.settings ((s.accepted new).settled i ((s.settings.inputs[i]).tach || g.tach)) i = y at hput happ
    have hevent : (s.accepted new).EventFrom y i true := eventFrom_of_put
      (hput.1.mono fun a ha => by unfold InputWord; omega) rfl rfl hput.2.2.2
    have hinputs : y.inputs = s.inputs.set i settled := by rw [hput.2.2.2]; rfl
    have hactive : w = y.visitActive i (s.accepted new).time.timestamp := by
      rw [happ]
      unfold settleEvent
      rw [hput.settings, hput.input, show y.time = s.time by rw [hput.2.2.2]; rfl]
      exact if_pos ⟨hnv, rfl, rfl, fun h => Bool.noConfusion (htach.symm.trans h)⟩
    obtain ⟨hrec, h40, hkeep, hin, heq⟩ := hevent.begins (visit := begun) (k := k) rfl hoff hlist
      ((roomFor_geometry hsame rfl 4).2 hroom) hactive
    rw [hin, hinputs] at heq
    rw [recorded_geometry hsame rfl rfl] at hrec
    have hkeep : s.KeepsWords w fun a => InputWord i a ∨ a = 0x40 ∨ s.RecordWord k 4 a :=
      KeepsWords.mono (s := s) hkeep fun a ha => ha.imp_right fun ha => ha.imp_right (recordWord_geometry hsame rfl 4 a).1
    have hinput : Spares r (InputWord i) := spares_of_bounds fun a ha => by
      have := inputWord_bounds ha
      omega
    have hsp : Spares r fun a => InputWord i a ∨ a = 0x40 ∨ s.RecordWord k 4 a :=
      hinput.or ((spares_word (by decide)).or (spares_recordWord hroom))
    refine apply_answers hc hgood (new := new) rfl hm hlevel hw (by rw [heq]; rfl) (by rw [heq]; rfl)
      { s.under new with
        inputs := s.inputs.set i settled, visit := begun, coll := s.collAfter 4, wake := (s.under new).raised .visit
        bus := (s.under new).busPending .localRelease } hsp hkeep (by conv_lhs => rw [heq]
                                                                      rfl) rfl rfl fun t ht =>
      ⟨recorded_after hrec (by rw [ht.2]) fun a ha => ht.peek hsp (.inr (.inr ha)),
        ((ht.peek hsp (.inr (.inl rfl))).trans h40).trans ht.word40.symm⟩

end

section
/-! PROOFS. Channels that act one after another: stall and clear notices, and a change of tach input (R151, R155, R156; O57). -/

namespace Sys2Proof.Machine.State

variable {s t u v w y : State} {i k : Fin 16} {c d : Fin 4} {x z : Channel} {rs qs : List Record} {wake : WakeUnit} {r : Record}
  {raise : Bool}

/-! ## One channel that acts -/

/-- Channel `c` has the state `x` in `t`, and its mirror shows what changed of it (R144). -/
def ChannelGiven (s t : State) (c : Fin 4) (x : Channel) : Prop :=
  t.duty.channels[c] = x ∧
    (channelWord x ≠ channelWord s.duty.channels[c] → t.peek (0xA3 + 2 * c.val) = channelWord x) ∧
    s.Reshown t (0xA4 + 2 * c.val) (BitVec.ofNat 32 (s.duty.channels[c]).output) (BitVec.ofNat 32 x.output)

/-- Channel `c` has acted: its state is `x`, and it offered the records `rs`. -/
structure ChannelActed (s t : State) (c : Fin 4) (x : Channel) (rs : List Record) (k : Fin 16) (wake : WakeUnit) : Prop where
  room : s.RoomForAll k rs
  recs : s.RecordedAll t k rs
  given : s.ChannelGiven t c x
  keeps : s.KeepsWords t (fun a => ChannelWord c a ∨ s.RecordWords k rs a)
  rest : t = { s with mem := t.mem, coll := t.coll, wake, duty := s.withChannel c x }

theorem channelWord_bounds {a : Nat} (h : ChannelWord c a) : 0xA3 ≤ a ∧ a < 0xAB := by
  have := c.isLt
  unfold ChannelWord at h
  omega

theorem not_recordWords_channel (hroom : s.RoomForAll k rs) {a : Nat} (ha : ChannelWord c a) : ¬ s.RecordWords k rs a := fun h => by
  have := RecordWords.place hroom h
  have := channelWord_bounds ha
  omega

/-- A channel's state and mirror stand while its state and its words stand. -/
theorem ChannelGiven.congr (h : s.ChannelGiven t c x) (hx : u.duty.channels[c] = t.duty.channels[c])
    (hk : ∀ a, ChannelWord c a → u.peek a = t.peek a) : s.ChannelGiven u c x := by
  obtain ⟨hc, hlo, hhi⟩ := h
  exact ⟨hx.trans hc, fun hne => (hk _ (.inl rfl)).trans (hlo hne), (hk _ (.inr rfl)).trans hhi⟩

theorem ChannelGiven.since (h : v.ChannelGiven t c x) (hx : v.duty.channels[c] = s.duty.channels[c])
    (hk : ∀ a, ChannelWord c a → v.peek a = s.peek a) : s.ChannelGiven t c x := by
  obtain ⟨hc, hlo, hhi⟩ := h
  unfold Reshown at hhi
  rw [hx] at hlo hhi
  rw [hk _ (.inr rfl)] at hhi
  exact ⟨hc, hlo, hhi⟩

theorem channelGiven_self (hx : t.duty.channels[c] = s.duty.channels[c]) (hk : ∀ a, ChannelWord c a → t.peek a = s.peek a) :
    s.ChannelGiven t c s.duty.channels[c] :=
  ⟨hx, fun h => absurd rfl h, (hk _ (.inr rfl)).trans (if_pos rfl).symm⟩

theorem setChannel_acted (s : State) (c : Fin 4) (x : Channel) (k : Fin 16) : s.ChannelActed (s.setChannel c x) c x [] k s.wake where
  room := roomForAll_nil
  recs := .nil (by simp)
  given := by
    obtain ⟨hlo, hhi⟩ := setChannel_reshown s c x
    have hx : (s.setChannel c x).duty.channels[c] = x := by rw [setChannel_duty, withChannel_same]
    rw [hx] at hlo hhi
    exact ⟨hx, fun hne => hlo.trans (if_neg fun h => hne h.symm), hhi⟩
  keeps := (setChannel_keepsWords s c x).mono fun a ha => .inl ha
  rest := by
    have h := setChannel_eq s c x
    generalize s.setChannel c x = t at *
    rw [show t.coll = s.coll by rw [h]]
    exact h

namespace ChannelActed

theorem settings (h : s.ChannelActed t c x rs k wake) : t.settings = s.settings := by rw [h.rest]

theorem time (h : s.ChannelActed t c x rs k wake) : t.time = s.time := by rw [h.rest]

theorem shed (h : s.ChannelActed t c x rs k wake) : t.duty.shed = s.duty.shed := by rw [h.rest]; rfl

theorem channel (h : s.ChannelActed t c x rs k wake) : t.duty.channels[c] = x := h.given.1

/-- A further state of the channel, its output standing until then. -/
theorem sets (h : s.ChannelActed v c x rs k wake) (hout : x.output = (s.duty.channels[c]).output) (z : Channel) :
    s.ChannelActed (v.setChannel c z) c z rs k wake := by
  have hset := setChannel_acted v c z k
  obtain ⟨hx, hlo, hhi⟩ := h.given
  obtain ⟨hlo', hhi'⟩ := setChannel_reshown v c z
  have hrest := hset.rest
  have hkeep := hset.keeps
  have hz := hset.channel
  have hcoll := hset.recs.nil_coll
  generalize v.setChannel c z = t at *
  have hk (a : Nat) (ha : ¬ ChannelWord c a) : t.peek a = v.peek a := hkeep a fun h => h.elim ha recordWords_nil
  unfold Reshown at hlo' hhi' hhi
  rw [hx, hz] at hlo' hhi'
  rw [if_pos (by rw [hout])] at hhi
  rw [hout, hhi] at hhi'
  refine ⟨h.room, recordedAll_after h.recs hcoll fun a ha => hk a fun hc => not_recordWords_channel h.room hc ha,
    ⟨hz, fun hne => ?_, hhi'⟩, fun a ha => ?_, ?_⟩
  · by_cases hsame : channelWord x = channelWord z
    · rw [hlo', if_pos hsame, hlo (by rw [hsame]; exact hne), hsame]
    · rw [hlo', if_neg hsame]
  · simp only [not_or] at ha
    exact (hk a ha.1).trans (h.keeps a fun hb => hb.elim ha.1 ha.2)
  · have hduty : v.withChannel c z = s.withChannel c z := withChannel_withChannel (x := x) (by rw [h.rest]) z
    have hwake : v.wake = wake := by rw [h.rest]
    rw [hduty, hcoll, hwake] at hrest
    rw [hcoll]
    conv_lhs => rw [hrest, h.rest]

/-- A record offered. -/
theorem offers (h : s.ChannelActed v c x [] k wake) (hroom : s.RoomForAll k [r]) : s.ChannelActed (v.offer r) c x [r] k wake := by
  obtain ⟨hrec, hkeep, heq⟩ := offer_from (s := s) (u := v) (r := r) h.recs.nil_coll h.settings (by rw [h.time])
    (roomForAll_singleton.1 hroom)
  generalize v.offer r = t at *
  have hk (a : Nat) (ha : ¬ s.RecordWords k [r] a) : t.peek a = v.peek a := hkeep a fun hb => ha (recordWords_singleton_iff.2 hb)
  refine ⟨hroom, recordedAll_singleton hrec, h.given.congr (by rw [heq]) fun a ha => hk a (not_recordWords_channel hroom ha),
    fun a ha => ?_, ?_⟩
  · simp only [not_or] at ha
    exact (hk a ha.2).trans (h.keeps a fun hb => hb.elim ha.1 recordWords_nil)
  · rw [show t.coll = s.collAfter r.length by rw [heq]]
    conv_lhs => rw [heq, h.rest]

theorem raises (h : s.ChannelActed v c x rs k s.wake) : s.ChannelActed (v.raiseCause .stall) c x rs k (s.raised .stall) := by
  refine ⟨h.room, recordedAll_after h.recs rfl fun _ _ => rfl, h.given.congr rfl fun _ _ => rfl, fun a ha => h.keeps a ha, ?_⟩
  rw [raiseCause_eq, raised_congr (t := v) (s := s) (by rw [h.rest]) h.shed h.settings]
  conv_lhs => rw [h.rest]

end ChannelActed

/-! ### The notices (R151, R155, R156) -/

/-- A channel at the beginning of an episode (R152). -/
def inEpisode (s : State) (x : Channel) : Channel :=
  { x with used := 1, burst := .burst (s.now + seconds 2), output := 255, handed := false }

theorem beginEpisode_eq (hx : s.duty.channels[c] = x) :
    s.beginEpisode c =
      ((s.setChannel c (s.inEpisode x)).offer (stallRecord c (s.tachOf c) .begin 1)).raiseCause .stall := by
  subst hx
  rfl

/-- An episode that begins at a channel just given a state with the output it had. -/
theorem beginEpisode_acted (hv : s.ChannelActed v c x [] k s.wake) (hout : x.output = (s.duty.channels[c]).output)
    (hroom : s.RoomForAll k [stallRecord c (s.tachOf c) .begin 1]) :
    s.ChannelActed (v.beginEpisode c) c (s.inEpisode x) [stallRecord c (s.tachOf c) .begin 1] k (s.raised .stall) := by
  have htach : v.tachOf c = s.tachOf c := by
    unfold tachOf
    rw [hv.settings]
  have hepisode : v.inEpisode x = s.inEpisode x := by
    unfold inEpisode now
    rw [hv.time]
  rw [beginEpisode_eq hv.channel, htach, hepisode]
  exact ((hv.sets hout (s.inEpisode x)).offers hroom).raises

/-- The records of an episode that begins at a channel, where one does. -/
def beginRecords (s : State) (c : Fin 4) (begins : Bool) : List Record :=
  if begins then [stallRecord c (s.tachOf c) .begin 1] else []

/-- A channel given a state with the output it had, where an episode may begin. -/
theorem mayBegin_acted {begins : Bool} (hout : x.output = (s.duty.channels[c]).output)
    (hroom : s.RoomForAll k (s.beginRecords c begins)) :
    s.ChannelActed (if begins then (s.setChannel c x).beginEpisode c else s.setChannel c x) c
      (if begins then s.inEpisode x else x) (s.beginRecords c begins) k (if begins then s.raised .stall else s.wake) := by
  cases begins
  · exact setChannel_acted s c x k
  · exact beginEpisode_acted (setChannel_acted s c x k) hout hroom

/-- A stall notice reaches a channel (R151, R152). -/
theorem stallChannel_acted {begins : Bool}
    (hb : begins = decide ((s.duty.channels[c]).burst = .none ∧ 0 < (s.duty.channels[c]).output ∧ (s.duty.channels[c]).mode ≠ .off))
    (hroom : s.RoomForAll k (s.beginRecords c begins)) :
    s.ChannelActed (s.stallChannel c) c
      (if begins then s.inEpisode { s.duty.channels[c] with stalled := true } else { s.duty.channels[c] with stalled := true })
      (s.beginRecords c begins) k (if begins then s.raised .stall else s.wake) := by
  have hstall : s.stallChannel c =
      if begins then (s.setChannel c { s.duty.channels[c] with stalled := true }).beginEpisode c
      else s.setChannel c { s.duty.channels[c] with stalled := true } := by
    rw [hb]
    simp only [decide_eq_true_eq]
    rfl
  rw [hstall]
  exact mayBegin_acted rfl hroom

/-- A channel whose tach input is another takes the flag of the input it names (R156). -/
theorem retachChannel_acted {begins stalled : Bool} (hs : stalled = ((s.tachOf c).map fun i => (s.inputs[i]).stalled).getD false)
    (hb : begins = decide (stalled = true ∧ 0 < (s.duty.channels[c]).output ∧ (s.duty.channels[c]).mode ≠ .off))
    (hx : x = { s.duty.channels[c] with stalled := stalled, burst := .none, used := 0, handed := false })
    (hroom : s.RoomForAll k (s.beginRecords c begins)) :
    s.ChannelActed (s.retachChannel c) c (if begins then s.inEpisode x else x) (s.beginRecords c begins) k
      (if begins then s.raised .stall else s.wake) := by
  have hretach : s.retachChannel c = if begins then (s.setChannel c x).beginEpisode c else s.setChannel c x := by
    rw [hb, hx, hs]
    simp only [decide_eq_true_eq]
    rfl
  rw [hretach]
  exact mayBegin_acted (by rw [hx]) hroom

/-- The records of a clear notice at a channel: CLEAR where an episode is in progress (R155). -/
def clearRecords (s : State) (c : Fin 4) : List Record :=
  if (s.duty.channels[c]).burst = .none then [] else [stallRecord c (s.tachOf c) .clear (s.duty.channels[c]).used]

/-- A clear notice reaches a channel (R151, R155). -/
theorem clearChannel_acted (hroom : s.RoomForAll k (s.clearRecords c)) :
    s.ChannelActed (s.clearChannel c) c
      (if (s.duty.channels[c]).burst = .none then { s.duty.channels[c] with stalled := false, handed := false }
      else { s.duty.channels[c] with stalled := false, burst := .none, used := 0, handed := false })
      (s.clearRecords c) k s.wake := by
  unfold clearRecords at *
  unfold clearChannel
  dsimp only
  split
  · exact setChannel_acted s c _ k
  next hb =>
    rw [if_neg hb] at hroom
    have hset := setChannel_acted s c { s.duty.channels[c] with stalled := false, burst := .none, handed := false } k
    generalize s.setChannel c { s.duty.channels[c] with stalled := false, burst := .none, handed := false } = v at *
    have htach : v.tachOf c = s.tachOf c := by
      unfold tachOf
      rw [hset.settings]
    rw [htach]
    have hoffer := hset.offers hroom
    generalize v.offer (stallRecord c (s.tachOf c) .clear (s.duty.channels[c]).used) = w at *
    rw [hoffer.channel]
    exact hoffer.sets rfl _

end Sys2Proof.Machine.State

namespace Sys2Proof.Machine.State

variable {s t u v w y : State} {i k : Fin 16} {c d : Fin 4} {rs qs : List Record} {raise : Bool} {f : State → Fin 4 → State}
  {acts : Fin 4 → Bool} {x : Fin 4 → Channel} {recs : Fin 4 → List Record} {l : List (Fin 4)}

/-! ## Channels one after another (log 28) -/

/-- The Wake Unit after channels that offered records, where their records raise STALL. -/
def wakeOf (s : State) (raise : Bool) (rs : List Record) : WakeUnit :=
  if raise = true ∧ rs ≠ [] then s.raised .stall else s.wake

theorem wakeOf_append (hw : v.wake = s.wakeOf raise rs) (hd : v.duty.shed = s.duty.shed) (hs : v.settings = s.settings) :
    v.wakeOf raise qs = s.wakeOf raise (rs ++ qs) := by
  unfold wakeOf at *
  by_cases hq : raise = true ∧ qs ≠ []
  · rw [if_pos hq, if_pos ⟨hq.1, List.append_ne_nil_of_right_ne_nil rs hq.2⟩]
    by_cases hr : raise = true ∧ rs ≠ []
    · exact raised_raised (by rw [hw, if_pos hr]) hd hs
    · exact raised_congr (by rw [hw, if_neg hr]) hd hs _
  · rw [if_neg hq, hw]
    rcases Bool.eq_false_or_eq_true raise with hr | hr
    · rw [not_and.1 hq hr |> not_not.1, List.append_nil]
    · rw [if_neg fun h => Bool.noConfusion (hr.symm.trans h.1), if_neg fun h => Bool.noConfusion (hr.symm.trans h.1)]

/-- `y` is `s` but for memory, the Collection Buffer, the causes and the channels. -/
def DutyAside (s y : State) : Prop :=
  y = { s with mem := y.mem, coll := y.coll, wake := y.wake, duty := { s.duty with channels := y.duty.channels } }

/-- The channels of a list have acted one after another, those that `acts` names. -/
structure ChannelsActed (s t : State) (l : List (Fin 4)) (acts : Fin 4 → Bool) (x : Fin 4 → Channel) (rs : List Record)
    (raise : Bool) (k : Fin 16) : Prop where
  recs : s.RecordedAll t k rs
  given : ∀ c ∈ l, s.ChannelGiven t c (x c)
  others : ∀ c, c ∉ l → t.duty.channels[c] = s.duty.channels[c]
  keeps : s.KeepsWords t (fun a => (∃ c ∈ l, acts c = true ∧ ChannelWord c a) ∨ s.RecordWords k rs a)
  rest : t = { s with mem := t.mem, coll := t.coll, wake := s.wakeOf raise rs, duty := { s.duty with channels := t.duty.channels } }

theorem ChannelsActed.aside (h : s.ChannelsActed t l acts x rs raise k) : s.DutyAside t := by
  unfold DutyAside
  rw [show t.wake = s.wakeOf raise rs by rw [h.rest]]
  exact h.rest

/-- A channel of the list that does not act. -/
theorem ChannelsActed.skip (h : s.ChannelsActed t l acts x rs raise k) (hroom : s.RoomForAll k rs) (hc : c ∉ l)
    (hx : x c = s.duty.channels[c]) : s.ChannelsActed t (l ++ [c]) acts x rs raise k := by
  refine ⟨h.recs, fun d hd => ?_, fun d hd => h.others d fun hm => hd (List.mem_append_left _ hm), h.keeps.mono fun a ha => ?_, h.rest⟩
  · rcases List.mem_append.1 hd with hd | hd
    · exact h.given d hd
    · rw [List.mem_singleton.1 hd, hx]
      refine channelGiven_self (h.others c hc) fun a ha => h.keeps a fun hb => ?_
      rcases hb with ⟨e, he, -, hae⟩ | hb
      · exact channelWord_other (d := e) (fun hec => by rw [hec] at he; exact hc he) ha hae
      · exact not_recordWords_channel hroom ha hb
  · exact ha.imp_left fun ⟨e, he, hae⟩ => ⟨e, List.mem_append_left _ he, hae⟩

/-- A channel that acts behind the channels of a list. -/
theorem ChannelsActed.snoc (h : s.ChannelsActed v l acts x rs raise k) (hroom : s.RoomForAll k (rs ++ qs)) (hc : c ∉ l)
    (hacts : acts c = true) (hone : v.ChannelActed t c (x c) qs k (v.wakeOf raise qs)) :
    s.ChannelsActed t (l ++ [c]) acts x (rs ++ qs) raise k := by
  have hset : v.settings = s.settings := by rw [h.rest]
  have htime : v.time.timestamp = s.time.timestamp := by rw [h.rest]
  have hother (d : Fin 4) (hd : d ≠ c) : t.duty.channels[d] = v.duty.channels[d] := by
    rw [show t.duty = v.withChannel c (x c) by rw [hone.rest]]
    exact withChannel_other v (x c) hd
  have hwords {a : Nat} (ha : ChannelWord c a ∨ v.RecordWords k qs a) : ChannelWord c a ∨ s.RecordWords k (rs ++ qs) a :=
    ha.imp_right (recordWords_behind h.recs hset htime)
  refine ⟨?_, fun d hd => ?_, fun d hd => ?_, fun a ha => ?_, ?_⟩
  · refine RecordedAll.append h.recs hone.recs hset htime hroom fun a ha hna => hone.keeps a fun hb => hb.elim (fun hw => ?_) hna
    exact not_recordWords_channel hroom.left hw ha
  · by_cases hdc : d = c
    · subst hdc
      refine hone.given.since (h.others d hc) fun a ha => h.keeps a fun hb => ?_
      rcases hb with ⟨e, he, -, hae⟩ | hb
      · exact channelWord_other (d := e) (fun hec => by rw [hec] at he; exact hc he) ha hae
      · exact not_recordWords_channel hroom.left ha hb
    · have hdl : d ∈ l := (List.mem_append.1 hd).resolve_right fun hm => hdc (List.mem_singleton.1 hm)
      refine (h.given d hdl).congr (hother d hdc) fun a ha => hone.keeps a fun hb => ?_
      exact hb.elim (channelWord_other (fun hcd => hdc hcd.symm) ha) (not_recordWords_channel hone.room ha)
  · have hdc : d ≠ c := fun hdc => hd (by simp [hdc])
    rw [hother d hdc]
    exact h.others d fun hm => hd (List.mem_append_left _ hm)
  · simp only [not_or] at ha
    refine (hone.keeps a fun hb => ?_).trans (h.keeps a fun hb => ?_)
    · exact (hwords hb).elim (fun hw => ha.1 ⟨c, by simp, hacts, hw⟩) ha.2
    · exact hb.elim (fun ⟨e, he, hae⟩ => ha.1 ⟨e, List.mem_append_left _ he, hae⟩) fun hb => ha.2 (recordWords_before hb)
  · have hwake := wakeOf_append (qs := qs) (show v.wake = s.wakeOf raise rs by rw [h.rest]) (by rw [h.rest]) hset
    have hduty : t.duty = { s.duty with channels := t.duty.channels } := by
      rw [hone.rest, h.rest]
      rfl
    have hrest := hone.rest
    rw [hwake, show v.withChannel c (x c) = t.duty by rw [hone.rest]] at hrest
    rw [← hduty]
    conv_lhs => rw [hrest, h.rest]

/-- A notice, or an apply, that works at the channels one after another (R151, R156). -/
theorem channels_fold (hskip : ∀ y c, s.DutyAside y → acts c = false → f y c = y)
    (hact : ∀ y c, s.DutyAside y → y.duty.channels[c] = s.duty.channels[c] → acts c = true → y.RoomForAll k (recs c) →
      y.ChannelActed (f y c) c (x c) (recs c) k (y.wakeOf raise (recs c)))
    (hnone : ∀ c, acts c = false → recs c = [] ∧ x c = s.duty.channels[c]) (hnodup : l.Nodup)
    (hroom : s.RoomForAll k (l.flatMap recs)) : s.ChannelsActed (l.foldl f s) l acts x (l.flatMap recs) raise k := by
  induction l using List.reverseRecOn with
  | nil =>
    refine ⟨.nil rfl, nofun, fun _ _ => rfl, fun _ _ => rfl, ?_⟩
    show s = { s with wake := s.wakeOf raise [] }
    rw [show s.wakeOf raise [] = s.wake from if_neg fun h => h.2 rfl]
  | append_singleton l c ih =>
    have hflat : (l ++ [c]).flatMap recs = l.flatMap recs ++ recs c := by simp
    rw [hflat] at hroom ⊢
    have h := ih (List.nodup_append.1 hnodup).1 hroom.left
    have hc : c ∉ l := fun hm => (List.nodup_append.1 hnodup).2.2 c hm c List.mem_cons_self rfl
    rw [List.foldl_append, List.foldl_cons, List.foldl_nil]
    cases hacts : acts c
    · obtain ⟨hrec, hx⟩ := hnone c hacts
      rw [hskip _ c h.aside hacts, hrec, List.append_nil]
      rw [hrec, List.append_nil] at hroom
      exact h.skip hroom hc hx
    · exact h.snoc hroom hc hacts (hact _ c h.aside (h.others c hc) hacts
        (roomForAll_behind h.recs (by rw [h.rest]) (by rw [h.rest]) hroom))

end Sys2Proof.Machine.State

end

section
/-! PROOFS. Stall notices, clear notices and changes of tach input (R151, R152, R155, R156; O57). -/

namespace Sys2Proof.Machine.State

variable {s t u v w y p : State} {i k : Fin 16} {c : Fin 4} {rs : List Record} {raise : Bool} {acts : Fin 4 → Bool}
  {x : Fin 4 → Channel} {x' : Input} {time : TimeBase} {old new : Settings}

/-! ## Notices at every channel (R151) -/

/-- Whether a stall notice begins an episode at a channel (R152). -/
def beginsAt (s : State) (c : Fin 4) : Bool :=
  decide ((s.duty.channels[c]).burst = .none ∧ 0 < (s.duty.channels[c]).output ∧ (s.duty.channels[c]).mode ≠ .off)

/-- The channel a stall notice leaves. -/
def stalledChannel (s : State) (i : Fin 16) (c : Fin 4) : Channel :=
  if s.tachOf c = some i then
    if s.beginsAt c then s.inEpisode { s.duty.channels[c] with stalled := true } else { s.duty.channels[c] with stalled := true }
  else s.duty.channels[c]

/-- The channel a clear notice leaves. -/
def freedChannel (s : State) (i : Fin 16) (c : Fin 4) : Channel :=
  if s.tachOf c = some i then
    if (s.duty.channels[c]).burst = .none then { s.duty.channels[c] with stalled := false, handed := false }
    else { s.duty.channels[c] with stalled := false, burst := .none, used := 0, handed := false }
  else s.duty.channels[c]

section
variable (h : s.DutyAside y)
include h

theorem DutyAside.tachOf : y.tachOf c = s.tachOf c := by
  unfold State.tachOf
  rw [h]

theorem DutyAside.inEpisode (z : Channel) : y.inEpisode z = s.inEpisode z := by
  unfold State.inEpisode now
  rw [h]

theorem DutyAside.beginRecords (b : Bool) : y.beginRecords c b = s.beginRecords c b := by
  unfold State.beginRecords
  rw [h.tachOf]

end

theorem beginRecords_wakeOf (s : State) (c : Fin 4) (b : Bool) :
    (if b then s.raised .stall else s.wake) = s.wakeOf true (s.beginRecords c b) := by
  cases b
  · rfl
  · exact (if_pos ⟨rfl, List.cons_ne_nil _ _⟩).symm

theorem stallNotice_acted
    (hroom : s.RoomForAll k ((List.finRange 4).flatMap fun c => s.beginRecords c (decide (s.tachOf c = some i) && s.beginsAt c))) :
    s.ChannelsActed (s.stallNotice i) (List.finRange 4) (fun c => decide (s.tachOf c = some i)) (s.stalledChannel i)
      ((List.finRange 4).flatMap fun c => s.beginRecords c (decide (s.tachOf c = some i) && s.beginsAt c)) true k := by
  refine channels_fold (fun y c hy hno => ?_) (fun y c hy hx hacts hroom => ?_) (fun c hno => ?_) (List.nodup_finRange 4) hroom
  · exact if_neg (by rw [hy.tachOf]; exact of_decide_eq_false hno)
  · have htach := of_decide_eq_true hacts
    simp only [hacts, Bool.true_and] at hroom ⊢
    have hone := stallChannel_acted (s := y) (c := c) (k := k) rfl (by rw [hx, hy.beginRecords]; exact hroom)
    rw [beginRecords_wakeOf, hx, hy.beginRecords, hy.inEpisode] at hone
    rw [if_pos (by rw [hy.tachOf]; exact htach)]
    unfold stalledChannel
    rw [if_pos htach]
    exact hone
  · refine ⟨by rw [hno]; rfl, if_neg (of_decide_eq_false hno)⟩

theorem clearNotice_acted
    (hroom : s.RoomForAll k ((List.finRange 4).flatMap fun c => if s.tachOf c = some i then s.clearRecords c else [])) :
    s.ChannelsActed (s.clearNotice i) (List.finRange 4) (fun c => decide (s.tachOf c = some i)) (s.freedChannel i)
      ((List.finRange 4).flatMap fun c => if s.tachOf c = some i then s.clearRecords c else []) false k := by
  refine channels_fold (fun y c hy hno => ?_) (fun y c hy hx hacts hroom => ?_) (fun c hno => ?_) (List.nodup_finRange 4) hroom
  · exact if_neg (by rw [hy.tachOf]; exact of_decide_eq_false hno)
  · have htach := of_decide_eq_true hacts
    have hclear : y.clearRecords c = s.clearRecords c := by
      unfold clearRecords
      rw [hx, hy.tachOf]
    rw [if_pos htach] at hroom ⊢
    have hone := clearChannel_acted (s := y) (c := c) (k := k) (by rw [hclear]; exact hroom)
    rw [hx, hclear] at hone
    rw [if_pos (by rw [hy.tachOf]; exact htach)]
    unfold freedChannel
    rw [if_pos htach]
    exact hone
  · have hno := of_decide_eq_false hno
    exact ⟨if_neg hno, if_neg hno⟩

/-- What a notice leaves, seen from before the input was put. -/
theorem notice_since (hword : p.peek (inputAddr i + 1) = BitVec.ofNat 32 x'.period)
    (hkeep : s.KeepsWords p (fun a => a = inputAddr i ∨ a = inputAddr i + 1))
    (hp : p = { s with mem := p.mem, time, inputs := s.inputs.set i x' }) (htime : time.timestamp = s.time.timestamp)
    (hroom : s.RoomForAll k rs) (h : p.ChannelsActed t (List.finRange 4) acts x rs raise k) :
    t.peek (inputAddr i + 1) = BitVec.ofNat 32 x'.period ∧ s.RecordedAll t k rs ∧ (∀ c, s.ChannelGiven t c (x c)) ∧
      s.KeepsWords t (fun a =>
        a = inputAddr i ∨ a = inputAddr i + 1 ∨ (∃ c, acts c = true ∧ ChannelWord c a) ∨ s.RecordWords k rs a) ∧
      t =
        { s with
          mem := t.mem, time, wake := s.wakeOf raise rs, inputs := s.inputs.set i x', coll := t.coll
          duty := { s.duty with channels := t.duty.channels } } := by
  have hb := inputAddr_bounds i
  have hc : p.coll = s.coll := by rw [hp]
  have hs : p.settings = s.settings := by rw [hp]
  have hd : p.duty = s.duty := by rw [hp]
  have ht : p.time.timestamp = s.time.timestamp := by rw [hp]; exact htime
  refine ⟨?_, (recordedAll_congr hc hs ht).1 h.recs, fun c => ?_, fun a ha => ?_, ?_⟩
  · refine (h.keeps _ fun hw => ?_).trans hword
    rcases hw with ⟨c, -, -, hw⟩ | hw
    · have := channelWord_bounds hw
      omega
    · have := RecordWords.place hroom ((recordWords_congr_iff hc hs ht _).1 hw)
      omega
  · refine (h.given c (List.mem_finRange c)).since (by rw [hd]) fun a ha => hkeep a fun hw => ?_
    have := channelWord_bounds ha
    omega
  · simp only [not_or] at ha
    refine (h.keeps a fun hw => ?_).trans (hkeep a fun hw => hw.elim ha.1 ha.2.1)
    exact hw.elim (fun ⟨c, _, hw⟩ => ha.2.2.1 ⟨c, hw⟩) fun hw => ha.2.2.2 ((recordWords_congr_iff hc hs ht a).1 hw)
  · have hwake : p.wakeOf raise rs = s.wakeOf raise rs := by
      unfold wakeOf
      rw [raised_congr (t := p) (s := s) (by rw [hp]) (by rw [hd]) hs, show p.wake = s.wake by rw [hp]]
    have hrest := h.rest
    rw [hwake, hd] at hrest
    conv_lhs => rw [hrest, hp]

theorem wakeOf_raising (s : State) (rs : List Record) : s.wakeOf true rs = if rs = [] then s.wake else s.raised .stall := by
  unfold wakeOf
  by_cases h : rs = []
  · rw [if_pos h, if_neg fun h' => h'.2 h]
  · rw [if_neg h, if_pos ⟨rfl, h⟩]

theorem wakeOf_silent (s : State) (rs : List Record) : s.wakeOf false rs = s.wake := if_neg fun h => Bool.noConfusion h.1

/-- Records offered one behind another, in the order of a list. -/
theorem filterMap_records {α β : Type} {l : List α} {f : α → Option β} {g : α → List β} (h : ∀ a, (f a).toList = g a) :
    l.filterMap f = l.flatMap g := by
  rw [List.filterMap_eq_flatMap_toList]
  exact congrArg (l.flatMap ·) (funext h)

/-! ## A change of tach input at an apply (R156) -/

theorem applied_of_channels (hm : geometryMoves s.settings new = false) (hage : new.closeAge = s.settings.closeAge)
    (hlost : new.lostLimit = s.settings.lostLimit) (hin : new.inputs = s.settings.inputs)
    (hv : new.visitInput = s.settings.visitInput) : s.applied new = (s.accepted new).applyChannels s.settings := by
  unfold applied
  rw [applyCollection_same (s := s.accepted new) hm hage, applyBus_same (s := s.accepted new) hlost,
    applyInputs_same (s := s.accepted new) hin hv]

/-- The flag of the input a channel names. -/
def namedStall (s : State) (c : Fin 4) : Bool :=
  match s.tachOf c with
  | some i => (s.inputs[i]).stalled
  | none => false

/-- Whether a change of tach input begins an episode at a channel. -/
def retachBegins (s : State) (c : Fin 4) : Bool :=
  decide (s.namedStall c = true ∧ 0 < (s.duty.channels[c]).output ∧ (s.duty.channels[c]).mode ≠ .off)

/-- The channel that takes another tach input. -/
def retached (s : State) (c : Fin 4) : Channel :=
  let x := { s.duty.channels[c] with stalled := s.namedStall c, burst := .none, used := 0, handed := false }
  if s.retachBegins c then s.inEpisode x else x

theorem applyChannels_acted
    (hroom : s.RoomForAll k ((List.finRange 4).flatMap fun c =>
      s.beginRecords c (decide (s.tachOf c ≠ (old.channels[c]).tach) && s.retachBegins c))) :
    s.ChannelsActed (s.applyChannels old) (List.finRange 4) (fun c => decide (s.tachOf c ≠ (old.channels[c]).tach))
      (fun c => if s.tachOf c = (old.channels[c]).tach then s.duty.channels[c] else s.retached c)
      ((List.finRange 4).flatMap fun c =>
        s.beginRecords c (decide (s.tachOf c ≠ (old.channels[c]).tach) && s.retachBegins c)) true k := by
  refine channels_fold (fun y c hy hno => ?_) (fun y c hy hx hacts hroom => ?_) (fun c hno => ?_) (List.nodup_finRange 4) hroom
  · refine if_neg fun h => of_decide_eq_false hno ?_
    rw [← hy.tachOf]
    exact h
  · have hmoves := of_decide_eq_true hacts
    simp only [hacts, Bool.true_and] at hroom ⊢
    have hstall : s.namedStall c = ((y.tachOf c).map fun i => (y.inputs[i]).stalled).getD false := by
      unfold namedStall
      rw [hy.tachOf, show y.inputs = s.inputs by rw [hy]]
      cases s.tachOf c <;> rfl
    have hone := retachChannel_acted (s := y) (c := c) (k := k) hstall (begins := s.retachBegins c) (by rw [hx]; rfl) rfl
      (by rw [hy.beginRecords]; exact hroom)
    rw [beginRecords_wakeOf, hx, hy.beginRecords, hy.inEpisode] at hone
    rw [if_pos (show (y.settings.channels[c]).tach ≠ (old.channels[c]).tach from hy.tachOf ▸ hmoves), if_neg hmoves]
    exact hone
  · have hsame := not_not.1 (of_decide_eq_false hno)
    exact ⟨by rw [hno]; rfl, if_pos hsame⟩

end Sys2Proof.Machine.State

open Sys2Proof.Machine State in
/-- Settles O57: stall and clear notices at every channel that names the input, and changes of tach input at an apply. -/
theorem stallNoticesReachChannels : Obligations.StallNoticesReachChannels := by
  intro s k ch tach record episode may shows
  refine ⟨?_, ?_⟩
  · intro i hr hen htach x begins begun ended acts
    refine ⟨fun m hm hdue hroom => ?_, ?_⟩
    · have hexec := exec_stallExpiry hr hen htach hm hdue
      obtain ⟨hword, hkeep, hp⟩ := putPeriod_written s i
        { s.inputs[i] with stalled := true, period := 65535, lastEdge := none, stallFrom := none }
      unfold stallInput at hexec
      generalize s.putPeriod i { s.inputs[i] with stalled := true, period := 65535, lastEdge := none, stallFrom := none } = p at *
      have hd : p.duty = s.duty := by rw [hp]
      have hset : p.settings = s.settings := by rw [hp]
      have hnow : p.now = s.now := by
        unfold now
        rw [hp]
      have hbegun : begun = (List.finRange 4).flatMap fun c => p.beginRecords c (decide (p.tachOf c = some i) && p.beginsAt c) :=
        filterMap_records fun c => by
          unfold beginRecords beginsAt tachOf
          rw [hd, hset, ← Bool.decide_and]
          simp only [decide_eq_true_eq]
          by_cases h : begins c
          · rw [if_pos h, if_pos h, stallRecord_eq, show (s.settings.channels[c]).tach = some i from h.1]
            rfl
          · rw [if_neg h, if_neg h]
            rfl
      rw [hbegun] at hroom ⊢
      have hacted := stallNotice_acted (s := p) (k := k) (i := i)
        ((roomForAll_congr (s := s) (by rw [hp]) hset (by rw [hp])).2 hroom)
      generalize p.stallNotice i = t at *
      obtain ⟨hperiod, hrecs, hgiven, hkeeps, heq⟩ := notice_since (s := s) (time := s.time) hword hkeep hp rfl hroom hacted
      rw [wakeOf_raising] at heq
      refine ⟨t, hexec, hperiod, hrecs, fun c => ?_, hkeeps.mono fun a ha => ?_, heq⟩
      · have h := hgiven c
        unfold stalledChannel beginsAt inEpisode tachOf at h
        rw [hd, hset, hnow] at h
        simp only [decide_eq_true_eq] at h
        exact h
      · refine ha.imp_right fun ha => ha.imp_right fun ha => ha.imp_left fun ⟨c, hc, hw⟩ => ⟨c, ?_, hw⟩
        have hc := of_decide_eq_true hc
        unfold tachOf at hc
        rw [hset] at hc
        exact hc
    · intro m elapsed hstalled hlast now hroom
      have hexec : exec (.tachActiveEdge i elapsed) s = .next ((s.atEdge i elapsed).tachEdge i) := exec_tachEdge hr hen htach elapsed
      obtain ⟨hword, hkeep, hp⟩ := atEdge_putPeriod s i elapsed { s.tachEdged i elapsed with
        period := min (s.now + elapsed - m) 65535, stalled := false, stallFrom := some (s.now + elapsed) }
      rw [tachEdge_measures hlast] at hexec
      generalize (s.atEdge i elapsed).putPeriod i { s.tachEdged i elapsed with
        period := min (s.now + elapsed - m) 65535, stalled := false, stallFrom := some (s.now + elapsed) } = p at *
      dsimp only at hexec
      rw [if_pos hstalled] at hexec
      have hd : p.duty = s.duty := by rw [hp]
      have hset : p.settings = s.settings := by rw [hp]
      have hended : ended = (List.finRange 4).flatMap fun c => if p.tachOf c = some i then p.clearRecords c else [] :=
        filterMap_records fun c => by
          unfold clearRecords tachOf
          rw [hd, hset]
          by_cases h : (s.settings.channels[c]).tach = some i
          · by_cases hb : (s.duty.channels[c]).burst = .none
            · rw [if_neg fun h' => h'.2 hb, if_pos h, if_pos hb]
              rfl
            · rw [if_pos ⟨h, hb⟩, if_pos h, if_neg hb, stallRecord_eq, h]
              rfl
          · rw [if_neg fun h' => h h'.1, if_neg h]
            rfl
      rw [hended] at hroom ⊢
      have hacted := clearNotice_acted (s := p) (k := k) (i := i)
        ((roomForAll_congr (s := s) (by rw [hp]) hset (by rw [hp])).2 hroom)
      generalize p.clearNotice i = t at *
      obtain ⟨hperiod, hrecs, hgiven, hkeeps, heq⟩ := notice_since (s := s) (time := { s.time with base := s.now + elapsed }) hword hkeep
        hp rfl hroom hacted
      rw [wakeOf_silent] at heq
      refine ⟨t, hexec, hperiod, hrecs, fun c => ?_, hkeeps.mono fun a ha => ?_, heq⟩
      · have h := hgiven c
        unfold freedChannel tachOf at h
        rw [hd, hset] at h
        exact h
      · refine ha.imp_right fun ha => ha.imp_right fun ha => ha.imp_left fun ⟨c, hc, hw⟩ => ⟨c, ?_, hw⟩
        have hc := of_decide_eq_true hc
        unfold tachOf at hc
        rw [hset] at hc
        exact hc
  · intro r hc hgood new tach' stalled begins rs after hquiet hroom
    obtain ⟨hgeo, hage, hlost, hin, hv, -, hlevel⟩ := hquiet
    have hsame : SameGeometry s.settings (s.accepted new).settings := hgeo
    have hm := geometryMoves_same (new := new) hgeo
    have happ := applied_of_channels (new := new) hm hage hlost hin hv
    have hstall (c : Fin 4) : (s.accepted new).namedStall c = stalled c := rfl
    have hrs : rs = (List.finRange 4).flatMap fun c =>
        (s.accepted new).beginRecords c
          (decide ((s.accepted new).tachOf c ≠ (s.settings.channels[c]).tach) && (s.accepted new).retachBegins c) :=
      filterMap_records fun c => by
        unfold beginRecords retachBegins
        rw [hstall, ← Bool.decide_and]
        simp only [decide_eq_true_eq]
        by_cases h : begins c
        · rw [if_pos h]
          refine Eq.trans ?_ (if_pos h).symm
          rw [stallRecord_eq]
          rfl
        · rw [if_neg h]
          exact (if_neg h).symm
    have hroom' := (roomForAll_geometry (t := s.accepted new) (k := k) hsame rfl rfl rs).2 hroom
    have hacted := applyChannels_acted (s := s.accepted new) (old := s.settings) (k := k) (by rw [← hrs]; exact hroom')
    rw [← hrs, ← happ] at hacted
    obtain ⟨w, hw⟩ : ∃ w : State, w = s.applied new := ⟨_, rfl⟩
    rw [← hw] at hacted
    have hrecs := (recordedAll_geometry hsame rfl rfl rs).1 hacted.recs
    have heq := hacted.rest
    rw [wakeOf_raising] at heq
    have hkeep : s.KeepsWords w fun a => (∃ c, tach' c ≠ tach c ∧ ChannelWord c a) ∨ s.RecordWords k rs a :=
      KeepsWords.mono (s := s) hacted.keeps fun a ha =>
        ha.imp (fun ⟨c, _, hc, hw⟩ => ⟨c, of_decide_eq_true hc, hw⟩) (recordWords_geometry hsame rfl rfl rs a).1
    have hchannels : Spares r fun a => ∃ c, tach' c ≠ tach c ∧ ChannelWord c a := spares_of_bounds fun a ⟨c, _, ha⟩ => by
      have := channelWord_bounds ha
      omega
    have hsp : Spares r fun a => (∃ c, tach' c ≠ tach c ∧ ChannelWord c a) ∨ s.RecordWords k rs a :=
      hchannels.or (spares_of_bounds fun a ha => by
        have := RecordWords.place hroom ha
        omega)
    have hgiven (c : Fin 4) : s.ChannelGiven w c (after c) := by
      have h : s.ChannelGiven w c _ := hacted.given c (List.mem_finRange c)
      have hafter : after c = if tach' c = tach c then ch c else (s.accepted new).retached c := by
        by_cases hc : tach' c = tach c
        · exact (if_pos hc).trans (if_pos hc).symm
        · refine (if_neg hc).trans (Eq.trans ?_ (if_neg hc).symm)
          unfold retached retachBegins
          simp only [decide_eq_true_eq]
          by_cases hb : begins c
          · exact (if_pos hb).trans (if_pos hb.2).symm
          · exact (if_neg hb).trans (if_neg fun h => hb ⟨hc, h⟩).symm
      rw [hafter]
      exact h
    obtain ⟨t, ht, hdone, hr⟩ := apply_answers hc hgood (new := new) rfl hm hlevel hw (by rw [heq]; rfl) (by rw [heq]; rfl)
      { s.under new with
        duty := { s.duty with channels := w.duty.channels }, coll := w.coll
        wake := if rs = [] then (s.under new).wake else (s.under new).raised .stall } hsp hkeep
      (by conv_lhs => rw [heq]
          rfl) rfl rfl fun t ht => ht
    have hduty : t.duty = w.duty := by rw [hr.2]
    have hcoll : t.coll = w.coll := by rw [hr.2]
    refine ⟨t, ht, ?_, recordedAll_after hrecs hcoll fun a ha => hr.peek hsp (.inr ha), fun c => ?_⟩
    · rw [hduty, hcoll]
      exact hdone
    · exact (hgiven c).congr (by rw [hduty]) fun a ha => hr.peek (spares_channelWord c) ha

end

section
/-! PROOFS. The end of a reset, up to the mirrors: settings, clocks, watches and inputs, and the status block (R77, R101, R139,
R144, R169, R191, R192). -/

namespace Sys2Proof.Machine

/-! ## The bits of the causes (R193) -/

theorem State.causeBit_getLsbD (b c : WakeCause) : (State.causeBit c).getLsbD b.index = decide (b = c) := by
  cases b <;> cases c <;> rfl

namespace State

variable {s t u v : State} {c : ResetCause} {i j : Fin 16}

theorem raised_pending_iff (s : State) (b c : WakeCause) :
    (s.raised c).pending.getLsbD b.index = true ↔ s.wake.pending.getLsbD b.index = true ∨ b = c := by
  simp [raised, causeBit_getLsbD]

/-! ## Operations made one after another -/

/-- What each operation of a fold keeps, the fold keeps. -/
theorem foldl_keepsWords {α : Type} {f : State → α → State} {W : α → Nat → Prop} (h : ∀ (s : State) a, s.KeepsWords (f s a) (W a))
    (l : List α) (s : State) : s.KeepsWords (l.foldl f s) fun b => ∃ a ∈ l, W a b := by
  induction l generalizing s with
  | nil => exact .refl s _
  | cons a l ih =>
    refine ((h s a).trans (ih (f s a))).mono ?_
    rintro b (hb | ⟨c, hc, hb⟩)
    · exact ⟨a, List.mem_cons_self, hb⟩
    · exact ⟨c, List.mem_cons_of_mem _ hc, hb⟩

/-- What was done for one index stands through the operations on others. -/
theorem foldl_stands {α : Type} {f : State → α → State} {Done : State → State → α → Prop} {a : α}
    (hafter : ∀ t b, b ≠ a → Done s t a → Done s (f t b) a) {l : List α} (ha : a ∉ l) (h : Done s t a) :
    Done s (l.foldl f t) a := by
  induction l generalizing t with
  | nil => exact h
  | cons b l ih =>
    simp only [List.mem_cons, not_or] at ha
    exact ih ha.2 (hafter t b (Ne.symm ha.1) h)

/-- Operations on different indices, each of which leaves what the others do and what they begin from: each is done. -/
theorem foldl_done {α : Type} {f : State → α → State} {Done : State → State → α → Prop}
    (hstep : ∀ s a, Done s (f s a) a) (hsince : ∀ s t a b, b ≠ a → Done (f s b) t a → Done s t a)
    (hafter : ∀ s t a b, b ≠ a → Done s t a → Done s (f t b) a) {l : List α} (hl : l.Nodup) (s : State) :
    ∀ a ∈ l, Done s (l.foldl f s) a := by
  induction l generalizing s with
  | nil => exact fun a ha => absurd ha List.not_mem_nil
  | cons b l ih =>
    obtain ⟨hb, hl⟩ := List.nodup_cons.1 hl
    intro a ha
    rcases List.mem_cons.1 ha with e | ha
    · subst e
      exact foldl_stands (Done := Done) (l := l) (fun t b => hafter s t a b) hb (hstep s a)
    · exact hsince s _ a b (fun e => hb (e ▸ ha)) (ih hl (f s b) a ha)

/-! ## The contact inputs (R124, R139) -/

theorem inputWord_apart (h : j ≠ i) {a : Nat} (ha : InputWord i a) : ¬ InputWord j a := fun hj => by
  have : j.val ≠ i.val := fun e => h (Fin.ext e)
  unfold InputWord inputAddr at *
  omega

/-- Input `i` and its entry are as a reset by the cause `c` has them before the input settles. -/
structure EntryReset (c : ResetCause) (s t : State) (i : Fin 16) : Prop where
  input : t.inputs[i] = (s.inputs[i]).afterReset c
  status : t.peek (inputAddr i) = statusWord t.inputs[i] (if c = .soft then s.heldFlags i else 0)
  period : t.peek (inputAddr i + 1) = BitVec.ofNat 32 (t.inputs[i]).period
  active : t.peek (inputAddr i + 2) = (t.inputs[i]).actCap
  release : t.peek (inputAddr i + 3) = (t.inputs[i]).relCap

theorem EntryReset.since (h : EntryReset c u t i) (hx : u.inputs[i] = s.inputs[i])
    (hp : u.peek (inputAddr i) = s.peek (inputAddr i)) : EntryReset c s t i :=
  { h with
    input := by rw [h.input, hx]
    status := by rw [h.status, heldFlags_congr hp] }

theorem EntryReset.congr (h : EntryReset c s t i) (hx : u.inputs[i] = t.inputs[i])
    (hk : ∀ a, InputWord i a → u.peek a = t.peek a) : EntryReset c s u i where
  input := hx.trans h.input
  status := by rw [hk _ ⟨by omega, by omega⟩, h.status, hx]
  period := by rw [hk _ ⟨by omega, by omega⟩, h.period, hx]
  active := by rw [hk _ ⟨by omega, by omega⟩, h.active, hx]
  release := by rw [hk _ ⟨by omega, by omega⟩, h.release, hx]

theorem resetEntry_keepsWords (c : ResetCause) (s : State) (i : Fin 16) : s.KeepsWords (resetEntry c s i) (InputWord i) := by
  intro a ha
  unfold InputWord at ha
  unfold resetEntry
  rw [(writeStatus_written _ i _).2.1 a (by dsimp only; omega), peek_pokes_other _ _ _ _ (by
    simp only [List.length_cons, List.length_nil]; omega)]
  rfl

theorem resetEntry_inputs (c : ResetCause) (s : State) (i : Fin 16) :
    (resetEntry c s i).inputs = s.inputs.set i ((s.inputs[i]).afterReset c) := rfl

theorem resetEntry_other (c : ResetCause) (s : State) (h : j ≠ i) : (resetEntry c s j).inputs[i] = s.inputs[i] := by
  rw [resetEntry_inputs]
  exact Vector.getElem_set_ne (by omega) (by omega) fun e => h (Fin.ext e)

theorem resetEntry_reset (c : ResetCause) (s : State) (i : Fin 16) : EntryReset c s (resetEntry c s i) i := by
  have hi := i.isLt
  have hx : (resetEntry c s i).inputs[i] = (s.inputs[i]).afterReset c := by
    rw [resetEntry_inputs]
    exact Vector.getElem_set_self (by omega)
  have hword (k : Nat) (hk : k < 3) : (resetEntry c s i).peek (inputAddr i + 1 + k) =
      ([BitVec.ofNat 32 ((s.inputs[i]).afterReset c).period, ((s.inputs[i]).afterReset c).actCap,
        ((s.inputs[i]).afterReset c).relCap]).getD k 0 := by
    unfold resetEntry
    rw [(writeStatus_written _ i _).2.1 _ (by omega), peek_pokes_same _ (inputAddr i + 1) k
      [BitVec.ofNat 32 ((s.inputs[i]).afterReset c).period, ((s.inputs[i]).afterReset c).actCap,
        ((s.inputs[i]).afterReset c).relCap] hk (by
      simp only [List.length_cons, List.length_nil, inputAddr, Config.memoryWords]; omega)]
    exact (List.getD_eq_getElem _ _ hk).symm
  refine ⟨hx, (writeStatus_written _ i _).1, ?_, ?_, ?_⟩
  all_goals rw [hx]
  · exact hword 0 (by omega)
  · exact hword 1 (by omega)
  · exact hword 2 (by omega)

theorem resetEntries_reset (c : ResetCause) (s : State) (i : Fin 16) :
    EntryReset c s ((List.finRange 16).foldl (resetEntry c) s) i :=
  foldl_done (Done := EntryReset c) (resetEntry_reset c)
    (fun s _ a b hb h => h.since (resetEntry_other c s hb) (resetEntry_keepsWords c s b _ (inputWord_apart hb ⟨le_rfl, by omega⟩)))
    (fun _ t _ b hb h => h.congr (resetEntry_other c t hb) fun a ha => resetEntry_keepsWords c t b a (inputWord_apart hb ha))
    (List.nodup_finRange 16) s i (List.mem_finRange i)

/-! ## The part before its mirrors are written -/

theorem resetSettings_taken (hc : s.power.cause.cold = false) : s.SettingsFromBlock s.resetSettings := by
  unfold SettingsFromBlock resetSettings
  rw [hc]
  cases firstBadField s.mem <;> exact ⟨rfl, rfl⟩

theorem resetSettings_cold (hc : s.power.cause.cold = true) : s.resetSettings = s := if_pos hc

theorem resetSettings_geometry (h : s.power.cause.cold = true → s.GeometryOk) : s.resetSettings.GeometryOk := by
  unfold resetSettings
  split
  next hc => exact h hc
  · split
    next hgood => exact blockSettings_geometry hgood
    · exact builtInSettings_geometry s

/-- The part as a reset has it before its mirrors are written: the clocks counting from it, the watches and inputs cleared of
what the reset's kind does not keep, and nothing but the inputs' entries written (R101, R139, R169, R192, R195). -/
structure Restarted (s p : State) : Prop where
  timestamp : p.time.timestamp = if s.power.cause = .soft then s.time.timestamp else 0
  clock : p.time.base = s.now ∧ p.time.wrapCount = 0 ∧ p.time.sweepDue = s.now + 1000 * p.settings.sweepPeriod ∧
    p.time.rampDue = s.now + 10000 ∧ p.time.watchDue = s.now + 100000
  timers : ∀ n : Fin 4,
    p.time.surveyDue[n] = (if p.settings.timers[n] = 0 then none else some (s.now + 1000 * p.settings.timers[n])) ∧
      p.time.series[n] = []
  watches : ∀ n : Fin 64, p.watches[n] = s.watchAfterReset n
  entries : ∀ i, EntryReset s.power.cause s p i
  pending : s.wake.pending = 0 → ∀ b : WakeCause, p.wake.pending.getLsbD b.index = true ↔ b = .restart
  keeps : s.KeepsWords p fun a => 0xC0 ≤ a ∧ a < 0x100
  rest : p =
    { s with
      power := { s.power with phase := .ready }, wake := p.wake, time := p.time, settings := s.resetSettings.settings
      refused := s.resetSettings.refused, mem := p.mem, watches := p.watches, coll := Coll.afterReset, inputs := p.inputs
      bus := { s.bus with ctl := .settling (some (s.now + 1500)) } }

theorem watchAfterReset_eq (s : State) (n : Fin 64) : s.watchAfterReset n = (s.watches[n]).afterReset s.power.cause := rfl

/-- The watches, the collection and the controller as a reset has them, before the inputs' entries (R76, R101, R121). -/
def blocksReset (s : State) : State :=
  ((s.setWatches (Vector.ofFn fun n => (s.watches[n]).afterReset s.power.cause)).setColl Coll.afterReset).setBus
    { s.bus with ctl := .settling (some (s.now + 1500)) }

theorem resetBlocks_eq (s : State) : s.resetBlocks = (List.finRange 16).foldl (resetEntry s.power.cause) s.blocksReset := by
  simp [resetBlocks, blocksReset, now, millis]

theorem resetTime_blocksReset (s : State) :
    s.resetTime.blocksReset =
      { s with
        time := s.resetTime.time, watches := s.resetTime.blocksReset.watches, coll := Coll.afterReset
        bus := { s.bus with ctl := .settling (some (s.now + 1500)) } } := rfl

theorem resetEntries_frame (c : ResetCause) (s : State) (l : List (Fin 16)) :
    l.foldl (resetEntry c) s =
      { s with mem := (l.foldl (resetEntry c) s).mem, inputs := (l.foldl (resetEntry c) s).inputs } := by
  induction l generalizing s with
  | nil => rfl
  | cons i l ih =>
    rw [List.foldl_cons]
    have hrest := ih (resetEntry c s i)
    have hone : resetEntry c s i = { s with mem := (resetEntry c s i).mem, inputs := (resetEntry c s i).inputs } := rfl
    generalize resetEntry c s i = u at *
    generalize l.foldl (resetEntry c) u = w at *
    conv_lhs => rw [hrest, hone]

theorem restarted_restarted (s : State) : s.Restarted s.restarted := by
  have hg : s.resetSettings = { s with settings := s.resetSettings.settings, refused := s.resetSettings.refused } :=
    eq_of_fields (by simp)
  have hentries (i : Fin 16) := resetEntries_reset s.power.cause s.resetSettings.resetTime.blocksReset i
  have hframe := resetEntries_frame s.power.cause s.resetSettings.resetTime.blocksReset (List.finRange 16)
  have hkeep := foldl_keepsWords (resetEntry_keepsWords s.power.cause) (List.finRange 16) s.resetSettings.resetTime.blocksReset
  have hp : s.restarted =
      ((List.finRange 16).foldl (resetEntry s.power.cause) s.resetSettings.resetTime.blocksReset).setReady := by
    unfold restarted
    rw [resetBlocks_eq, show s.resetSettings.resetTime.power = s.power by simp]
  rw [hp]
  generalize (List.finRange 16).foldl (resetEntry s.power.cause) s.resetSettings.resetTime.blocksReset = w at *
  have hw : w =
      { s with
        mem := w.mem, inputs := w.inputs, settings := s.resetSettings.settings, refused := s.resetSettings.refused
        time := w.time, watches := w.watches, coll := Coll.afterReset
        bus := { s.bus with ctl := .settling (some (s.now + 1500)) } } := by
    have hblocks := resetTime_blocksReset s.resetSettings
    generalize s.resetSettings.resetTime.blocksReset = y at *
    generalize s.resetSettings.resetTime.time = τ at *
    generalize s.resetSettings = g at *
    rw [hblocks] at hframe
    have htime : w.time = τ := by rw [hframe]
    have hwatch : w.watches = y.watches := by rw [hframe]
    rw [htime, hwatch]
    conv_lhs => rw [hframe, hg]
    rfl
  have htime : w.time = s.resetSettings.resetTime.time := by rw [hframe]; rfl
  have hset : w.settings = s.resetSettings.settings := by rw [hframe]; rfl
  have hnow : s.resetSettings.now = s.now := by rw [hg]; rfl
  refine ⟨?_, ?_, fun n => ?_, fun n => ?_, fun i => ?_, fun h b => ?_, fun a ha => ?_, ?_⟩
  · rw [show w.setReady.time = s.resetSettings.resetTime.time from htime]
    simp [resetTime]
  · rw [show w.setReady.time = s.resetSettings.resetTime.time from htime,
      show w.setReady.settings = s.resetSettings.settings from hset]
    exact ⟨hnow, rfl, by rw [← hnow]; rfl, by rw [← hnow]; rfl, by rw [← hnow]; rfl⟩
  · rw [show w.setReady.time = s.resetSettings.resetTime.time from htime,
      show w.setReady.settings = s.resetSettings.settings from hset, ← hnow]
    exact ⟨by simp [resetTime, timerStart, tens], by simp [resetTime]⟩
  · rw [show w.setReady.watches = s.resetSettings.resetTime.blocksReset.watches by rw [hframe]; rfl, watchAfterReset_eq]
    simp [blocksReset]
  · exact ((hentries i).congr (u := w.setReady) rfl fun _ _ => rfl).since (by rw [hg]; rfl) (by rw [hg]; rfl)
  · rw [show w.setReady.wake = (w.setPower { w.power with phase := .ready }).raised .restart from rfl, raised_pending_iff]
    have : w.wake = s.wake := by rw [hframe, hg]; rfl
    simp [this, h]
  · refine (hkeep a ?_).trans (by rw [hg]; rfl)
    rintro ⟨i, -, hi⟩
    exact ha (inputWord_bounds hi)
  · have hready : w.setReady =
        { w with power := { w.power with phase := .ready }, wake := w.setReady.wake } := rfl
    have hmem : w.setReady.mem = w.mem ∧ w.setReady.inputs = w.inputs ∧ w.setReady.time = w.time ∧
      w.setReady.watches = w.watches := ⟨rfl, rfl, rfl, rfl⟩
    obtain ⟨hm, hi, ht, hwt⟩ := hmem
    rw [hm, hi, ht, hwt]
    generalize w.setReady.wake = k at *
    conv_lhs => rw [hready, hw]

end State
end Sys2Proof.Machine

end

section
/-! PROOFS. The mirrors that a reset writes: the status block and the state words of the watches (R8, R77, R101, R144, R169). -/

namespace Sys2Proof.Machine.State

variable {s t u v : State} {i j : Fin 30} {m n : Fin 64} {c d : Fin 4}

/-! ## What only writes words -/

/-- `t` is `s` with words of `W` written. -/
structure Wrote (s t : State) (W : Nat → Prop) : Prop where
  keeps : s.KeepsWords t W
  rest : t = { s with mem := t.mem }

namespace Wrote

variable {W V : Nat → Prop}

theorem trans (h : s.Wrote t W) (k : t.Wrote u V) : s.Wrote u fun a => W a ∨ V a :=
  ⟨h.keeps.trans k.keeps, by conv_lhs => rw [k.rest, h.rest]⟩

theorem mono (h : s.Wrote t W) (hV : ∀ a, W a → V a) : s.Wrote t V := ⟨h.keeps.mono hV, h.rest⟩

theorem foldl {α : Type} {f : State → α → State} {W : α → Nat → Prop} (h : ∀ (s : State) a, s.Wrote (f s a) (W a)) (l : List α)
    (s : State) : s.Wrote (l.foldl f s) fun b => ∃ a ∈ l, W a b := by
  refine ⟨foldl_keepsWords (fun s a => (h s a).keeps) l s, ?_⟩
  induction l generalizing s with
  | nil => rfl
  | cons a l ih =>
    rw [List.foldl_cons]
    have hrest := ih (f s a)
    have hone := (h s a).rest
    generalize f s a = u at *
    generalize l.foldl f u = w at *
    conv_lhs => rw [hrest, hone]

end Wrote

theorem poke_wrote (s : State) (a : Nat) (v : Word) : s.Wrote (s.poke a v) (· = a) := ⟨s.poke_keepsWords a v, rfl⟩

theorem pokes_wrote (s : State) (a : Nat) (vs : List Word) : s.Wrote (s.pokes a vs) fun b => a ≤ b ∧ b < a + vs.length :=
  ⟨s.pokes_keepsWords a vs, rfl⟩

/-! ## The watches (R79, R101) -/

theorem putWatch_self (s : State) (n : Fin 64) : s.putWatch n s.watches[n] = s.showWatch n := by
  have h : s.setWatchAt n s.watches[n] = s := by
    unfold setWatchAt setWatches
    rw [show s.watches.set n s.watches[n] = s.watches from Vector.set_getElem_self _]
  rw [putWatch, h]

theorem showWatch_wrote (s : State) (n : Fin 64) : s.Wrote (s.showWatch n) (WatchWord n) :=
  ⟨by rw [← putWatch_self]; exact putWatch_keepsWords s n _, rfl⟩

theorem showWatch_shown (s : State) (n : Fin 64) : (s.showWatch n).WatchShown n := by
  rw [← putWatch_self]
  exact putWatch_shown s n _

theorem watchWord_apart (h : m ≠ n) {a : Nat} (ha : WatchWord n a) : ¬ WatchWord m a := fun hm => by
  have : m.val ≠ n.val := fun e => h (Fin.ext e)
  unfold WatchWord watchAddr at *
  omega

theorem showWatches_shown (s : State) (n : Fin 64) : ((List.finRange 64).foldl showWatch s).WatchShown n :=
  foldl_done (Done := fun _ t n => t.WatchShown n) showWatch_shown (fun _ _ _ _ _ h => h)
    (fun _ t _ m hm h => watchShown_congr h rfl fun _ ha => (showWatch_wrote t m).keeps _ (watchWord_apart hm ha))
    (List.nodup_finRange 64) s n (List.mem_finRange n)

/-! ## The stations (R66, R77) -/

theorem setStation_self (s : State) (i : Fin 30) : s.setStation i s.bus.stations[i] = s.showStation i := by
  have h : s.setBus { s.bus with stations := s.bus.stations.set i s.bus.stations[i] } = s := by
    rw [show s.bus.stations.set i s.bus.stations[i] = s.bus.stations from Vector.set_getElem_self _]
    rfl
  rw [setStation, h]

theorem showStation_wrote (s : State) (i : Fin 30) : s.Wrote (s.showStation i) (StationWord i) :=
  ⟨showStation_keepsWords s i, rfl⟩

theorem showStation_shown (s : State) (i : Fin 30) : (s.showStation i).StationShown i := by
  rw [← setStation_self]
  exact setStation_shown s i _

theorem showStations_shown (s : State) (i : Fin 30) : ((List.finRange 30).foldl showStation s).StationShown i :=
  foldl_done (Done := fun _ t i => t.StationShown i) showStation_shown (fun _ _ _ _ _ h => h)
    (fun _ t _ j hj h => stationShown_congr h rfl fun _ ha => (showStation_wrote t j).keeps _ (stationWord_other hj ha))
    (List.nodup_finRange 30) s i (List.mem_finRange i)

/-! ## The channels (R144) -/

/-- A channel's mirror shows it (R144). -/
def ChannelShown (t : State) (c : Fin 4) : Prop :=
  t.peek (0xA3 + 2 * c.val) = channelWord t.duty.channels[c] ∧
    t.peek (0xA4 + 2 * c.val) = BitVec.ofNat 32 (t.duty.channels[c]).output

theorem channelShown_congr (h : t.ChannelShown c) (hx : u.duty.channels[c] = t.duty.channels[c])
    (hk : ∀ a, ChannelWord c a → u.peek a = t.peek a) : u.ChannelShown c := by
  obtain ⟨hlo, hhi⟩ := h
  exact ⟨by rw [hx, hk _ (.inl rfl), hlo], by rw [hx, hk _ (.inr rfl), hhi]⟩

theorem showChannel_wrote (s : State) (c : Fin 4) : s.Wrote (s.showChannel c) (ChannelWord c) :=
  (poke_wrote s _ _).trans (poke_wrote _ _ _)

theorem showChannel_shown (s : State) (c : Fin 4) : (s.showChannel c).ChannelShown c := by
  have hm : Config.memoryWords = 0x8000 := rfl
  have := c.isLt
  exact ⟨(peek_poke_other _ _ _ _ (by omega)).trans (peek_poke_same _ _ _ (by omega)), peek_poke_same _ _ _ (by omega)⟩

theorem channelWord_apart (h : d ≠ c) {a : Nat} (ha : ChannelWord c a) : ¬ ChannelWord d a := fun hd => by
  have : d.val ≠ c.val := fun e => h (Fin.ext e)
  unfold ChannelWord at *
  omega

theorem showChannels_shown (s : State) (c : Fin 4) : ((List.finRange 4).foldl showChannel s).ChannelShown c :=
  foldl_done (Done := fun _ t c => t.ChannelShown c) showChannel_shown (fun _ _ _ _ _ h => h)
    (fun _ t _ d hd h => channelShown_congr h rfl fun _ ha => (showChannel_wrote t d).keeps _ (channelWord_apart hd ha))
    (List.nodup_finRange 4) s c (List.mem_finRange c)

/-! ## The status block -/

/-- The mirrors of the status block as a reset writes them, and the watches' state words. -/
structure Mirrored (s t : State) : Prop where
  word40 : t.peek 0x40 = t.word40
  timestamp : t.peek 0x41 = t.time.timestamp
  snapshot : t.SnapshotShown
  counts : ∀ j < 7, t.peek (0x57 + j) = (countWords t.bus.counts).getD j 0
  stations : ∀ i, t.StationShown i
  channels : ∀ c, t.ChannelShown c
  watches : ∀ n, t.WatchShown n
  wrote : s.Wrote t fun a => (0x40 ≤ a ∧ a < 0xAC) ∨ ∃ n, WatchWord n a

theorem writeColl_wrote (s : State) : s.Wrote s.writeColl fun a => 0x9A ≤ a ∧ a ≤ 0xA2 :=
  ⟨writeColl_keepsWords s, eq_of_fields (by simp)⟩

/-- The first words of the status block: 0040H to 0045H, the queue's snapshot and the bus counts. -/
def showFirst (s : State) : State :=
  s.show40.showTimestamp.showWrapCount.showSweepCount.showCompleted.showRunning.showQueue.pokes 0x57 (countWords s.bus.counts)

theorem showAll_eq (s : State) :
    s.showAll =
      ((List.finRange 4).foldl showChannel ((List.finRange 30).foldl showStation s.showFirst).writeColl).showIdent := rfl

theorem showFirst_shown (h : t = s.showFirst) :
    t.peek 0x40 = t.word40 ∧ t.peek 0x41 = t.time.timestamp ∧ t.SnapshotShown ∧
      (∀ j < 7, t.peek (0x57 + j) = (countWords t.bus.counts).getD j 0) ∧ s.Wrote t fun a => 0x40 ≤ a ∧ a < 0x5E := by
  have h40 := poke_wrote s 0x40 s.word40
  have h41 : s.show40.Wrote s.show40.showTimestamp (· = 0x41) := poke_wrote s.show40 0x41 s.time.timestamp
  have h45 : s.show40.showTimestamp.Wrote s.show40.showTimestamp.showWrapCount.showSweepCount.showCompleted.showRunning
      fun a => 0x42 ≤ a ∧ a ≤ 0x45 :=
    ((((poke_wrote _ 0x42 _).trans (poke_wrote _ 0x43 _)).trans (poke_wrote _ 0x44 _)).trans (poke_wrote _ 0x45 _)).mono
      fun a ha => by omega
  have hqueue (w : State) : w.Wrote w.showQueue QueueWord := ⟨showQueue_keepsWords w, eq_of_fields (by simp)⟩
  have hcount (w : State) : w.Wrote (w.pokes 0x57 (countWords s.bus.counts)) fun a => 0x57 ≤ a ∧ a < 0x5E := pokes_wrote w _ _
  have hsame40 : s.show40.peek 0x40 = s.word40 := peek_poke_same _ _ _ (by decide)
  have hsame41 : s.show40.showTimestamp.peek 0x41 = s.time.timestamp := peek_poke_same _ _ _ (by decide)
  obtain ⟨w, hw⟩ : ∃ w : State, w = s.show40.showTimestamp.showWrapCount.showSweepCount.showCompleted.showRunning := ⟨_, rfl⟩
  have hq := hqueue w
  have hc := hcount w.showQueue
  have hsnap : w.showQueue.SnapshotShown := setQueue_shown w w.engine.queue
  have ht : t = w.showQueue.pokes 0x57 (countWords s.bus.counts) := by rw [h, hw]; rfl
  have hseven (j : Nat) (hj : j < 7) : t.peek (0x57 + j) = (countWords s.bus.counts).getD j 0 := by
    rw [ht, peek_pokes_same _ 0x57 j (countWords s.bus.counts) hj (by simp [countWords, Config.memoryWords])]
    exact (List.getD_eq_getElem _ _ hj).symm
  rw [← hw] at h45
  have hall : s.Wrote t fun a => 0x40 ≤ a ∧ a < 0x5E := by
    rw [ht]
    refine ((((h40.trans h41).trans h45).trans hq).trans hc).mono fun a ha => ?_
    unfold QueueWord at ha
    omega
  have hwt : w.Wrote t fun a => 0x46 ≤ a ∧ a < 0x5E := by
    rw [ht]
    exact (hq.trans hc).mono fun a ha => by unfold QueueWord at ha; omega
  refine ⟨?_, ?_, ?_, fun j hj => ?_, hall⟩
  · rw [hwt.keeps _ (by omega), h45.keeps _ (by omega), h41.keeps 0x40 (by decide), hsame40, hall.rest]
    rfl
  · rw [hwt.keeps _ (by omega), h45.keeps _ (by omega), hsame41, hall.rest]
  · refine snapshotShown_congr hsnap ?_ fun a ha => ?_
    · rw [ht]; rfl
    · rw [ht]
      exact hc.keeps a (by unfold QueueWord at ha; omega)
  · rw [hseven j hj, hall.rest]

theorem showAll_mirrored (h : t = (List.finRange 64).foldl showWatch s.showAll) : s.Mirrored t := by
  obtain ⟨a, ha⟩ : ∃ a : State, a = s.showFirst := ⟨_, rfl⟩
  obtain ⟨b, hb⟩ : ∃ b : State, b = (List.finRange 30).foldl showStation a := ⟨_, rfl⟩
  obtain ⟨c, hc⟩ : ∃ c : State, c = (List.finRange 4).foldl showChannel b.writeColl := ⟨_, rfl⟩
  obtain ⟨h40, h41, hsnap, hcounts, hsa⟩ := showFirst_shown ha
  have hstation (i : Fin 30) : b.StationShown i := by rw [hb]; exact showStations_shown a i
  have hab : a.Wrote b fun x => 0x5E ≤ x ∧ x ≤ 0x99 := by
    rw [hb]
    exact (Wrote.foldl showStation_wrote _ a).mono fun x ⟨i, _, hx⟩ => stationWord_bounds hx
  have hchannel (n : Fin 4) : c.ChannelShown n := by rw [hc]; exact showChannels_shown _ n
  have hbc : b.Wrote c fun x => 0x9A ≤ x ∧ x < 0xAB := by
    have hcoll : b.Wrote b.writeColl fun x => 0x9A ≤ x ∧ x ≤ 0xA2 := writeColl_wrote b
    rw [hc]
    refine (hcoll.trans (Wrote.foldl showChannel_wrote _ _)).mono ?_
    rintro x (hx | ⟨n, _, hx⟩)
    · omega
    · have := channelWord_bounds hx
      omega
  have hct : c.Wrote t fun x => x = 0xAB ∨ ∃ n, WatchWord n x := by
    rw [h, showAll_eq, ← ha, ← hb, ← hc]
    exact ((poke_wrote c 0xAB _).trans (Wrote.foldl showWatch_wrote _ _)).mono fun x hx => hx.imp_right fun ⟨n, _, hn⟩ => ⟨n, hn⟩
  have hlow {x : Nat} (hx : x < 0xAB) : t.peek x = c.peek x := hct.keeps x (by
    rintro (hx | ⟨n, hn⟩)
    · omega
    · have := watchWord_bounds hn
      omega)
  have hat : a.Wrote t fun x => (0x5E ≤ x ∧ x ≤ 0xAB) ∨ ∃ n, WatchWord n x :=
    ((hab.trans hbc).trans hct).mono fun x hx => by
      rcases hx with (hx | hx) | hx | hx
      · omega
      · omega
      · omega
      · exact .inr hx
  have hfirst {x : Nat} (hx : x < 0x5E) : t.peek x = a.peek x := by
    rw [hlow (by omega), hbc.keeps x (by omega), hab.keeps x (by omega)]
  refine ⟨?_, ?_, snapshotShown_congr hsnap ?_ fun x hx => hfirst (by unfold QueueWord at hx; omega), fun j hj => ?_,
    fun i => stationShown_congr (hstation i) ?_ fun x hx => ?_, fun n => channelShown_congr (hchannel n) ?_ fun x hx => ?_,
    fun n => ?_, (hsa.trans hat).mono fun x hx => ?_⟩
  · rw [hfirst (by omega), h40, hat.rest]
    rfl
  · rw [hfirst (by omega), h41, hat.rest]
  · rw [hat.rest]
  · rw [hfirst (by omega), hcounts j hj, hat.rest]
  · rw [(hbc.trans hct).rest]
  · have := stationWord_bounds hx
    rw [hlow (by omega), hbc.keeps x (by omega)]
  · rw [hct.rest]
  · have := channelWord_bounds hx
    exact hlow (by omega)
  · rw [h]
    exact showWatches_shown _ n
  · rcases hx with hx | hx | hx
    · omega
    · omega
    · exact .inr hx

end Sys2Proof.Machine.State

end

section
/-! PROOFS. The recovery of the collection at a reset, and offers of records to a unit that fills a segment or starves (R107–R110,
R121, R122). -/

namespace Sys2Proof.Machine.State

variable {s t u v w x : State} {i n : Fin 16} {r : Record} {k m : Nat} {c : ResetCause}

/-! ## The headers found FILLING are closed (R121) -/

theorem field_segWord0 (state : Nat) (hut : BitVec 12) : field (segWord0 state hut) 0 2 = state % 4 := by
  unfold field segWord0 pack
  rw [BitVec.toNat_ofNat]
  simp only [packNat]
  omega

theorem segAddr_congr (h : t.settings = s.settings) (j : Nat) : t.segAddr j = s.segAddr j := by
  unfold segAddr
  rw [h]

/-- The words of a header that the recovery of segment `j` writes. -/
def RecoveryWord (s : State) (j a : Nat) : Prop := a = s.segAddr j ∨ a = s.segAddr j + 1 ∨ a = s.segAddr j + 4

theorem recoveryWord_bounds (hg : s.GeometryOk) {j a : Nat} (h : s.RecoveryWord j a) : 0x2000 ≤ a := by
  have := base_le_segAddr s j
  have := hg.1
  unfold RecoveryWord at h
  omega

theorem recoveryWord_apart (hg : s.GeometryOk) {j l a : Nat} (h : s.RecoveryWord j a) (hne : l ≠ j) :
    a < s.segAddr l ∨ s.segAddr l + 300 ≤ a := by
  have hsize := hg.2.2.2.1
  unfold RecoveryWord at h
  rcases Nat.lt_or_gt_of_ne hne with hlt | hlt
  · have := segAddr_apart s hlt
    omega
  · have := segAddr_apart s hlt
    omega

/-- Header `j` stands in `t` closed RESET, as it stood in `s`. -/
def HeaderClosed (s t : State) (j : Nat) : Prop :=
  t.peek (s.segAddr j) = segWord0 2 (BitVec.ofNat 12 (field (s.peek (s.segAddr j)) 16 12)) ∧
    t.peek (s.segAddr j + 1) =
      segWord1 (field (s.peek (s.segAddr j + 1)) 0 14) (field (s.peek (s.segAddr j + 1)) 14 15) 5 ∧
    t.peek (s.segAddr j + 4) = s.time.timestamp

theorem HeaderClosed.congr (h : s.HeaderClosed t k) (hk : ∀ a, s.RecoveryWord k a → u.peek a = t.peek a) : s.HeaderClosed u k := by
  obtain ⟨h0, h1, h4⟩ := h
  exact ⟨(hk _ (.inl rfl)).trans h0, (hk _ (.inr (.inl rfl))).trans h1, (hk _ (.inr (.inr rfl))).trans h4⟩

theorem recoverSegment_of_other (h : s.segState k ≠ 1) : s.recoverSegment k = s := if_neg h

theorem recoverSegment_of_filling (hg : s.GeometryOk) (hk : k < s.settings.count) (h : s.segState k = 1)
    (ht : t = s.recoverSegment k) :
    s.HeaderClosed t k ∧ t.coll.next.val = (k + 1) % s.settings.count ∧ s.KeepsWords t (s.RecoveryWord k) ∧
      t = { s with mem := t.mem, coll := { s.coll with next := t.coll.next }, wake := s.raised .closed } := by
  have hmax : Config.memoryWords = 0x8000 := rfl
  obtain ⟨hlow, hend⟩ : 0x2000 ≤ s.segAddr k ∧ s.segAddr k + 5 ≤ Config.memoryWords :=
    segAddr_bounds (i := ⟨k, by have := hg.2.2.1; omega⟩) hg hk
  have hcount := hg.2.2.1
  have hmod : (k + 1) % s.settings.count < s.settings.count := Nat.mod_lt _ (by omega)
  unfold recoverSegment at ht
  rw [if_pos h, raiseCause_eq] at ht
  refine ⟨⟨?_, ?_, ?_⟩, ?_, fun a ha => ?_, ?_⟩
  · rw [ht]
    exact peek_poke_same _ _ _ (by omega)
  · rw [ht]
    exact (peek_poke_other _ _ _ _ (by omega)).trans (peek_poke_same _ _ _ (by omega))
  · rw [ht]
    exact (peek_poke_other _ _ _ _ (by omega)).trans
      ((peek_poke_other _ _ _ _ (by omega)).trans (peek_poke_same _ _ _ (by omega)))
  · rw [ht]
    exact Nat.mod_eq_of_lt (by omega)
  · unfold RecoveryWord at ha
    rw [ht]
    exact (peek_poke_other _ _ _ _ (by omega)).trans
      ((peek_poke_other _ _ _ _ (by omega)).trans (peek_poke_other _ _ _ _ (by omega)))
  · rw [ht]
    rfl

/-- The recovery has passed the headers below `k`. -/
structure Swept (s t : State) (k : Nat) : Prop where
  closed : ∀ j < k, s.segState j = 1 → s.HeaderClosed t j
  next : (∃ j < k, s.segState j = 1 ∧ (∀ l < k, s.segState l = 1 → l ≤ j) ∧ t.coll.next.val = (j + 1) % s.settings.count) ∨
    (∀ j < k, s.segState j ≠ 1) ∧ t.coll.next = s.coll.next
  pending : ∀ b : WakeCause, t.wake.pending.getLsbD b.index = true ↔
    s.wake.pending.getLsbD b.index = true ∨ (b = .closed ∧ ∃ j < k, s.segState j = 1)
  keeps : s.KeepsWords t fun a => ∃ j < k, s.segState j = 1 ∧ s.RecoveryWord j a
  rest : t = { s with mem := t.mem, coll := { s.coll with next := t.coll.next }, wake := t.wake }

theorem Swept.settings (h : s.Swept t k) : t.settings = s.settings := by rw [h.rest]

/-- A header that has not been passed reads as it did. -/
theorem Swept.peek_after (h : s.Swept t k) (hg : s.GeometryOk) {j a : Nat} (hj : k ≤ j) (ha : s.segAddr j ≤ a)
    (hb : a < s.segAddr j + 300) : t.peek a = s.peek a :=
  h.keeps a fun ⟨l, hl, _, hw⟩ => by
    have := recoveryWord_apart hg hw (l := j) (by omega)
    omega

theorem swept_zero (s : State) : s.Swept s 0 where
  closed := fun _ hj => absurd hj (Nat.not_lt_zero _)
  next := .inr ⟨fun _ hj => absurd hj (Nat.not_lt_zero _), rfl⟩
  pending := fun _ => ⟨.inl, fun h => h.elim id fun ⟨_, _, hj, _⟩ => absurd hj (Nat.not_lt_zero _)⟩
  keeps := .refl s _
  rest := rfl

theorem Swept.next_of_other (h : s.Swept t k) (hk : s.segState k ≠ 1) : s.Swept t (k + 1) := by
  have hlt {j : Nat} (hj : j < k + 1) (h1 : s.segState j = 1) : j < k :=
    Nat.lt_of_le_of_ne (Nat.le_of_lt_succ hj) fun e => hk (e ▸ h1)
  refine ⟨fun j hj h1 => h.closed j (hlt hj h1) h1, ?_, fun b => (h.pending b).trans ?_, h.keeps.mono ?_, h.rest⟩
  · rcases h.next with ⟨j, hj, h1, hmax, hn⟩ | ⟨hnone, hn⟩
    · exact .inl ⟨j, by omega, h1, fun l hl hl1 => hmax l (hlt hl hl1) hl1, hn⟩
    · exact .inr ⟨fun j hj h1 => hnone j (hlt hj h1) h1, hn⟩
  · refine or_congr_right (and_congr_right fun _ => ⟨fun ⟨j, hj, h1⟩ => ⟨j, by omega, h1⟩, fun ⟨j, hj, h1⟩ => ⟨j, hlt hj h1, h1⟩⟩)
  · exact fun a ⟨j, hj, hw⟩ => ⟨j, by omega, hw⟩

theorem Swept.step (h : s.Swept t k) (hg : s.GeometryOk) (hk : k < s.settings.count) : s.Swept (t.recoverSegment k) (k + 1) := by
  have hset := h.settings
  have hseg (j : Nat) : t.segAddr j = s.segAddr j := segAddr_congr hset j
  have hstate : t.segState k = s.segState k := by
    unfold segState
    rw [hseg, h.peek_after hg le_rfl le_rfl (by omega)]
  by_cases hfill : s.segState k = 1
  · obtain ⟨hclosed, hnext, hkeep, hrest⟩ := recoverSegment_of_filling (s := t) (by unfold GeometryOk; rw [hset]; exact hg)
      (by rw [hset]; exact hk) (hstate.trans hfill) rfl
    generalize t.recoverSegment k = u at *
    have hword (j a : Nat) : t.RecoveryWord j a ↔ s.RecoveryWord j a := by unfold RecoveryWord; rw [hseg]
    refine ⟨fun j hj h1 => ?_, .inl ⟨k, by omega, hfill, fun l hl _ => by omega, by rw [hnext, hset]⟩, fun b => ?_, ?_, ?_⟩
    · by_cases e : j = k
      · subst e
        obtain ⟨h0, h1, h4⟩ := hclosed
        rw [hseg, h.peek_after hg le_rfl le_rfl (by omega)] at h0
        rw [hseg, h.peek_after hg le_rfl (by omega) (by omega)] at h1
        rw [hseg] at h4
        exact ⟨h0, h1, h4.trans (by rw [h.rest])⟩
      · exact (h.closed j (by omega) h1).congr fun a ha => hkeep a fun hw => by
          have := recoveryWord_apart hg ((hword k a).1 hw) e
          unfold RecoveryWord at ha
          omega
    · rw [show u.wake = t.raised .closed by rw [hrest], raised_pending_iff, h.pending]
      constructor
      · rintro ((hb | ⟨hb, j, hj, h1⟩) | hb)
        · exact .inl hb
        · exact .inr ⟨hb, j, by omega, h1⟩
        · exact .inr ⟨hb, k, by omega, hfill⟩
      · rintro (hb | ⟨hb, -⟩)
        · exact .inl (.inl hb)
        · exact .inr hb
    · refine (h.keeps.trans hkeep).mono ?_
      rintro a (⟨j, hj, hw⟩ | hw)
      · exact ⟨j, by omega, hw⟩
      · exact ⟨k, by omega, hfill, (hword k a).1 hw⟩
    · have hw : u.wake = t.raised .closed := by rw [hrest]
      rw [hw]
      generalize t.raised .closed = κ at *
      conv_lhs => rw [hrest, h.rest]
  · rw [recoverSegment_of_other (hstate.symm ▸ hfill)]
    exact h.next_of_other hfill

theorem swept_all (hg : s.GeometryOk) (hk : k ≤ s.settings.count) : s.Swept ((List.range k).foldl recoverSegment s) k := by
  induction k with
  | zero => exact swept_zero s
  | succ k ih =>
    rw [List.range_succ, List.foldl_append]
    exact (ih (by omega)).step hg hk

/-! ## Offers to a unit that has room, or starves (R107, R108, R110) -/

/-- The unit takes `m` words of records: it fills a segment with room for them, or starves in a loss episode with the next
segment not EMPTY. -/
def Takes (s : State) (m : Nat) : Prop :=
  (∃ n, s.RoomFor n m) ∨ (s.GeometryOk ∧ s.coll.st = .starved ∧ s.segState s.coll.next.val ≠ 0 ∧ s.coll.drops ≠ 0)

/-- The words that records offered to a unit change: the mirror, the filling header's counts, and the words behind the
records that the segment holds. -/
def TakenWord (s : State) (a : Nat) : Prop :=
  (0x9A ≤ a ∧ a ≤ 0xA2) ∨
    ∃ n start, s.coll.st = .filling n start ∧
      (a = s.segAddr n.val + 1 ∨ (s.segAddr n.val + 5 + s.coll.used ≤ a ∧ a < s.segAddr n.val + s.settings.size))

/-- A record was offered to the unit, which still takes `m` words; in a segment the record stands directly behind the
others. -/
structure Took (s t : State) (r : Record) (m : Nat) : Prop where
  takes : t.Takes m
  segment : t.coll.st = s.coll.st ∧ t.coll.next = s.coll.next ∧ t.coll.seq = s.coll.seq
  used : ∀ n start, s.coll.st = .filling n start → t.coll.used = s.coll.used + r.length ∧
    ∀ j < r.length, t.peek (s.segAddr n.val + 5 + s.coll.used + j) = (r.header :: s.time.timestamp :: r.payload).getD j 0
  keeps : s.KeepsWords t s.TakenWord
  rest : t = { s with mem := t.mem, coll := t.coll }

theorem takenWord_of_recordWord (h : s.RoomFor n k) {a : Nat} (ha : s.RecordWord n k a) : s.TakenWord a := by
  obtain ⟨-, -, ⟨start, hst⟩, hroom⟩ := h
  unfold RecordWord at ha
  rcases ha with ha | ha | ha | ha | ha
  · exact .inr ⟨n, start, hst, .inr (by omega)⟩
  · exact .inr ⟨n, start, hst, .inl ha⟩
  · exact .inl (by omega)
  · exact .inl (by omega)
  · exact .inl (by omega)

theorem offer_took (h : s.Takes (r.length + m)) : s.Took (s.offer r) r m := by
  rcases h with ⟨n, hroom⟩ | ⟨hg, hst, hnext, hdrops⟩
  · have hlen : s.RoomFor n r.length := hroom.mono (by omega)
    obtain ⟨hrec, hkeep, heq⟩ := offer_from (s := s) (u := s) rfl rfl rfl hlen
    generalize s.offer r = t at *
    have hcoll : t.coll = s.collAfter r.length := by rw [heq]
    have hset : t.settings = s.settings := by rw [heq]
    obtain ⟨hg, hi, ⟨start, hst⟩, hfree⟩ := hroom
    refine ⟨.inl ⟨n, ⟨by unfold GeometryOk; rw [hset]; exact hg, by rw [hset]; exact hi,
      ⟨start, by rw [hcoll]; exact hst⟩, ?_⟩⟩, ⟨by rw [hcoll]; rfl, by rw [hcoll]; rfl, by rw [hcoll]; rfl⟩, fun l b hl => ?_,
      hkeep.mono fun a ha => takenWord_of_recordWord hlen ha, by rw [hcoll]; exact heq⟩
    · rw [hcoll, hset]
      simp only [collAfter]
      omega
    · obtain rfl : n = l := by
        rw [hst] at hl
        exact (CollState.filling.inj hl).1
      exact ⟨by rw [hcoll]; rfl, hrec.1⟩
  · obtain ⟨hcoll, hwake, hkeep⟩ := offer_starves (t := s.offer r) (.inr hst) hnext rfl
    have hframe := s.offer_frame r
    have hdrop := dropRecord_eq s.offering
    have hd : s.offering.coll.drops ≠ 0 := hdrops
    rw [if_neg hd, if_neg hd] at hdrop
    have hw : (s.offer r).wake = s.wake := by rw [hwake, hdrop]; rfl
    have hrest : s.offer r = { s with mem := (s.offer r).mem, coll := (s.offer r).coll } :=
      eq_of_fields (by simp [hw])
    have hc : (s.offer r).coll =
        { s.coll with
          st := .starved, offered := s.coll.offered + 1, dropped := s.coll.dropped + 1
          drops := min (s.coll.drops + 1) 4294967295, lastDrop := s.time.timestamp } := by
      rw [hcoll, hdrop]
      rfl
    generalize s.offer r = t at *
    have hset : t.settings = s.settings := by rw [hrest]
    refine ⟨.inr ⟨by unfold GeometryOk; rw [hset]; exact hg, by rw [hc], ?_, ?_⟩, ⟨by rw [hc, hst], by rw [hc], by rw [hc]⟩,
      fun n start h => absurd (hst.symm.trans h) nofun, hkeep.mono fun a ha => .inl ha, hrest⟩
    · have hplace := base_le_segAddr s s.coll.next.val
      have hbase := hg.1
      have hstate : t.segState s.coll.next.val ≠ 0 := by
        unfold segState at *
        rw [segAddr_congr hset, hkeep _ (by omega)]
        exact hnext
      rw [hc]
      exact hstate
    · rw [hc]
      dsimp only
      omega

/-! ## The recovery (R121, R122) -/

/-- The index at which the recovery goes on: behind the last header found FILLING, and otherwise 0. -/
def NextAfter (s : State) (n : Nat) : Prop :=
  (∃ i < s.settings.count, s.segState i = 1 ∧ (∀ j < s.settings.count, s.segState j = 1 → j ≤ i) ∧
      n = (i + 1) % s.settings.count) ∨
    (∀ i < s.settings.count, s.segState i ≠ 1) ∧ n = 0

/-- The segment at index `n` opened with the RESTART record, the first one counted. -/
structure OpenedAt (s t : State) (n : Nat) : Prop where
  filling : ∃ i start, t.coll.st = .filling i start ∧ i.val = n
  next : t.coll.next.val = (n + 1) % s.settings.count
  seq : t.coll.seq = 0
  header : t.peek (s.segAddr n + 5) = pack [(8, 18), (9, 3)]
  stamp : t.peek (s.segAddr n + 6) = s.time.timestamp
  code : t.peek (s.segAddr n + 7) = BitVec.ofNat 32 s.power.cause.code
  used : t.coll.used = 3
  counts : t.coll.offered = 1 ∧ t.coll.written = 1

/-- The recovery has been made: the headers found FILLING are closed, and the RESTART record is offered. -/
structure Recovered (s t : State) : Prop where
  next : ∃ n, s.NextAfter n
  closed : ∀ i < s.settings.count, s.segState i = 1 →
    s.HeaderClosed t i ∧ t.peek (s.segAddr i + 2) = s.peek (s.segAddr i + 2) ∧
      t.peek (s.segAddr i + 3) = s.peek (s.segAddr i + 3)
  opened : ∀ n, s.NextAfter n → s.segState n = 0 → s.OpenedAt t n
  starved : ∀ n, s.NextAfter n → s.segState n ≠ 0 → t.coll.st = .starved ∧ t.coll.next.val = n
  takes : t.Takes 9
  pending : ∀ b : WakeCause, t.wake.pending.getLsbD b.index = true ↔
    s.wake.pending.getLsbD b.index = true ∨ (b = .closed ∧ ∃ i < s.settings.count, s.segState i = 1) ∨
      (b = .overrun ∧ t.coll.st = .starved)
  keeps : s.KeepsWords t fun a => 0x2000 ≤ a ∨ (0x9A ≤ a ∧ a ≤ 0xA2)
  rest : t = { s with mem := t.mem, coll := t.coll, wake := t.wake }

theorem Swept.nextAfter (h : s.Swept t s.settings.count) (hc : s.coll.next = 0) : s.NextAfter t.coll.next.val :=
  h.next.imp (fun ⟨j, hj, h1, hmax, hn⟩ => ⟨j, hj, h1, hmax, hn⟩) fun ⟨hnone, hn⟩ => ⟨hnone, by rw [hn, hc]; rfl⟩

theorem NextAfter.unique {n m : Nat} (hn : s.NextAfter n) (hm : s.NextAfter m) : n = m := by
  rcases hn with ⟨i, hi, hi1, himax, rfl⟩ | ⟨hnone, rfl⟩
  · rcases hm with ⟨j, hj, hj1, hjmax, rfl⟩ | ⟨hnone, -⟩
    · rw [Nat.le_antisymm (hjmax i hi hi1) (himax j hj hj1)]
    · exact absurd hi1 (hnone i hi)
  · rcases hm with ⟨j, hj, hj1, -⟩ | ⟨-, rfl⟩
    · exact absurd hj1 (hnone j hj)
    · rfl

theorem NextAfter.lt {n : Nat} (h : s.NextAfter n) (hg : s.GeometryOk) : n < s.settings.count := by
  have := hg.2.1
  rcases h with ⟨i, -, -, -, rfl⟩ | ⟨-, rfl⟩
  · exact Nat.mod_lt _ (by omega)
  · omega

/-- A header of the sweep reads EMPTY after it where it read EMPTY before. -/
theorem Swept.segState_iff (h : s.Swept t s.settings.count) (hg : s.GeometryOk) {j : Nat} (hj : j < s.settings.count) :
    t.segState j = 0 ↔ s.segState j = 0 := by
  have hseg : t.segState j = field (t.peek (s.segAddr j)) 0 2 := by rw [segState, segAddr_congr h.settings]
  by_cases h1 : s.segState j = 1
  · have hclosed : t.segState j = 2 := by rw [hseg, (h.closed j hj h1).1, field_segWord0]
    omega
  · have hkept : t.peek (s.segAddr j) = s.peek (s.segAddr j) := h.keeps _ fun ⟨l, hl, hl1, hw⟩ => by
      by_cases e : j = l
      · exact h1 (e ▸ hl1)
      · have := recoveryWord_apart hg hw e
        omega
    rw [hseg, hkept]
    rfl

/-- A header that the sweep closed stands so while its words stand. -/
theorem Swept.closed_after (h : s.Swept w s.settings.count) (hg : s.GeometryOk) {j : Nat} (hj : j < s.settings.count)
    (h1 : s.segState j = 1) (hk : ∀ l < 5, t.peek (s.segAddr j + l) = w.peek (s.segAddr j + l)) :
    s.HeaderClosed t j ∧ t.peek (s.segAddr j + 2) = s.peek (s.segAddr j + 2) ∧
      t.peek (s.segAddr j + 3) = s.peek (s.segAddr j + 3) := by
  have hkept (l : Nat) (hl : l = 2 ∨ l = 3) : w.peek (s.segAddr j + l) = s.peek (s.segAddr j + l) :=
    h.keeps _ fun ⟨i, _, _, hw⟩ => by
      by_cases e : j = i
      · subst e
        unfold RecoveryWord at hw
        omega
      · have := recoveryWord_apart hg hw e
        omega
  refine ⟨(h.closed j hj h1).congr fun a ha => ?_, (hk 2 (by omega)).trans (hkept 2 (.inl rfl)),
    (hk 3 (by omega)).trans (hkept 3 (.inr rfl))⟩
  rcases ha with rfl | rfl | rfl
  · exact hk 0 (by omega)
  · exact hk 1 (by omega)
  · exact hk 4 (by omega)

/-- A segment of the geometry lies in the collection region, with room behind its header. -/
theorem segment_bounds (hg : s.GeometryOk) {j : Nat} (hj : j < s.settings.count) :
    0x2000 ≤ s.segAddr j ∧ s.segAddr j + 300 ≤ 0x8000 := by
  obtain ⟨hbase, -, -, hsize, hend⟩ := hg
  have hseg : (j + 1) * s.settings.size ≤ s.settings.count * s.settings.size := Nat.mul_le_mul_right _ hj
  rw [Nat.add_mul, Nat.one_mul] at hseg
  unfold segAddr
  omega

/-- Different segments lie apart. -/
theorem segment_apart (hg : s.GeometryOk) {j l : Nat} (h : j ≠ l) :
    s.segAddr j + 300 ≤ s.segAddr l ∨ s.segAddr l + 300 ≤ s.segAddr j := by
  have hsize := hg.2.2.2.1
  rcases Nat.lt_or_gt_of_ne h with hlt | hlt
  · have := segAddr_apart s hlt
    omega
  · have := segAddr_apart s hlt
    omega

/-- The sweep has ended in `w`, and `x` shows the mirror of the collection, nothing being offered yet. -/
structure SweptShown (s w x : State) : Prop where
  swept : s.Swept w s.settings.count
  wrote : w.Wrote x fun a => 0x9A ≤ a ∧ a ≤ 0xA2
  coll : x.coll = { Coll.afterReset with next := w.coll.next }
  after : s.NextAfter w.coll.next.val

namespace SweptShown

theorem settings (h : s.SweptShown w x) : x.settings = s.settings := by rw [h.wrote.rest, h.swept.rest]

theorem time (h : s.SweptShown w x) : x.time = s.time := by rw [h.wrote.rest, h.swept.rest]

theorem wake (h : s.SweptShown w x) : x.wake = w.wake := by rw [h.wrote.rest]

theorem segAddr (h : s.SweptShown w x) (j : Nat) : x.segAddr j = s.segAddr j := segAddr_congr h.settings j

theorem region (h : s.SweptShown w x) (a : Nat) (ha : 0x2000 ≤ a) : x.peek a = w.peek a := h.wrote.keeps a (by omega)

theorem segState_iff (h : s.SweptShown w x) (hg : s.GeometryOk) :
    x.segState x.coll.next.val = 0 ↔ s.segState w.coll.next.val = 0 := by
  rw [← h.swept.segState_iff hg (h.after.lt hg), segState, h.segAddr, h.coll,
    h.region _ (hg.1.trans (base_le_segAddr s _)), segState, segAddr_congr h.swept.settings]

/-- The words below the collection region, but for the mirror, stand. -/
theorem low (h : s.SweptShown w x) (hg : s.GeometryOk) {a : Nat} (ha : ¬ (0x2000 ≤ a ∨ (0x9A ≤ a ∧ a ≤ 0xA2))) :
    x.peek a = s.peek a := by
  rw [h.wrote.keeps a (by omega)]
  exact h.swept.keeps a fun ⟨j, _, _, hw⟩ => by
    have := recoveryWord_bounds hg hw
    omega

end SweptShown

/-- The segment behind the last header found FILLING reads EMPTY: the RESTART record opens it. -/
theorem recovered_of_empty (h : s.SweptShown w x) (hg : s.GeometryOk) (hempty : s.segState w.coll.next.val = 0) :
    s.Recovered (x.offer (restartRecord s.power.cause)) := by
  have hmax : Config.memoryWords = 0x8000 := rfl
  have hset := h.settings
  have htime := h.time
  have hwake := h.wake
  have hseg := h.segAddr
  have hbase (j : Nat) : 0x2000 ≤ s.segAddr j := hg.1.trans (base_le_segAddr s j)
  have hxw := h.region
  have hxc := h.coll
  have hsw := h.swept
  have hcoll := h.wrote
  have hafter := h.after
  have hlt := hafter.lt hg
  have hstate := h.segState_iff hg
  obtain ⟨hlow, hend⟩ := segment_bounds hg hlt
  obtain ⟨htc, htw, -, -, -, -, -, -, -, -, hwords, hkeep⟩ := offer_opens (s := x) (r := restartRecord s.power.cause)
    (at_ := s.segAddr w.coll.next.val) (recs := 1) (.inl (by rw [hxc]; rfl)) (hstate.2 hempty) (by rw [hseg, hxc])
    (by rw [hxc]; rfl) hlow (by simp only [restartRecord, Record.length, List.length_cons, List.length_nil]; omega) rfl
  rw [opening_coll] at htc
  have hframe := x.offer_frame (restartRecord s.power.cause)
  have hrest : x.offer (restartRecord s.power.cause) =
      { x with
        mem := (x.offer (restartRecord s.power.cause)).mem, coll := (x.offer (restartRecord s.power.cause)).coll } :=
    eq_of_fields (by simp [htw])
  generalize x.offer (restartRecord s.power.cause) = t at *
  have hlead : x.leadOf = 0 := if_pos (by rw [hxc]; rfl)
  rw [hlead] at hkeep hwords
  have hoff : x.offering.coll = { Coll.afterReset with next := w.coll.next, offered := 1 } := by
    show { x.coll with offered := x.coll.offered + 1 } = _
    rw [hxc]
    rfl
  rw [show x.offering.leadOf = 0 from if_pos (by rw [hoff]; rfl), hoff] at htc
  have htset : t.settings = s.settings := by rw [hrest]; exact hset
  have hst : t.coll.st = .filling w.coll.next x.now := by rw [htc]; rfl
  have hused : t.coll.used = 3 := by rw [htc]; rfl
  have hmod : (w.coll.next.val + 1) % s.settings.count < s.settings.count := Nat.mod_lt _ (by omega)
  have hcount := hg.2.2.1
  have hword (j : Nat) (hj : j < 3) : t.peek (s.segAddr w.coll.next.val + 5 + j) =
      [(restartRecord s.power.cause).header, s.time.timestamp, BitVec.ofNat 32 s.power.cause.code].getD j 0 := by
    rw [← htime]
    exact hwords j hj
  refine ⟨⟨_, hafter⟩, fun i hi h1 => hsw.closed_after hg hi h1 fun l hl => ?_, fun n hn _ => ?_, fun n hn h => ?_, ?_, fun b => ?_,
    fun a ha => ?_, ?_⟩
  · have hne : i ≠ w.coll.next.val := fun e => by rw [← e] at hempty; omega
    have := segment_apart hg hne
    have := hbase i
    exact (hkeep _ (by simp only [restartRecord, Record.length, List.length_cons, List.length_nil]; omega)).trans
      (hxw _ (by omega))
  · obtain rfl := hn.unique hafter
    refine ⟨⟨_, _, hst, rfl⟩, ?_, by rw [htc]; rfl, hword 0 (by omega), hword 1 (by omega), hword 2 (by omega), hused,
      by rw [htc]; exact ⟨rfl, rfl⟩⟩
    rw [htc]
    show (w.coll.next.val + 1) % x.settings.count % 16 = _
    rw [hset]
    exact Nat.mod_eq_of_lt (by omega)
  · exact absurd (hn.unique hafter ▸ hempty) h
  · refine .inl ⟨w.coll.next, by unfold GeometryOk; rw [htset]; exact hg, by rw [htset]; exact hlt, ⟨_, hst⟩, ?_⟩
    have := hg.2.2.2.1
    rw [hused, htset]
    omega
  · rw [htw, hwake, hsw.pending, hst]
    simp
  · exact (hkeep a (by simp only [restartRecord, Record.length, List.length_cons, List.length_nil]; omega)).trans (h.low hg ha)
  · have hw : t.wake = w.wake := htw.trans hwake
    rw [hw]
    conv_lhs => rw [hrest, hcoll.rest, hsw.rest]

/-- It does not read EMPTY: the RESTART record is dropped, and the unit starves. -/
theorem recovered_of_used (h : s.SweptShown w x) (hg : s.GeometryOk) (hempty : s.segState w.coll.next.val ≠ 0) :
    s.Recovered (x.offer (restartRecord s.power.cause)) := by
  have hset := h.settings
  have hwake := h.wake
  have hseg := h.segAddr
  have hbase (j : Nat) : 0x2000 ≤ s.segAddr j := hg.1.trans (base_le_segAddr s j)
  have hxw := h.region
  have hxc := h.coll
  have hsw := h.swept
  have hcoll := h.wrote
  have hafter := h.after
  have hstate := h.segState_iff hg
  have hdrops : x.offering.coll.drops = 0 := by
    show x.coll.drops = 0
    rw [hxc]
    rfl
  obtain ⟨htc, htw, hkeep⟩ := offer_starves (s := x) (r := restartRecord s.power.cause)
    (t := x.offer (restartRecord s.power.cause)) (.inl (by rw [hxc]; rfl)) (fun h => hempty (hstate.1 h)) rfl
  have hframe := x.offer_frame (restartRecord s.power.cause)
  have hrest : x.offer (restartRecord s.power.cause) =
      { x with
        mem := (x.offer (restartRecord s.power.cause)).mem, coll := (x.offer (restartRecord s.power.cause)).coll
        wake := (x.offer (restartRecord s.power.cause)).wake } :=
    eq_of_fields (by simp)
  rw [dropRecord_eq, if_pos hdrops, if_pos hdrops] at htc htw
  generalize x.offer (restartRecord s.power.cause) = t at *
  have htset : t.settings = s.settings := by rw [hrest]; exact hset
  have hst : t.coll.st = .starved := by rw [htc]
  have hnext : t.coll.next = w.coll.next := by
    rw [htc]
    show x.coll.next = _
    rw [hxc]
  refine ⟨⟨_, hafter⟩, fun i hi h1 => hsw.closed_after hg hi h1 fun l hl => ?_, fun n hn h => ?_, fun n hn _ => ?_, ?_, fun b => ?_,
    fun a ha => ?_, ?_⟩
  · have := hbase i
    exact (hkeep _ (by omega)).trans (hxw _ (by omega))
  · exact absurd (hn.unique hafter ▸ h) hempty
  · exact ⟨hst, by rw [hnext, hn.unique hafter]⟩
  · refine .inr ⟨by unfold GeometryOk; rw [htset]; exact hg, hst, fun h => hempty (hstate.1 ?_), ?_⟩
    · have := hbase w.coll.next.val
      unfold segState at h ⊢
      rw [segAddr_congr htset, hnext, hkeep _ (by omega)] at h
      rw [hseg, hxc]
      exact h
    · rw [htc]
      show min (x.coll.drops + 1) 4294967295 ≠ 0
      omega
  · rw [htw, raised_pending_iff, show x.offering.wake = w.wake from hwake, hsw.pending, hst]
    simp only [and_true, or_assoc]
  · exact (hkeep a (by omega)).trans (h.low hg ha)
  · conv_lhs => rw [hrest, hcoll.rest, hsw.rest]

theorem recover_recovered (hg : s.GeometryOk) (hc : s.coll = Coll.afterReset) : s.Recovered s.recover := by
  have hsw := swept_all hg le_rfl
  have hrec : s.recover =
      ((List.range s.settings.count).foldl recoverSegment s).writeColl.offer (restartRecord s.power.cause) := by
    show ((List.range s.settings.count).foldl recoverSegment s).writeColl.offer
      (restartRecord ((List.range s.settings.count).foldl recoverSegment s).power.cause) = _
    rw [show ((List.range s.settings.count).foldl recoverSegment s).power = s.power by rw [hsw.rest]]
  have hcoll := writeColl_wrote ((List.range s.settings.count).foldl recoverSegment s)
  rw [hrec]
  generalize (List.range s.settings.count).foldl recoverSegment s = w at *
  generalize w.writeColl = x at *
  have hshown : s.SweptShown w x := by
    refine ⟨hsw, hcoll, ?_, hsw.nextAfter (by rw [hc]; rfl)⟩
    rw [hcoll.rest]
    show w.coll = _
    rw [hsw.rest, hc]
  by_cases hempty : s.segState w.coll.next.val = 0
  · exact recovered_of_empty hshown hg hempty
  · exact recovered_of_used hshown hg hempty

end Sys2Proof.Machine.State

end

section
/-! PROOFS. The visit that the end of a reset may begin: its record, its broadcast, and the run of the visit list (R14, R138, R140,
R141). -/

namespace Sys2Proof.Machine.State

variable {s t u v w y : State} {i n : Fin 16} {r : Record} {m : Nat} {c : Ctx} {l : Fin 32} {e : QEntry}

/-! ## Records of a run's end (R20) -/

theorem takes_congr (hc : t.coll = s.coll) (hs : t.settings = s.settings) (hk : ∀ a, 0x2000 ≤ a → t.peek a = s.peek a)
    (h : s.Takes m) : t.Takes m := by
  rcases h with ⟨n, hroom⟩ | ⟨hg, hst, hnext, hdrops⟩
  · exact .inl ⟨n, (roomFor_congr hc hs).2 hroom⟩
  · refine .inr ⟨by unfold GeometryOk; rw [hs]; exact hg, by rw [hc]; exact hst, ?_, by rw [hc]; exact hdrops⟩
    unfold segState at *
    rw [segAddr_congr hs, hc, hk _ (hg.1.trans (base_le_segAddr s _))]
    exact hnext

theorem takenWord_congr (hc : t.coll = s.coll) (hs : t.settings = s.settings) (a : Nat) : t.TakenWord a ↔ s.TakenWord a := by
  unfold TakenWord
  simp only [hc, hs, segAddr_congr hs]

/-- The words taken lie in the mirror or in the collection region. -/
theorem takenWord_place (h : s.Takes m) {a : Nat} (ha : s.TakenWord a) : (0x9A ≤ a ∧ a ≤ 0xA2) ∨ 0x2000 ≤ a := by
  have hbase : 0x2000 ≤ s.settings.base := by
    rcases h with ⟨n, hroom⟩ | ⟨hg, -⟩
    · exact hroom.1.1
    · exact hg.1
  rcases ha with ha | ⟨n, start, -, ha⟩
  · exact .inl ha
  · have := base_le_segAddr s n.val
    omega

/-- What an offer to a unit that takes it leaves, whatever is offered. -/
structure Passed (s t : State) : Prop where
  segment : t.coll.st = s.coll.st ∧ t.coll.next = s.coll.next ∧ t.coll.seq = s.coll.seq
  keeps : s.KeepsWords t s.TakenWord
  rest : t = { s with mem := t.mem, coll := t.coll }

theorem offerIf_passed {b : Bool} (h : s.Takes r.length) (ht : t = if b then s.offer r else s) : s.Passed t := by
  cases b with
  | false =>
    rw [ht, if_neg (by decide)]
    exact ⟨⟨rfl, rfl, rfl⟩, .refl s _, rfl⟩
  | true =>
    rw [ht, if_pos rfl]
    have htook : s.Took (s.offer r) r 0 := offer_took h
    exact ⟨htook.segment, htook.keeps, htook.rest⟩

/-- The end of a run with no request held leaves the segment and the words but its own. -/
theorem finishRun_passed {o : ListOutcome} {failing : Option StepOutcome} {addr : Option Nat} (hin : s.req.inflight = [])
    (h : s.Takes 5) (ht : t = s.finishRun c o failing addr) :
    (t.coll.st = s.coll.st ∧ t.coll.next = s.coll.next ∧ t.coll.seq = s.coll.seq) ∧
      s.KeepsWords t (fun a => RunEndWord c.list a ∨ s.TakenWord a) ∧
      t = { s with
        mem := t.mem, coll := t.coll
        engine := { s.engine with ctx := none, cuts := 0, completed := s.engine.completed + 1 } } := by
  obtain ⟨-, -, -, hk1, he1⟩ := runEndShown_words s c.list o
  have hfin : t = (fun x : State => (x.setEngine { x.engine with ctx := none, cuts := 0 }).showRunning)
      ((fun x : State => (x.setEngine { x.engine with completed := x.engine.completed + 1 }).showCompleted.completeHeld
          .cut .ok (BitVec.ofNat 32 o.code))
        (if c.endRecord then (s.runEndShown c.list o).offer (listEndRecord c o failing addr)
          else s.runEndShown c.list o)) := ht
  have hd := dirAddr_bounds c.list
  have ho := outcomeAddr_bounds c.list
  generalize s.runEndShown c.list o = a at *
  have hac : a.coll = s.coll := by rw [he1]
  have has : a.settings = s.settings := by rw [he1]
  have htakes : a.Takes (listEndRecord c o failing addr).length :=
    takes_congr hac has (fun x hx => hk1 x (by omega)) (m := 5) h
  obtain ⟨hseg, hk2, he2⟩ := offerIf_passed (b := c.endRecord) htakes rfl
  generalize (if c.endRecord then a.offer (listEndRecord c o failing addr) else a) = b at *
  have hbe : b.engine = s.engine := by rw [he2, he1]
  dsimp only at hfin
  rw [hbe] at hfin
  have hk3 : b.KeepsWords (b.setEngine { s.engine with completed := s.engine.completed + 1 }).showCompleted (· = 0x44) :=
    poke_keepsWords _ _ _
  have he3 : (b.setEngine { s.engine with completed := s.engine.completed + 1 }).showCompleted =
      { b with
        mem := (b.setEngine { s.engine with completed := s.engine.completed + 1 }).showCompleted.mem
        engine := { s.engine with completed := s.engine.completed + 1 } } := rfl
  generalize (b.setEngine { s.engine with completed := s.engine.completed + 1 }).showCompleted = d at *
  have hdin : d.req.inflight = [] := by rw [he3, he2, he1]; exact hin
  have hk4 := completeHeld_keepsWords d .cut .ok (BitVec.ofNat 32 o.code)
  have he4 := completeHeld_eq d .cut .ok (BitVec.ofNat 32 o.code)
  rw [heldGone_of_none (by rw [hdin]; exact fun q hq => absurd hq List.not_mem_nil)] at he4
  generalize d.completeHeld .cut .ok (BitVec.ofNat 32 o.code) = f at *
  have hfe : f.engine = { s.engine with completed := s.engine.completed + 1 } := by rw [he4, he3]
  rw [hfe] at hfin
  have hk5 : f.KeepsWords t (· = 0x45) := by rw [hfin]; exact poke_keepsWords _ _ _
  have htc : t.coll = b.coll := by rw [hfin, showRunning, poke]; simp; rw [he4, he3]
  rw [← htc, hac] at hseg
  refine ⟨hseg, fun x hx => ?_, ?_⟩
  · simp only [RunEndWord, not_or] at hx
    obtain ⟨⟨hxa, hxb, hxc, hxd, hxe⟩, hxt⟩ := hx
    have hheld : ¬ d.HeldWord .cut x := by
      rintro ⟨q, hq, -⟩
      rw [heldOf, hdin] at hq
      exact absurd hq List.not_mem_nil
    rw [hk5 x hxe, hk4 x hheld, hk3 x hxd, hk2 x fun hb => hxt ((takenWord_congr hac has x).1 hb)]
    exact hk1 x (by omega)
  · rw [htc, hfin, he4, he3, he2, he1]
    rfl

/-! ## The trigger of the visit list at a reset's end (R10, R14) -/

/-- The engine has been reset: IDLE, with nothing queued, running or held. -/
def EngineClear (s : State) : Prop := s.engine.mode = .idle ∧ s.engine.queue = [] ∧ s.engine.ctx = none

/-- What the trigger of a list in a part just reset does: an enabled list with a start address in the list area runs. -/
structure ListStarted (s t : State) (l : Option (Fin 32)) : Prop where
  segment : t.coll.st = s.coll.st ∧ t.coll.next = s.coll.next ∧ t.coll.seq = s.coll.seq
  word40 : t.peek 0x40 = t.word40
  snapshot : t.SnapshotShown
  stands : (l = none ∨ ∃ k, l = some k ∧ (readDir s.mem k).enabled = false) → t.engine = s.engine
  runs : ∀ k, l = some k → (readDir s.mem k).enabled = true → inListArea (readDir s.mem k).start →
    t.engine = { s.engine with mode := .running, ctx := some (s.freshCtx k .visit) }
  keeps : s.KeepsWords t fun a =>
    a = 0x40 ∨ (0x44 ≤ a ∧ a ≤ 0x56) ∨ (0xBC ≤ a ∧ a < 0xC0) ∨
      (∃ k, a = dirAddr k + 2 ∨ a = dirAddr k + 3) ∨ s.TakenWord a
  rest : t = { s with mem := t.mem, coll := t.coll, engine := t.engine }

theorem freshCtx_congr (hd : readDir t.mem l = readDir s.mem l) (ht : t.time.timestamp = s.time.timestamp) (src : Source) :
    t.freshCtx l src = s.freshCtx l src := by
  unfold freshCtx
  rw [hd, ht]

/-- A list that is queued in IDLE, with nothing else queued, and the shed level NONE. -/
theorem offerTrigger_of_clear {src : Source} (hclear : s.EngineClear) (hshed : s.duty.shed = .none)
    (hen : (readDir s.mem l).enabled = true) :
    s.offerTrigger l src =
      (s.setQueue [{ list := l, urgent := (readDir s.mem l).urgent, source := src }]).startNext := by
  obtain ⟨hmode, hqueue, -⟩ := hclear
  have hplace (e : QEntry) : place e [] = [e] := by simp [place, insertUrgent]
  have hdrops : s.duty.shed.drops src = false := by rw [hshed]; rfl
  unfold offerTrigger trigger
  simp [hen, hdrops, hqueue, hplace, setQueue_engine, hmode]

theorem offerTrigger_of_disabled {src : Source} (h : (readDir s.mem l).enabled = false) : s.offerTrigger l src = s := by
  unfold offerTrigger trigger
  simp [h]

theorem listStarted_none (h40 : s.peek 0x40 = s.word40) (hsnap : s.SnapshotShown)
    (hno : ∀ k, o = some k → (readDir s.mem k).enabled = false) : s.ListStarted s o where
  segment := ⟨rfl, rfl, rfl⟩
  word40 := h40
  snapshot := hsnap
  stands _ := rfl
  runs k hk hen := absurd (hno k hk) (by rw [hen]; decide)
  keeps := .refl s _
  rest := rfl

/-- The list's entry leaves the queue again, and the run starts. -/
theorem startNext_listStarted (hclear : s.EngineClear) (hin : s.req.inflight = []) (htakes : s.Takes 5)
    (hen : (readDir s.mem l).enabled = true)
    (ht : t = (s.setQueue [{ list := l, urgent := (readDir s.mem l).urgent, source := .visit }]).startNext) :
    s.ListStarted t (some l) := by
  obtain ⟨hmode, hqueue, hctx⟩ := hclear
  have hk1 := setQueue_keepsWords s [{ list := l, urgent := (readDir s.mem l).urgent, source := .visit }]
  have he1 := setQueue_eq s [{ list := l, urgent := (readDir s.mem l).urgent, source := .visit }]
  generalize s.setQueue [{ list := l, urgent := (readDir s.mem l).urgent, source := .visit }] = q at *
  have hq : q.engine.queue = [{ list := l, urgent := (readDir s.mem l).urgent, source := .visit }] := by rw [he1]
  have hd := dirAddr_bounds l
  have hdir : readDir q.mem l = readDir s.mem l :=
    readDir_congr (hk1 _ (by unfold QueueWord; omega)) (hk1 _ (by unfold QueueWord; omega))
  have hfresh : q.freshCtx l .visit = s.freshCtx l .visit := freshCtx_congr hdir (by rw [he1]) _
  obtain ⟨⟨heng, -, hsnap⟩, hk2, hshows, he2⟩ :=
    startRun_starts (s := q) { list := l, urgent := (readDir s.mem l).urgent, source := .visit } [] rfl
  have heng' : (q.startRun { list := l, urgent := (readDir s.mem l).urgent, source := .visit } []).engine =
      { s.engine with mode := .running, ctx := some (s.freshCtx l .visit) } := by
    rw [heng, hfresh, he1]
    simp [hqueue]
  have hc2 : (q.startRun { list := l, urgent := (readDir s.mem l).urgent, source := .visit } []).coll = s.coll := by rw [he2, he1]
  have hs2 : (q.startRun { list := l, urgent := (readDir s.mem l).urgent, source := .visit } []).settings = s.settings := by
    rw [he2, he1]
  have hctx2 := startRun_ctx (s := q) { list := l, urgent := (readDir s.mem l).urgent, source := .visit } []
  have hstart : s.KeepsWords (q.startRun { list := l, urgent := (readDir s.mem l).urgent, source := .visit } [])
      fun a => a = 0x40 ∨ (0x45 ≤ a ∧ a ≤ 0x56) :=
    (hk1.trans hk2).mono fun a ha => by unfold StartWord QueueWord at ha; omega
  by_cases harea : inListArea (readDir s.mem l).start
  · rw [startNext_of_good hq (by rw [hdir]; exact harea)] at ht
    rw [← ht] at heng' hc2 hshows he2 hsnap hstart
    refine ⟨by rw [hc2]; exact ⟨rfl, rfl, rfl⟩, hshows.shown fun hw => ?_, hsnap, ?_, ?_, hstart.mono fun a ha => by omega, ?_⟩
    · obtain ⟨hcode, -⟩ := word40_eq_iff.1 hw
      rw [heng', show q.engine.mode = .idle by rw [he1]; exact hmode] at hcode
      exact absurd hcode (show ¬ (EngineMode.running.code % 4 = EngineMode.idle.code % 4) by decide)
    · rintro (h | ⟨k, hk, hdis⟩)
      · exact absurd h nofun
      · obtain rfl := Option.some.inj hk
        rw [hen] at hdis
        exact absurd hdis nofun
    · intro k hk _ _
      obtain rfl := Option.some.inj hk
      exact heng'
    · rw [hc2]
      conv_lhs => rw [he2, he1]
  · rw [startNext_of_bad hq (by rw [hdir]; exact harea)] at ht
    generalize q.startRun { list := l, urgent := (readDir s.mem l).urgent, source := .visit } [] = w at *
    obtain ⟨hseg, hk3, he3⟩ := finishRun_passed (s := w) (c := q.freshCtx l .visit) (o := .badStep) (failing := none)
      (addr := some (readDir q.mem l).start) (by rw [he2, he1]; exact hin)
      (takes_congr hc2 hs2 (fun a ha => hstart a (by omega)) htakes) rfl
    generalize w.finishRun (q.freshCtx l .visit) .badStep none (some (readDir q.mem l).start) = v at *
    have hk4 := setMode_keepsWords v .idle
    have hshown := setMode_shown (s := v) .idle (by rw [he3, heng']; exact nofun)
    have he4 := setMode_eq v .idle
    rw [← ht] at hk4 hshown he4
    have ho := outcomeAddr_bounds l
    have hlist : (q.freshCtx l .visit).list = l := rfl
    rw [hlist] at hk3
    have hmid (a : Nat) (ha : v.peek a ≠ w.peek a) : RunEndWord l a ∨ s.TakenWord a :=
      Classical.byContradiction fun h => ha (hk3 a fun hb =>
        h (hb.imp_right (takenWord_congr hc2 hs2 a).1))
    refine ⟨?_, hshown, snapshotShown_congr hsnap ?_ fun a ha => ?_, ?_, ?_, fun a ha => ?_, ?_⟩
    · rw [show t.coll = v.coll by rw [he4], ← hc2]
      exact hseg
    · rw [he4, he3]
    · rw [hk4 a (by unfold QueueWord at ha; omega)]
      refine Classical.byContradiction fun h => ?_
      rcases hmid a h with h | h
      · have := runEndWord_bounds h
        unfold QueueWord at ha
        omega
      · have := takenWord_place htakes h
        unfold QueueWord at ha
        omega
    · rintro (h | ⟨k, hk, hdis⟩)
      · exact absurd h nofun
      · obtain rfl := Option.some.inj hk
        rw [hen] at hdis
        exact absurd hdis nofun
    · intro k hk _ hgood
      obtain rfl := Option.some.inj hk
      exact absurd hgood harea
    · simp only [not_or] at ha
      obtain ⟨h40, hlow, hout, hdirw, htaken⟩ := ha
      rw [hk4 a h40, ← hstart a (by omega)]
      refine Classical.byContradiction fun h => (hmid a h).elim (fun hb => ?_) htaken
      unfold RunEndWord at hb
      rcases hb with hb | hb | hb | hb | hb
      · exact hdirw ⟨l, .inl hb⟩
      · exact hdirw ⟨l, .inr hb⟩
      · omega
      · omega
      · omega
    · rw [show t.coll = v.coll by rw [he4], show t.engine = { v.engine with mode := .idle } by rw [he4]]
      generalize v.engine = ve at *
      generalize v.coll = vc at *
      generalize w.engine = we at *
      conv_lhs => rw [he4, he3, he2, he1]

/-- The trigger of the visit list, where there is one. -/
theorem visitList_started {o : Option (Fin 32)} (hclear : s.EngineClear) (hin : s.req.inflight = []) (hshed : s.duty.shed = .none)
    (htakes : s.Takes 5) (h40 : s.peek 0x40 = s.word40) (hsnap : s.SnapshotShown) (ht : t = s.offerTriggerTo o .visit) :
    s.ListStarted t o := by
  cases o with
  | none =>
    rw [ht]
    exact listStarted_none h40 hsnap fun k hk => absurd hk nofun
  | some l =>
    by_cases hen : (readDir s.mem l).enabled = true
    · exact startNext_listStarted hclear hin htakes hen (ht.trans (offerTrigger_of_clear hclear hshed hen))
    · have hdis : (readDir s.mem l).enabled = false := by simpa using hen
      rw [show t = s from ht.trans (offerTrigger_of_disabled hdis)]
      exact listStarted_none h40 hsnap fun k hk => by rw [← Option.some.inj hk]; exact hdis

/-! ## The visit (R138, R140) -/

/-- A visit has begun at a reset's end on input `i`; the contact inputs may settle beside it. -/
structure VisitBegun (s t : State) (i : Fin 16) : Prop where
  segment : t.coll.st = s.coll.st ∧ t.coll.next = s.coll.next ∧ t.coll.seq = s.coll.seq
  visit : t.visit = { state := .starting, begin := s.time.timestamp, input := i, endDue := none }
  bus : t.bus = { s.bus with visitPending := some .localRelease }
  record : ∀ n start, s.coll.st = .filling n start → ∀ j < 4,
    t.peek (s.segAddr n.val + 5 + s.coll.used + j) =
      ((visitRecord t.visit .begin).header :: s.time.timestamp :: (visitRecord t.visit .begin).payload).getD j 0
  pending : ∀ b : WakeCause,
    t.wake.pending.getLsbD b.index = true ↔ s.wake.pending.getLsbD b.index = true ∨ b = .visit
  word40 : t.peek 0x40 = t.word40
  snapshot : t.SnapshotShown
  stands : (s.settings.visitList = none ∨ ∃ k, s.settings.visitList = some k ∧ (readDir s.mem k).enabled = false) →
    t.engine = s.engine
  runs : ∀ k, s.settings.visitList = some k → (readDir s.mem k).enabled = true → inListArea (readDir s.mem k).start →
    t.engine = { s.engine with mode := .running, ctx := some (s.freshCtx k .visit) }
  keeps : s.KeepsWords t fun a =>
    a = 0x40 ∨ (0x44 ≤ a ∧ a ≤ 0x56) ∨ (0xBC ≤ a ∧ a < 0x100) ∨
      (∃ k, a = dirAddr k + 2 ∨ a = dirAddr k + 3) ∨ s.TakenWord a
  rest : t = { s with
    mem := t.mem, wake := t.wake, coll := t.coll, engine := t.engine, visit := t.visit, bus := t.bus, inputs := t.inputs }

/-- The visit `V` has begun, recorded and raised, its list not yet triggered. -/
structure VisitTold (s t : State) (V : Visit) : Prop where
  segment : t.coll.st = s.coll.st ∧ t.coll.next = s.coll.next ∧ t.coll.seq = s.coll.seq
  record : ∀ n start, s.coll.st = .filling n start → t.coll.used = s.coll.used + 4 ∧
    ∀ j < 4, t.peek (s.segAddr n.val + 5 + s.coll.used + j) =
      ((visitRecord V .begin).header :: s.time.timestamp :: (visitRecord V .begin).payload).getD j 0
  takes : t.Takes 5
  pending : ∀ b : WakeCause,
    t.wake.pending.getLsbD b.index = true ↔ s.wake.pending.getLsbD b.index = true ∨ b = .visit
  word40 : t.peek 0x40 = t.word40
  keeps : s.KeepsWords t fun x => x = 0x40 ∨ s.TakenWord x
  rest : t = { s with mem := t.mem, visit := V, coll := t.coll, wake := t.wake }

theorem visitMarked_told {V : Visit} (hne : V.state ≠ s.visit.state) (htakes : s.Takes 9) (ht : t = s.visitMarked V) :
    s.VisitTold t V := by
  unfold visitMarked at ht
  have hk1 := setVisitState_keepsWords s V
  have hshown := setVisitState_shown V hne
  have he1 := setVisitState_eq s V
  generalize s.setVisitState V = a at *
  have hav : a.visit = V := by rw [he1]
  have htook : a.Took (a.offerVisit .begin) (visitRecord V .begin) 5 := by
    rw [offerVisit, hav]
    exact offer_took (takes_congr (s := s) (by rw [he1]) (by rw [he1]) (fun x hx => hk1 x (by omega)) htakes)
  have htaken (x : Nat) : a.TakenWord x ↔ s.TakenWord x := takenWord_congr (by rw [he1]) (by rw [he1]) x
  generalize a.offerVisit .begin = b at *
  have hwake : b.wake = s.wake := by rw [htook.rest, he1]
  have hraised : t = { b with wake := b.raised .visit } := ht
  have hkb (x : Nat) : t.peek x = b.peek x := by rw [hraised]; rfl
  have hcs : a.coll = s.coll := by rw [he1]
  have hct : t.coll = b.coll := by rw [hraised]
  have hrest : t = { s with mem := t.mem, visit := V, coll := t.coll, wake := t.wake } := by
    rw [show t.mem = b.mem by rw [hraised], hct, show t.wake = b.raised .visit by rw [hraised]]
    generalize b.raised .visit = κ at *
    conv_lhs => rw [hraised, htook.rest, he1]
  refine ⟨?_, fun n start hst => ?_, takes_congr hct (by rw [hraised]) (fun x _ => hkb x) htook.takes, fun c => ?_, ?_,
    fun x hx => ?_, hrest⟩
  · rw [hct, ← hcs]
    exact htook.segment
  · have h := htook.used n start (by rw [hcs]; exact hst)
    rw [hcs, segAddr_congr (s := s) (t := a) (by rw [he1]), show a.time = s.time by rw [he1]] at h
    exact ⟨by rw [hct]; exact h.1, fun j hj => (hkb _).trans (h.2 j hj)⟩
  · rw [show t.wake = b.raised .visit by rw [hraised], raised_pending_iff, hwake]
  · have h40 : ¬ a.TakenWord 0x40 := fun h => by
      have := takenWord_place htakes ((htaken _).1 h)
      omega
    rw [hkb, htook.keeps 0x40 h40, hshown]
    refine word40_eq_iff.2 ?_
    rw [hrest, he1]
    exact ⟨rfl, rfl, rfl, rfl, rfl, rfl⟩
  · rw [hkb]
    exact (htook.keeps x fun h => hx (.inr ((htaken x).1 h))).trans (hk1 x fun h => hx (.inl h))

theorem takes_base (h : s.Takes m) (j : Nat) : 0x2000 ≤ s.segAddr j := by
  refine Nat.le_trans ?_ (base_le_segAddr s j)
  rcases h with ⟨n, hroom⟩ | ⟨hg, -⟩
  · exact hroom.1.1
  · exact hg.1

/-- Behind the BEGIN record, the words that the unit takes lie behind it. -/
theorem VisitTold.taken {V : Visit} (h : s.VisitTold t V) {a : Nat} (ha : t.TakenWord a) :
    (0x9A ≤ a ∧ a ≤ 0xA2) ∨ ∃ n start, s.coll.st = .filling n start ∧
      (a = s.segAddr n.val + 1 ∨ (s.segAddr n.val + 5 + s.coll.used + 4 ≤ a ∧ a < s.segAddr n.val + s.settings.size)) := by
  rcases ha with ha | ⟨n, start, hst, ha⟩
  · exact .inl ha
  · rw [h.segment.1] at hst
    rw [(h.record n start hst).1, segAddr_congr (show t.settings = s.settings by rw [h.rest]),
      show t.settings = s.settings by rw [h.rest]] at ha
    exact .inr ⟨n, start, hst, by omega⟩

theorem VisitTold.readDir {V : Visit} (h : s.VisitTold t V) (htakes : s.Takes m) (k : Fin 32) :
    Machine.readDir t.mem k = Machine.readDir s.mem k := by
  have hd := dirAddr_bounds k
  have hkept (a : Nat) (ha : dirAddr k ≤ a) (hb : a < 0x200) : t.peek a = s.peek a := h.keeps a fun hx => by
    have := hx.imp_right (takenWord_place htakes)
    omega
  exact readDir_congr (hkept _ (by omega) (by omega)) (hkept _ (by omega) (by omega))

theorem visitBegin_begun (hclear : s.EngineClear) (hin : s.req.inflight = []) (hshed : s.duty.shed = .none)
    (hoff : s.visit.state = .off) (hctl : s.bus.ctl ≠ .idle) (htakes : s.Takes 9) (hsnap : s.SnapshotShown)
    (ht : t = s.visitBegin i s.time.timestamp) :
    s.VisitBegun t i ∧ t.inputs = s.inputs ∧ ∀ a, 0xC0 ≤ a → a < 0x100 → t.peek a = s.peek a := by
  rw [visitBegin_eq] at ht
  have htold := visitMarked_told (V := { state := .starting, begin := s.time.timestamp, input := i, endDue := none })
    (by rw [hoff]; exact nofun) htakes rfl
  generalize s.visitMarked { state := .starting, begin := s.time.timestamp, input := i, endDue := none } = d at *
  have hdrest := htold.rest
  have hdir := htold.readDir htakes
  have hstarted := visitList_started (s := d) (o := s.settings.visitList) (by rw [EngineClear, hdrest]; exact hclear)
    (by rw [hdrest]; exact hin) (by rw [hdrest]; exact hshed) htold.takes htold.word40
    (snapshotShown_congr hsnap (by rw [hdrest]) fun x hx => htold.keeps x fun h => by
      have := h.imp_right (takenWord_place htakes)
      unfold QueueWord at hx
      omega) rfl
  rw [show d.settings = s.settings by rw [hdrest]] at ht
  generalize d.offerTriggerTo s.settings.visitList .visit = g at *
  obtain ⟨hk5, hshows, he5⟩ := makePending_pending ht
  have hgrest := hstarted.rest
  have hgbus : g.bus = s.bus := by rw [hgrest, hdrest]
  rw [busPending_of_busy (by rw [hgbus]; exact hctl), hgbus] at he5
  have hcg : t.coll = g.coll := by rw [he5]
  have heng : t.engine = g.engine := by rw [he5]
  have hwake : t.wake = d.wake := by rw [he5, hgrest]
  have hvis : t.visit = { state := .starting, begin := s.time.timestamp, input := i, endDue := none } := by
    rw [he5, hgrest, hdrest]
  have hbus : t.bus = { s.bus with visitPending := some .localRelease } := by rw [he5]
  have hkeep : s.KeepsWords t fun a =>
      a = 0x40 ∨ (0x44 ≤ a ∧ a ≤ 0x56) ∨ (0xBC ≤ a ∧ a < 0xC0) ∨
        (∃ k, a = dirAddr k + 2 ∨ a = dirAddr k + 3) ∨ s.TakenWord a := fun x hx => by
    simp only [not_or] at hx
    obtain ⟨h40, hlow, hout, hdirw, htk⟩ := hx
    rw [hk5 x h40, hstarted.keeps x, htold.keeps x fun h => h.elim h40 htk]
    rintro (h | h | h | h | h)
    · exact h40 h
    · exact hlow h
    · exact hout h
    · exact hdirw h
    · rcases htold.taken h with h | ⟨l, b', hl, h⟩
      · exact htk (.inl h)
      · exact htk (.inr ⟨l, b', hl, by omega⟩)
  have hinputs : t.inputs = s.inputs := by rw [he5, hgrest, hdrest]
  refine ⟨⟨?_, hvis, hbus, fun n start hst j hj => ?_, ?_, ?_,
    snapshotShown_congr hstarted.snapshot (by rw [heng]) fun x hx => hk5 x (by unfold QueueWord at hx; omega), fun h => ?_,
    fun k hk hen hgood => ?_, hkeep.mono fun x hx => ?_, ?_⟩, hinputs, fun a ha hb => hkeep a fun h => ?_⟩
  · obtain ⟨h1, h2, h3⟩ := hstarted.segment
    obtain ⟨h4, h5, h6⟩ := htold.segment
    rw [hcg]
    exact ⟨h1.trans h4, h2.trans h5, h3.trans h6⟩
  · rw [hvis, ← (htold.record n start hst).2 j hj]
    have := takes_base htakes n.val
    rw [hk5 _ (by omega)]
    refine hstarted.keeps _ fun h => ?_
    rcases h with h | h | h | ⟨k, h⟩ | h
    · omega
    · omega
    · omega
    · have := dirAddr_bounds k
      omega
    · rcases htold.taken h with h | ⟨l, b', hl, h⟩
      · omega
      · rw [hst] at hl
        obtain ⟨rfl, -⟩ := CollState.filling.inj hl
        omega
  · rw [hwake]
    exact htold.pending
  · rcases hshows with h | ⟨hw, hp⟩
    · exact h
    · rw [hp, hw, hstarted.word40]
  · rw [heng, hstarted.stands (h.imp_right fun ⟨k, hk, hdis⟩ => ⟨k, hk, by rw [hdir]; exact hdis⟩), hdrest]
  · rw [heng, hstarted.runs k hk (by rw [hdir]; exact hen) (by rw [hdir]; exact hgood),
      show d.engine = s.engine by rw [hdrest], freshCtx_congr (hdir k) (by rw [hdrest])]
  · exact hx.imp_right fun h => h.imp_right fun h => h.imp_left fun h => ⟨h.1, by omega⟩
  · rw [hwake, heng, hvis, hbus, hcg, hinputs]
    generalize d.wake = κ at *
    generalize g.coll = gc at *
    generalize g.engine = ge at *
    conv_lhs => rw [he5, hgrest, hdrest]
  · rcases h with h | h | h | ⟨k, h⟩ | h
    · omega
    · omega
    · omega
    · have := dirAddr_bounds k
      omega
    · have := takenWord_place htakes h
      omega

end Sys2Proof.Machine.State

end

section
/-! PROOFS. The contact inputs settle at a reset's end (R126, R139, R140). -/

namespace Sys2Proof.Machine.State

variable {s t u v w y : State} {i j : Fin 16} {x : Input} {held : Nat}

/-! ## One input settles -/

/-- The input that settling makes of an input cleared before it (R126). -/
def settledInput (g : InputSettings) (now : Moment) (x : Input) : Input :=
  if g.enabled = false then x
  else if g.tach then { x with level := isActive g x, settled := true, stallFrom := some now }
  else if g.debounce = 0 then { x with level := isActive g x, settled := true }
  else { x with window := .first (now + millis g.debounce) }

/-- The entry of input `i` shows it, with the held flags given (R124). -/
def InputShown (t : State) (i : Fin 16) (held : Nat) : Prop :=
  t.peek (inputAddr i) = statusWord t.inputs[i] held ∧ t.peek (inputAddr i + 1) = BitVec.ofNat 32 (t.inputs[i]).period ∧
    t.peek (inputAddr i + 2) = (t.inputs[i]).actCap ∧ t.peek (inputAddr i + 3) = (t.inputs[i]).relCap

theorem InputShown.congr (h : t.InputShown i held) (hx : u.inputs[i] = t.inputs[i])
    (hk : ∀ a, InputWord i a → u.peek a = t.peek a) : u.InputShown i held := by
  obtain ⟨h0, h1, h2, h3⟩ := h
  unfold InputShown
  rw [hx, hk _ ⟨by omega, by omega⟩, hk _ ⟨by omega, by omega⟩, hk _ ⟨by omega, by omega⟩, hk _ ⟨by omega, by omega⟩]
  exact ⟨h0, h1, h2, h3⟩

theorem InputShown.heldFlags (h : t.InputShown i held) (hh : held < 4) : t.heldFlags i = held := by
  rw [State.heldFlags, h.1, field_statusWord, Nat.mod_eq_of_lt hh]

/-- An enabled input settles at a reset's end; another stands. -/
def settleOnly (s : State) (i : Fin 16) : State :=
  if (s.settings.inputs[i]).enabled then s.settleInput i (s.settings.inputs[i]).tach else s

/-- Input `i` has settled, whose state and entry alone change. -/
structure InputSettles (s t : State) (i : Fin 16) : Prop where
  inputs : t.inputs = s.inputs.set i (settledInput s.settings.inputs[i] s.now s.inputs[i])
  shown : ∀ held < 4, s.InputShown i held → t.InputShown i held
  keeps : s.KeepsWords t (InputWord i)
  rest : t = { s with mem := t.mem, inputs := t.inputs }

theorem setInputAt_self (s : State) (i : Fin 16) : s.setInputAt i s.inputs[i] = s := setRaw_self s i

/-- Whatever gives the input the state in which it settles, and writes no more than its status and period. -/
theorem inputSettles_of (hx : settledInput s.settings.inputs[i] s.now s.inputs[i] = x)
    (hcap : x.actCap = (s.inputs[i]).actCap ∧ x.relCap = (s.inputs[i]).relCap)
    (hkeep : s.KeepsWords t fun a => a = inputAddr i ∨ a = inputAddr i + 1)
    (hstatus : ∀ held < 4, s.InputShown i held → t.peek (inputAddr i) = statusWord x held)
    (hperiod : ∀ held, s.InputShown i held → t.peek (inputAddr i + 1) = BitVec.ofNat 32 x.period)
    (heq : t = { s with mem := t.mem, inputs := s.inputs.set i x }) : s.InputSettles t i := by
  have hin : t.inputs[i] = x := by
    rw [heq]
    exact Vector.getElem_set_self (by omega)
  obtain ⟨hact, hrel⟩ := hcap
  refine ⟨by rw [hx, heq], fun held hh h => ?_, hkeep.mono fun a ha => ⟨by omega, by omega⟩, ?_⟩
  · have hw := hstatus held hh h
    have hp := hperiod held h
    obtain ⟨-, -, h2, h3⟩ := h
    unfold InputShown
    rw [hin, hkeep (inputAddr i + 2) (by omega), hkeep (inputAddr i + 3) (by omega), hact, hrel]
    exact ⟨hw, hp, h2, h3⟩
  · rw [show t.inputs = s.inputs.set i x by rw [heq]]
    exact heq

/-- The settling of an input cleared by the reset. -/
theorem settleOnly_settles (hclean : clearedInput s.inputs[i] = s.inputs[i]) : s.InputSettles (s.settleOnly i) i := by
  have hset : (s.inputs[i]).settled = false := (congrArg Input.settled hclean).symm
  have hstall : (s.inputs[i]).stalled = false := (congrArg Input.stalled hclean).symm
  have hwin : (s.inputs[i]).window = .none := (congrArg Input.window hclean).symm
  have hself (u : State) (hu : u = s.setInputAt i s.inputs[i]) : u = s := hu.trans (setInputAt_self s i)
  unfold settleOnly
  by_cases he : (s.settings.inputs[i]).enabled = true
  · rw [if_pos he, settleInput_eq, if_neg (by rw [hstall]; exact nofun), settled]
    by_cases ht : (s.settings.inputs[i]).tach = true
    · have hgives := putPeriod_gives (s := s) (i := i) (x := s.tachSettled i) ht
      obtain ⟨hkeep, hstatus, hperiod, heq⟩ := hgives
      rw [if_pos ht]
      have hx : s.tachSettled i = { s.inputs[i] with
          level := isActive s.settings.inputs[i] s.inputs[i], settled := true, stallFrom := some s.now } := by
        rw [tachSettled, hclean]
      have hne : statusWord (s.tachSettled i) 0 ≠ statusWord s.inputs[i] 0 := fun h =>
        statusWord_settles (x := s.inputs[i]) (y := s.tachSettled i) hset (by rw [hx]) h.symm
      have hword := (putPeriod_written s i (s.tachSettled i)).1
      generalize s.putPeriod i (s.tachSettled i) = t at *
      refine inputSettles_of (x := s.tachSettled i) ?_ ⟨rfl, rfl⟩ (hkeep.mono fun a ha => ha.imp_right And.right)
        (fun held hh h => (hstatus hne).trans (by rw [h.heldFlags hh])) (fun _ _ => hword) heq
      rw [hx, settledInput, if_neg (by rw [he]; exact nofun), if_pos ht]
    · rw [if_neg ht, clearPeriod, if_neg ht, hclean, hself _ (putInput_of_same rfl), beginFirstWindow]
      by_cases hd : (s.settings.inputs[i]).debounce = 0
      · rw [if_pos hd]
        obtain ⟨hstatus, hkeep, heq⟩ := endFirstWindow_settles (s := s) (i := i) (raw := (s.inputs[i]).raw)
          (t := s.endFirstWindow i) hset (by rw [setRaw_self])
        have hx : settledInput s.settings.inputs[i] s.now s.inputs[i] =
            { s.inputs[i] with
              raw := (s.inputs[i]).raw, level := (s.inputs[i]).raw != (s.settings.inputs[i]).activeLow, settled := true
              window := .none } := by
          rw [settledInput, if_neg (by rw [he]; exact nofun), if_neg ht, if_pos hd, ← hwin]
          rfl
        generalize s.endFirstWindow i = t at *
        exact inputSettles_of hx ⟨rfl, rfl⟩ (hkeep.mono fun a ha => .inl ha)
          (fun held hh h => hstatus.trans (by rw [h.heldFlags hh])) (fun held h => (hkeep _ (by omega)).trans h.2.1) heq
      · rw [if_neg hd, putInput_window]
        have hx : settledInput s.settings.inputs[i] s.now s.inputs[i] =
            { s.inputs[i] with window := .first (s.now + millis (s.settings.inputs[i]).debounce) } := by
          rw [settledInput, if_neg (by rw [he]; exact nofun), if_neg ht, if_neg hd]
        exact inputSettles_of hx ⟨rfl, rfl⟩ (.of_mem rfl) (fun held _ h => h.1) (fun held h => h.2.1) rfl
  · rw [if_neg he]
    refine inputSettles_of (x := s.inputs[i]) ?_ ⟨rfl, rfl⟩ (.refl s _) (fun held _ h => h.1) (fun held h => h.2.1)
      (setInputAt_self s i).symm
    rw [settledInput, if_pos (by simpa using he)]

/-! ## The inputs settle one after another -/

namespace InputSettles

theorem settings (h : s.InputSettles t i) : t.settings = s.settings := by rw [h.rest]

theorem now (h : s.InputSettles t i) : t.now = s.now := by rw [h.rest]; rfl

theorem other (h : s.InputSettles t j) (hne : j ≠ i) : t.inputs[i] = s.inputs[i] := by
  rw [inputs_eq_of h.inputs]
  exact Vector.getElem_set_ne (by omega) (by omega) fun e => hne (Fin.ext e)

theorem same (h : s.InputSettles t i) : t.inputs[i] = settledInput s.settings.inputs[i] s.now s.inputs[i] := by
  rw [inputs_eq_of h.inputs]
  exact Vector.getElem_set_self (by omega)

theorem stands (h : s.InputSettles t j) (hne : j ≠ i) {a : Nat} (ha : InputWord i a) : t.peek a = s.peek a :=
  h.keeps a (inputWord_apart hne ha)

end InputSettles

/-- Input `i` of `s` has settled in `t`, and its entry shows it. -/
def HasSettled (s t : State) (i : Fin 16) : Prop :=
  t.inputs[i] = settledInput s.settings.inputs[i] s.now s.inputs[i] ∧
    ∀ held < 4, s.InputShown i held → t.InputShown i held

/-- The inputs of a list settle in their order. -/
structure InputsSettle (s t : State) (l : List (Fin 16)) : Prop where
  settled : ∀ i ∈ l, s.HasSettled t i
  others : ∀ i ∉ l, t.inputs[i] = s.inputs[i] ∧ ∀ a, InputWord i a → t.peek a = s.peek a
  keeps : s.KeepsWords t fun a => 0xC0 ≤ a ∧ a < 0x100
  rest : t = { s with mem := t.mem, inputs := t.inputs }

theorem HasSettled.since (h : u.HasSettled t i) (hx : u.inputs[i] = s.inputs[i]) (hk : ∀ a, InputWord i a → u.peek a = s.peek a)
    (hset : u.settings = s.settings) (hnow : u.now = s.now) : s.HasSettled t i := by
  obtain ⟨hin, hshown⟩ := h
  rw [hx, hset, hnow] at hin
  exact ⟨hin, fun held hh hs => hshown held hh (hs.congr hx hk)⟩

theorem HasSettled.congr (h : s.HasSettled t i) (hx : u.inputs[i] = t.inputs[i])
    (hk : ∀ a, InputWord i a → u.peek a = t.peek a) : s.HasSettled u i :=
  ⟨hx.trans h.1, fun held hh hs => (h.2 held hh hs).congr hx hk⟩

theorem foldl_settle {l : List (Fin 16)} (hl : l.Nodup) (hclean : ∀ i ∈ l, clearedInput s.inputs[i] = s.inputs[i]) :
    s.InputsSettle (l.foldl settleOnly s) l := by
  induction l generalizing s with
  | nil => exact ⟨fun _ h => absurd h List.not_mem_nil, fun _ _ => ⟨rfl, fun _ _ => rfl⟩, .refl s _, rfl⟩
  | cons j l ih =>
    obtain ⟨hj, hl⟩ := List.nodup_cons.1 hl
    have hstep := settleOnly_settles (hclean j List.mem_cons_self)
    rw [List.foldl_cons]
    generalize s.settleOnly j = u at *
    have hne {i : Fin 16} (hi : i ∈ l) : j ≠ i := fun e => hj (e ▸ hi)
    have htail := ih (s := u) hl fun i hi => by
      rw [hstep.other (hne hi)]
      exact hclean i (List.mem_cons_of_mem _ hi)
    generalize l.foldl settleOnly u = t at *
    refine ⟨fun i hi => ?_, fun i hi => ?_, (hstep.keeps.trans htail.keeps).mono fun a ha => ?_, ?_⟩
    · rcases List.mem_cons.1 hi with rfl | hi
      · exact HasSettled.congr ⟨hstep.same, hstep.shown⟩ (htail.others i hj).1 (htail.others i hj).2
      · exact (htail.settled i hi).since (hstep.other (hne hi)) (fun a ha => hstep.stands (hne hi) ha) hstep.settings hstep.now
    · simp only [List.mem_cons, not_or] at hi
      obtain ⟨hx, hk⟩ := htail.others i hi.2
      exact ⟨hx.trans (hstep.other (Ne.symm hi.1)), fun a ha => (hk a ha).trans (hstep.stands (Ne.symm hi.1) ha)⟩
    · rcases ha with ha | ha
      · exact inputWord_bounds ha
      · exact ha
    · have h1 := hstep.rest
      have h2 := htail.rest
      conv_lhs => rw [h2, h1]

end Sys2Proof.Machine.State

end

section
/-! PROOFS. The settling that ends a reset, with the visit it may begin (R126, R135, R139, R140, R141). -/

namespace Sys2Proof.Machine.State

variable {s t u v w y : State} {i j : Fin 16} {l m : List (Fin 16)}

/-! ## One input, with the event its settling may be (R135) -/

/-- An input settles at a reset's end, and its settling is the event that it may be. -/
def settleOne (s : State) (i : Fin 16) : State :=
  if (s.settings.inputs[i]).enabled then (s.settleInput i (s.settings.inputs[i]).tach).settleEvent i else s

theorem settleAll_eq (s : State) : s.settleAll = (List.finRange 16).foldl settleOne s := rfl

/-- Input `i` is the visit input, and settles toward its active level at once. -/
def SettlesActive (s : State) (i : Fin 16) : Prop :=
  s.settings.visitInput = some i ∧ (s.settings.inputs[i]).enabled = true ∧ (s.settings.inputs[i]).tach = false ∧
    (s.settings.inputs[i]).debounce = 0 ∧ (s.inputs[i]).raw ≠ (s.settings.inputs[i]).activeLow

theorem settlesActive_congr (hs : t.settings = s.settings) (hx : t.inputs[i] = s.inputs[i]) : t.SettlesActive i ↔ s.SettlesActive i := by
  unfold SettlesActive
  rw [hs, hx]

theorem settleOne_quiet (hclean : clearedInput s.inputs[i] = s.inputs[i]) (h : ¬ s.SettlesActive i) : s.settleOne i = s.settleOnly i := by
  have hsettles := settleOnly_settles hclean
  unfold settleOne
  unfold settleOnly at *
  by_cases he : (s.settings.inputs[i]).enabled = true
  · rw [if_pos he] at hsettles ⊢
    rw [if_pos he]
    generalize s.settleInput i (s.settings.inputs[i]).tach = t at *
    refine if_neg fun ⟨hv, hset, hlevel, ht⟩ => h ?_
    rw [hsettles.settings] at hv ht
    have htach : (s.settings.inputs[i]).tach = false := by simpa using ht
    rw [hsettles.same, settledInput, if_neg (by rw [he]; exact nofun), if_neg ht] at hset hlevel
    by_cases hd : (s.settings.inputs[i]).debounce = 0
    · rw [if_pos hd] at hlevel
      exact ⟨hv, he, htach, hd, by simpa [isActive] using hlevel⟩
    · rw [if_neg hd] at hset
      rw [← hclean] at hset
      exact absurd hset nofun
  · rw [if_neg he, if_neg he]

theorem settleOne_active (hclean : clearedInput s.inputs[i] = s.inputs[i]) (h : s.SettlesActive i) (hoff : s.visit.state = .off) :
    s.settleOne i = (s.settleOnly i).visitBegin i s.time.timestamp := by
  have hsettles := settleOnly_settles hclean
  obtain ⟨hv, he, htach, hd, hraw⟩ := h
  unfold settleOne
  unfold settleOnly at *
  rw [if_pos he] at hsettles ⊢
  rw [if_pos he]
  generalize s.settleInput i (s.settings.inputs[i]).tach = t at *
  have hset := hsettles.settings
  have hx := hsettles.same
  have hrest := hsettles.rest
  have ht : ¬ (s.settings.inputs[i]).tach = true := by rw [htach]; exact nofun
  rw [settledInput, if_neg (by rw [he]; exact nofun), if_neg ht, if_pos hd] at hx
  have hevent : t.settings.visitInput = some i ∧ t.inputs[i].settled ∧ t.inputs[i].level ∧ ¬ t.settings.inputs[i].tach := by
    rw [hset, hx]
    exact ⟨hv, rfl, by simpa [isActive] using hraw, ht⟩
  refine (if_pos hevent).trans ?_
  rw [visitActive_of_off (by rw [hrest]; exact hoff), show t.time = s.time by rw [hrest]]

/-! ## The inputs in their order -/

theorem foldl_settleOne (hl : l.Nodup) (hclean : ∀ i ∈ l, clearedInput s.inputs[i] = s.inputs[i])
    (h : ∀ i ∈ l, ¬ s.SettlesActive i) : l.foldl settleOne s = l.foldl settleOnly s := by
  induction l generalizing s with
  | nil => rfl
  | cons j l ih =>
    obtain ⟨hj, hl⟩ := List.nodup_cons.1 hl
    have hstep := settleOnly_settles (hclean j List.mem_cons_self)
    rw [List.foldl_cons, List.foldl_cons, settleOne_quiet (hclean j List.mem_cons_self) (h j List.mem_cons_self)]
    generalize s.settleOnly j = u at *
    have hother {i : Fin 16} (hi : i ∈ l) : u.inputs[i] = s.inputs[i] := hstep.other fun e => hj (e ▸ hi)
    exact ih hl (fun i hi => by rw [hother hi]; exact hclean i (List.mem_cons_of_mem _ hi)) fun i hi =>
      fun ha => h i (List.mem_cons_of_mem _ hi) ((settlesActive_congr hstep.settings (hother hi)).1 ha)

theorem settleAll_quiet (hclean : ∀ i : Fin 16, clearedInput s.inputs[i] = s.inputs[i]) (h : ∀ i, ¬ s.SettlesActive i) :
    s.InputsSettle s.settleAll (List.finRange 16) := by
  rw [settleAll_eq, foldl_settleOne (List.nodup_finRange 16) (fun i _ => hclean i) fun i _ => h i]
  exact foldl_settle (List.nodup_finRange 16) fun i _ => hclean i

/-! ## A visit that begins between -/

namespace InputsSettle

theorem settings (h : s.InputsSettle t l) : t.settings = s.settings := by rw [h.rest]

theorem now (h : s.InputsSettle t l) : t.now = s.now := by rw [h.rest]; rfl

theorem coll (h : s.InputsSettle t l) : t.coll = s.coll := by rw [h.rest]

theorem outside (h : s.InputsSettle t l) {a : Nat} (ha : a < 0xC0 ∨ 0x100 ≤ a) : t.peek a = s.peek a := h.keeps a (by omega)

theorem snapshot (h : s.InputsSettle t l) (hs : s.SnapshotShown) : t.SnapshotShown :=
  snapshotShown_congr hs (by rw [h.rest]) fun a ha => h.outside (by unfold QueueWord at ha; omega)

theorem readDir (h : s.InputsSettle t l) (k : Fin 32) : Machine.readDir t.mem k = Machine.readDir s.mem k := by
  have := dirAddr_bounds k
  exact readDir_congr (h.outside (by omega)) (h.outside (by omega))

end InputsSettle

/-- Inputs that settle before a visit begins, and after it, leave what the visit leaves. -/
theorem VisitBegun.between (h1 : s.InputsSettle u l) (h : u.VisitBegun y i) (h2 : y.InputsSettle t m) (htakes : s.Takes 9) :
    s.VisitBegun t i := by
  have e1 := h1.rest
  have e2 := h2.rest
  have e := h.rest
  have htime : u.time = s.time := by rw [e1]
  have hvisit : t.visit = y.visit := by rw [e2]
  have heng : t.engine = y.engine := by rw [e2]
  have hueng : u.engine = s.engine := by rw [e1]
  have hset := h1.settings
  have hfresh (k : Fin 32) : u.freshCtx k .visit = s.freshCtx k .visit := freshCtx_congr (h1.readDir k) (by rw [htime]) _
  refine ⟨?_, ?_, ?_, fun n start hst j hj => ?_, fun b => ?_, ?_, h2.snapshot h.snapshot, fun hno => ?_,
    fun k hk hen hgood => ?_, fun a ha => ?_, ?_⟩
  · rw [h2.coll, ← h1.coll]
    exact h.segment
  · rw [hvisit, h.visit, htime]
  · rw [show t.bus = y.bus by rw [e2], h.bus, show u.bus = s.bus by rw [e1]]
  · have hbase := takes_base htakes n.val
    have hrec := h.record n start (by rw [h1.coll]; exact hst) j hj
    rw [h1.coll, segAddr_congr hset, htime] at hrec
    rw [hvisit, ← hrec]
    exact h2.outside (by omega)
  · rw [show t.wake = y.wake by rw [e2], h.pending, show u.wake = s.wake by rw [e1]]
  · rw [h2.outside (by omega), h.word40, e2]
    rfl
  · rw [heng, h.stands (by
      rw [hset]
      exact hno.imp_right fun ⟨k, hk, hdis⟩ => ⟨k, hk, by rw [h1.readDir]; exact hdis⟩), hueng]
  · rw [heng, h.runs k (by rw [hset]; exact hk) (by rw [h1.readDir]; exact hen) (by rw [h1.readDir]; exact hgood), hueng, hfresh]
  · simp only [not_or] at ha
    obtain ⟨h40, hlow, hin, hdir, htk⟩ := ha
    rw [h2.keeps a (by omega), h.keeps a, h1.keeps a (by omega)]
    rintro (hb | hb | hb | hb | hb)
    · exact h40 hb
    · exact hlow hb
    · exact hin hb
    · exact hdir hb
    · exact htk ((takenWord_congr h1.coll hset a).1 hb)
  · rw [show t.wake = y.wake by rw [e2], show t.coll = y.coll by rw [e2], heng, hvisit, show t.bus = y.bus by rw [e2]]
    generalize y.wake = y1 at *
    generalize y.coll = y2 at *
    generalize y.engine = y3 at *
    generalize y.visit = y4 at *
    generalize y.bus = y5 at *
    conv_lhs => rw [e2, e, e1]

/-- The visit input settles toward its active level: a visit begins as its turn comes, and every input settles. -/
theorem settleAll_begins (hclean : ∀ i : Fin 16, clearedInput s.inputs[i] = s.inputs[i]) (h : s.SettlesActive i)
    (hclear : s.EngineClear) (hin : s.req.inflight = []) (hshed : s.duty.shed = .none) (hoff : s.visit.state = .off)
    (hctl : s.bus.ctl ≠ .idle) (htakes : s.Takes 9) (hsnap : s.SnapshotShown) :
    s.VisitBegun s.settleAll i ∧ ∀ j, s.HasSettled s.settleAll j := by
  obtain ⟨before, after, hlist⟩ := List.append_of_mem (List.mem_finRange i)
  have hnodup : (before ++ i :: after).Nodup := hlist ▸ List.nodup_finRange 16
  obtain ⟨hb, ha, hdisj⟩ := List.nodup_append.1 hnodup
  obtain ⟨hia, ha⟩ := List.nodup_cons.1 ha
  have hib : i ∉ before := fun h => hdisj i h i List.mem_cons_self rfl
  have hother {u : State} (hset : u.settings = s.settings) {j : Fin 16} (hne : j ≠ i) : ¬ u.SettlesActive j := fun hj => by
    have hv := hj.1
    rw [hset, h.1] at hv
    exact hne (Option.some.inj hv).symm
  have hfirst : before.foldl settleOne s = before.foldl settleOnly s :=
    foldl_settleOne hb (fun j _ => hclean j) fun j hj => hother rfl fun e => hib (e ▸ hj)
  have hbefore := foldl_settle hb fun j _ => hclean j
  have hupto : s.InputsSettle ((before.foldl settleOnly s).settleOnly i) (before ++ [i]) := by
    have h := foldl_settle (s := s) (l := before ++ [i]) (List.nodup_append.2 ⟨hb, List.nodup_singleton i, fun j hj k hk => by
      rw [List.mem_singleton.1 hk]
      exact fun e => hib (e ▸ hj)⟩) fun j _ => hclean j
    rwa [List.foldl_append] at h
  rw [settleAll_eq, hlist, List.foldl_append, List.foldl_cons, hfirst]
  generalize before.foldl settleOnly s = v at *
  have hvi := (hbefore.others i hib).1
  have hbrest := hbefore.rest
  have hurest := hupto.rest
  rw [settleOne_active (by rw [hvi]; exact hclean i) ((settlesActive_congr hbefore.settings hvi).2 h)
    (by rw [hbrest]; exact hoff)]
  generalize v.settleOnly i = u at *
  obtain ⟨hbegun, hinputs, hentries⟩ := visitBegin_begun (s := u) (i := i) (t := u.visitBegin i v.time.timestamp)
    (by rw [EngineClear, hurest]; exact hclear) (by rw [hurest]; exact hin) (by rw [hurest]; exact hshed)
    (by rw [hurest]; exact hoff) (by rw [hurest]; exact hctl)
    (takes_congr hupto.coll hupto.settings (fun a ha => hupto.outside (by omega)) htakes) (hupto.snapshot hsnap)
    (by rw [show u.time = s.time by rw [hurest], show v.time = s.time by rw [hbrest]])
  generalize u.visitBegin i v.time.timestamp = y at *
  have hyset : y.settings = s.settings := by rw [hbegun.rest]; exact hupto.settings
  have hynow : y.now = s.now := by rw [hbegun.rest]; exact hupto.now
  have hnot {j : Fin 16} (hj : j ∈ after) : j ∉ before ++ [i] := fun hmem => by
    rcases List.mem_append.1 hmem with hmem | hmem
    · exact hdisj j hmem j (List.mem_cons_of_mem _ hj) rfl
    · rw [List.mem_singleton.1 hmem] at hj
      exact hia hj
  have hyx {j : Fin 16} (hj : j ∈ after) : y.inputs[j] = s.inputs[j] := by
    rw [inputs_eq_of hinputs]
    exact (hupto.others j (hnot hj)).1
  have hyw (j : Fin 16) (a : Nat) (ha : InputWord j a) : y.peek a = u.peek a :=
    hentries a (inputWord_bounds ha).1 (inputWord_bounds ha).2
  rw [foldl_settleOne ha (fun j hj => by rw [hyx hj]; exact hclean j) fun j hj => hother hyset fun e => hia (e ▸ hj)]
  have hafter := foldl_settle (s := y) ha fun j hj => by rw [hyx hj]; exact hclean j
  generalize after.foldl settleOnly y = t at *
  refine ⟨hbegun.between hupto hafter htakes, fun j => ?_⟩
  by_cases hj : j ∈ after
  · exact (hafter.settled j hj).since (hyx hj) (fun a ha => (hyw j a ha).trans ((hupto.others j (hnot hj)).2 a ha)) hyset hynow
  · have hmem : j ∈ before ++ [i] := by
      have := List.mem_finRange j
      rw [hlist] at this
      simp only [List.mem_append, List.mem_cons, List.not_mem_nil, or_false] at this ⊢
      exact this.imp_right fun h => h.resolve_right hj
    have h' := (hupto.settled j hmem).congr (u := y) (inputs_eq_of hinputs) (hyw j)
    exact h'.congr (hafter.others j hj).1 (hafter.others j hj).2

end Sys2Proof.Machine.State

end

section
/-! PROOFS. The end of a reset, from the abandoned work to READY (R121, R122, R139, R169, R190–R192, R195). -/

namespace Sys2Proof.Machine.State

variable {s t p m r : State} {i : Fin 16}

/-! ## The part before the inputs settle -/

theorem afterReset_clean (x : Input) (c : ResetCause) : clearedInput (x.afterReset c) = x.afterReset c := by
  unfold Input.afterReset
  split <;> rfl

theorem afterReset_raw (x : Input) (c : ResetCause) : (x.afterReset c).raw = x.raw := by
  unfold Input.afterReset
  split <;> rfl

theorem inputAfterReset_eq (s : State) (g : InputSettings) (i : Fin 16) :
    s.inputAfterReset g i = settledInput g s.now ((s.inputs[i]).afterReset s.power.cause) := by
  unfold inputAfterReset settledInput Input.afterReset isActive
  by_cases hs : s.power.cause = .soft <;> simp [hs, millis]; rfl

/-- The held flags that a reset leaves (R124, R139). -/
def heldAfterReset (s : State) (i : Fin 16) : Nat := if s.power.cause = .soft then s.heldFlags i else 0

theorem heldAfterReset_lt (s : State) (i : Fin 16) : s.heldAfterReset i < 4 := by
  unfold heldAfterReset
  split
  · exact heldFlags_lt s i
  · decide

/-- The part at a reset's end before the inputs settle. -/
structure Restored (s t : State) : Prop where
  time : s.TimeRestarted t
  watches : ∀ n : Fin 64, t.watches[n] = s.watchAfterReset n ∧ t.WatchShown n
  inputs : ∀ i : Fin 16, t.inputs[i] = (s.inputs[i]).afterReset s.power.cause ∧ t.InputShown i (s.heldAfterReset i)
  stations : ∀ i, t.StationShown i
  counts : ∀ j < 7, t.peek (0x57 + j) = (countWords t.bus.counts).getD j 0
  channels : ∀ c, t.ChannelShown c
  word40 : t.peek 0x40 = t.word40
  snapshot : t.SnapshotShown
  geometry : t.GeometryOk
  segments : s.SegmentsRecovered t
  opened : ∀ n start, t.coll.st = .filling n start →
    field (s.peek (t.segAddr n.val)) 0 2 = 0 ∧ t.coll.used = 3 ∧ (t.coll.offered = 1 ∧ t.coll.written = 1) ∧
      t.peek (t.segAddr n.val + 6) = t.time.timestamp
  takes : t.Takes 9
  pending : ∀ b : WakeCause, t.wake.pending.getLsbD b.index = true ↔
    b = .restart ∨ (b = .closed ∧ ∃ i, s.FoundFilling t i) ∨ (b = .overrun ∧ t.coll.st = .starved)
  host : ∀ a, HostWord a → t.peek a = s.peek a
  rest : t =
    { s with
      power := { s.power with phase := .ready }, wake := t.wake, time := t.time, settings := s.resetSettings.settings
      refused := s.resetSettings.refused, mem := t.mem, watches := t.watches, coll := t.coll, inputs := t.inputs
      bus := { s.bus with ctl := .settling (some (s.now + 1500)) } }

theorem restored_of (hp : s.Restarted p) (hm : p.Mirrored m) (hr : m.Recovered r) (hg : m.GeometryOk)
    (hwake : s.wake = { pending := 0, line := false }) : s.Restored r := by
  have ep := hp.rest
  have em := hm.wrote.rest
  have er := hr.rest
  have hset : r.settings = m.settings := by rw [er]
  have hseg (j : Nat) : m.segAddr j = r.segAddr j := (segAddr_congr hset j).symm
  have hbase (j : Nat) : 0x2000 ≤ r.segAddr j := by rw [← hseg]; exact hg.1.trans (base_le_segAddr m j)
  have hms (a : Nat) (ha : 0x2000 ≤ a) : m.peek a = s.peek a :=
    (hm.wrote.keeps a (by
      rintro (h | ⟨n, h⟩)
      · omega
      · have := watchWord_bounds h
        omega)).trans (hp.keeps a (by omega))
  have hrm {a : Nat} (ha : a < 0x2000) (hb : a < 0x9A ∨ 0xA3 ≤ a) : r.peek a = m.peek a := hr.keeps a (by omega)
  have hstate (j : Nat) : m.segState j = field (s.peek (r.segAddr j)) 0 2 := by
    unfold segState
    rw [hseg, hms _ (hbase j)]
  have hfound (j : Nat) : (j < m.settings.count ∧ m.segState j = 1) ↔ s.FoundFilling r j := by
    rw [hstate, ← hset]
    rfl
  have hnext (n : Nat) (h : (∃ i, s.FoundFilling r i ∧ (∀ j, s.FoundFilling r j → j ≤ i) ∧ n = (i + 1) % r.settings.count) ∨
      (∀ i, ¬ s.FoundFilling r i) ∧ n = 0) : m.NextAfter n := by
    simp only [← hfound, hset] at h
    refine h.imp (fun ⟨i, ⟨hi, h1⟩, hmax, hn⟩ => ⟨i, hi, h1, fun j hj hj1 => hmax j ⟨hj, hj1⟩, hn⟩) fun ⟨hnone, hn⟩ =>
      ⟨fun i hi h1 => hnone i ⟨hi, h1⟩, hn⟩
  have htime : r.time = p.time := by rw [er, em]
  have hpset : r.settings = p.settings := by rw [er, em]
  have hcause : m.power.cause = s.power.cause := by rw [em, ep]
  have hpeek (i : Fin 16) (a : Nat) (ha : InputWord i a) : r.peek a = p.peek a := by
    have hb := inputWord_bounds ha
    rw [hrm (by omega) (by omega), hm.wrote.keeps a]
    rintro (h | ⟨n, h⟩)
    · omega
    · have := watchWord_bounds h
      omega
  have hpinput (i : Fin 16) : r.inputs[i] = p.inputs[i] := inputs_eq_of (by rw [er, em])
  have hmb : r.bus = m.bus := by rw [er]
  refine ⟨⟨?_, ?_, ?_, fun n => ?_, ?_, ?_, ?_, ?_⟩, fun n => ⟨?_, ?_⟩, fun i => ⟨?_, ?_⟩, fun i => ?_, fun j hj => ?_, fun c => ?_,
    ?_, ?_, ?_, ⟨fun j hj => ?_, fun n hn => ⟨fun h0 => ?_, fun h0 => ?_⟩⟩, fun n start hst => ?_, hr.takes, fun b => ?_,
    fun a ha => ?_, ?_⟩
  · rw [htime]; exact hp.clock.1
  · rw [htime]; exact hp.timestamp
  · rw [htime]; exact hp.clock.2.1
  · rw [htime, hpset]; exact hp.timers n
  · rw [htime, hpset]; exact hp.clock.2.2.1
  · rw [htime]; exact hp.clock.2.2.2.1
  · rw [htime]; exact hp.clock.2.2.2.2
  · rw [hrm (by decide) (by decide), hm.timestamp, er]
  · rw [show r.watches = p.watches by rw [er, em]]
    exact hp.watches n
  · exact watchShown_congr (hm.watches n) (by rw [er]) fun a ha => by
      have := watchWord_bounds ha
      exact hrm (by omega) (by omega)
  · rw [hpinput]
    exact (hp.entries i).input
  · have hshown : p.InputShown i (s.heldAfterReset i) :=
      ⟨(hp.entries i).status, (hp.entries i).period, (hp.entries i).active, (hp.entries i).release⟩
    exact hshown.congr (hpinput i) (hpeek i)
  · exact stationShown_congr (hm.stations i) (by rw [hmb]) fun a ha => by
      have := stationWord_bounds ha
      exact hrm (by omega) (by omega)
  · rw [hrm (by omega) (by omega), hm.counts j hj, hmb]
  · exact channelShown_congr (hm.channels c) (by rw [er]) fun a ha => by
      have := channelWord_bounds ha
      exact hrm (by omega) (by omega)
  · rw [hrm (by decide) (by decide), hm.word40, er]
    rfl
  · exact snapshotShown_congr hm.snapshot (by rw [er]) fun a ha => by
      unfold QueueWord at ha
      exact hrm (by omega) (by omega)
  · unfold GeometryOk
    rw [hset]
    exact hg
  · obtain ⟨hj1, hj2⟩ := (hfound j).2 hj
    obtain ⟨⟨h0, h1, h4⟩, h2, h3⟩ := hr.closed j hj1 hj2
    have := hbase j
    rw [hseg, hms _ (by omega)] at h0 h2 h3
    rw [hseg, hms _ (by omega)] at h1
    rw [hseg] at h4
    refine ⟨h0, h1, h2, h3, h4.trans (by rw [er]), ?_⟩
    exact (hr.pending .closed).2 (.inr (.inl ⟨rfl, j, hj1, hj2⟩))
  · have hop := hr.opened n (hnext n hn) ((hstate n).trans h0)
    obtain ⟨i, start, hst, hi⟩ := hop.filling
    have hh := hop.header
    have hc := hop.code
    rw [hseg] at hh hc
    refine ⟨⟨i, start, hst, hi⟩, by rw [hset]; exact hop.next, hop.seq, hh, hc.trans ?_⟩
    rw [er]
  · exact hr.starved n (hnext n hn) fun h => h0 ((hstate n).symm.trans h)
  · obtain ⟨N, hN⟩ := hr.next
    by_cases h0 : m.segState N = 0
    · have hop := hr.opened N hN h0
      obtain ⟨i, start', hst', hi⟩ := hop.filling
      rw [hst] at hst'
      obtain ⟨rfl, -⟩ := CollState.filling.inj hst'
      have hstamp := hop.stamp
      rw [hi]
      rw [hseg] at hstamp
      exact ⟨(hstate N).symm.trans h0, hop.used, hop.counts, hstamp.trans (by rw [er])⟩
    · exact absurd (hst.symm.trans (hr.starved N hN h0).1) nofun
  · rw [hr.pending, show m.wake = p.wake by rw [em], hp.pending (by rw [hwake])]
    simp only [hfound]
  · have hplace := ha.place
    have hwatch (n : Fin 64) : ¬ WatchWord n a := fun h => not_hostWord_of_watchWord h ha
    rw [hrm (by omega) (by omega), hm.wrote.keeps a, hp.keeps a (by omega)]
    rintro (h | ⟨n, h⟩)
    · omega
    · exact hwatch n h
  · rw [show r.time = p.time from htime, show r.watches = p.watches by rw [er, em], show r.inputs = p.inputs by rw [er, em]]
    generalize p.time = p1 at *
    generalize p.watches = p2 at *
    generalize p.inputs = p3 at *
    conv_lhs => rw [er, em, ep]

theorem finishReset_restored (hgeo : s.power.cause.cold = true → s.GeometryOk) (hwake : s.wake = { pending := 0, line := false }) :
    ∃ r, s.Restored r ∧ s.finishReset = r.settleAll := by
  have hp := restarted_restarted s
  have hm := showAll_mirrored (s := s.restarted) rfl
  have hf := finishReset_eq s
  have hg := resetSettings_geometry hgeo
  generalize s.restarted = p at *
  generalize (List.finRange 64).foldl showWatch p.showAll = m at *
  have hset : m.settings = s.resetSettings.settings := by rw [hm.wrote.rest, hp.rest]
  have hgm : m.GeometryOk := by
    unfold GeometryOk
    rw [hset]
    exact hg
  exact ⟨m.recover, restored_of hp hm (recover_recovered hgm (by rw [hm.wrote.rest, hp.rest])) hgm hwake, hf⟩

/-! ## The inputs settle, and a visit may begin -/

/-- What the settling of the inputs does to a part restored, whether a visit begins or not. -/
structure Ended (r t : State) : Prop where
  segment : t.coll.st = r.coll.st ∧ t.coll.next = r.coll.next ∧ t.coll.seq = r.coll.seq
  settled : ∀ j, r.HasSettled t j
  bus : t.bus = { r.bus with visitPending := t.bus.visitPending }
  word40 : t.peek 0x40 = t.word40
  snapshot : t.SnapshotShown
  keeps : r.KeepsWords t fun a =>
    a = 0x40 ∨ (0x44 ≤ a ∧ a ≤ 0x56) ∨ (0xBC ≤ a ∧ a < 0x100) ∨
      (∃ k, a = dirAddr k + 2 ∨ a = dirAddr k + 3) ∨ r.TakenWord a
  rest : t = { r with
    mem := t.mem, wake := t.wake, coll := t.coll, engine := t.engine, visit := t.visit, bus := t.bus, inputs := t.inputs }

theorem ended_of_quiet (h : r.InputsSettle t (List.finRange 16)) (h40 : r.peek 0x40 = r.word40) (hsnap : r.SnapshotShown) :
    r.Ended t where
  segment := by rw [h.coll]; exact ⟨rfl, rfl, rfl⟩
  settled j := h.settled j (List.mem_finRange j)
  bus := by rw [h.rest]
  word40 := by rw [h.outside (by omega), h40, h.rest]; rfl
  snapshot := h.snapshot hsnap
  keeps := h.keeps.mono fun a ha => .inr (.inr (.inl ⟨by omega, ha.2⟩))
  rest := by
    have e := h.rest
    generalize t.mem = t1 at *
    generalize t.inputs = t2 at *
    rw [e]

theorem ended_of_visit (h : r.VisitBegun t i) (hset : ∀ j, r.HasSettled t j) : r.Ended t where
  segment := h.segment
  settled := hset
  bus := by rw [h.bus]
  word40 := h.word40
  snapshot := h.snapshot
  keeps := h.keeps
  rest := h.rest

namespace Ended

theorem power (h : r.Ended t) : t.power = r.power := by rw [h.rest]
theorem settings (h : r.Ended t) : t.settings = r.settings := by rw [h.rest]
theorem time (h : r.Ended t) : t.time = r.time := by rw [h.rest]
theorem watches (h : r.Ended t) : t.watches = r.watches := by rw [h.rest]
theorem duty (h : r.Ended t) : t.duty = r.duty := by rw [h.rest]
theorem stations (h : r.Ended t) : t.bus.stations = r.bus.stations := by rw [h.bus]
theorem counts (h : r.Ended t) : t.bus.counts = r.bus.counts := by rw [h.bus]

/-- The words of the status block, of the watches and of the directory that the settling leaves. -/
theorem low (h : r.Ended t) (htakes : r.Takes 9) {a : Nat}
    (ha : (0x41 ≤ a ∧ a < 0x44) ∨ (0x57 ≤ a ∧ a < 0x9A) ∨ (0xA3 ≤ a ∧ a < 0xBC) ∨
      (0x100 ≤ a ∧ a < 0x2000 ∧ ∀ k : Fin 32, a ≠ dirAddr k + 2 ∧ a ≠ dirAddr k + 3)) : t.peek a = r.peek a := by
  refine h.keeps a ?_
  rintro (hb | hb | hb | ⟨k, hb⟩ | hb)
  · omega
  · omega
  · omega
  · have := dirAddr_bounds k
    rcases ha with ha | ha | ha | ⟨-, -, ha⟩
    · omega
    · omega
    · omega
    · exact hb.elim (ha k).1 (ha k).2
  · have := takenWord_place htakes hb
    omega

/-- The words of the collection region outside what the filling segment takes. -/
theorem region (h : r.Ended t) {a : Nat} (ha : 0x2000 ≤ a) (hb : ¬ r.TakenWord a) : t.peek a = r.peek a := by
  refine h.keeps a ?_
  rintro (hc | hc | hc | ⟨k, hc⟩ | hc)
  · omega
  · omega
  · omega
  · have := dirAddr_bounds k
    omega
  · exact hb hc

end Ended

end Sys2Proof.Machine.State

end

section
/-! PROOFS. What every block is at a reset's end (R75, R101, R121, R122, R139, R141, R159, R169, R195; O13, O14, O15). -/

namespace Sys2Proof.Machine.State

variable {s t r : State} {i : Fin 16}

/-! ## The blocks at the end -/

theorem Restored.now (hr : s.Restored r) : r.now = s.now := hr.time.1

theorem Ended.foundFilling (h : r.Ended t) (j : Nat) : s.FoundFilling t j ↔ s.FoundFilling r j := by
  unfold FoundFilling
  rw [h.settings, segAddr_congr h.settings]

section blocks

variable (hr : s.Restored r) (h : r.Ended t)

include hr h

theorem ended_time : s.TimeRestarted t := by
  have ht := hr.time
  unfold TimeRestarted at *
  rw [h.time, h.settings, h.low hr.takes (by omega)]
  exact ht

theorem ended_watches (n : Fin 64) : t.watches[n] = s.watchAfterReset n ∧ t.WatchShown n := by
  obtain ⟨hw, hshown⟩ := hr.watches n
  refine ⟨by rw [h.watches]; exact hw, watchShown_congr hshown (by rw [h.watches]) fun a ha => ?_⟩
  have hb := watchWord_bounds ha
  refine h.low hr.takes (.inr (.inr (.inr ⟨by omega, by omega, fun k => ?_⟩)))
  have := dirAddr_bounds k
  omega

theorem ended_inputs : (∀ i : Fin 16, t.inputs[i] = s.inputAfterReset t.settings.inputs[i] i) ∧ s.InputsShown t := by
  refine ⟨fun i => ?_, fun i => ?_⟩
  · rw [(h.settled i).1, (hr.inputs i).1, inputAfterReset_eq, h.settings, hr.now]
  · exact (h.settled i).2 _ (s.heldAfterReset_lt i) (hr.inputs i).2

theorem ended_bus :
    t.bus = { s.bus with ctl := .settling (some (s.now + 1500)), visitPending := t.bus.visitPending } ∧
      (∀ i, t.StationShown i) ∧ ∀ j < 7, t.peek (0x57 + j) = (countWords t.bus.counts).getD j 0 := by
  refine ⟨?_, fun i => stationShown_congr (hr.stations i) (by rw [h.stations]) fun a ha => ?_, fun j hj => ?_⟩
  · have hb := h.bus
    have hrb : r.bus = { s.bus with ctl := .settling (some (s.now + 1500)) } := by rw [hr.rest]
    generalize t.bus.visitPending = x at *
    rw [hb, hrb]
  · have := stationWord_bounds ha
    exact h.low hr.takes (by omega)
  · rw [h.low hr.takes (by omega), hr.counts j hj, h.counts]

theorem ended_channels (c : Fin 4) : t.ChannelShown c :=
  channelShown_congr (hr.channels c) (by rw [h.duty]) fun a ha => by
    have := channelWord_bounds ha
    exact h.low hr.takes (by omega)

/-- The header of a segment that does not fill stands, and of the one that does the words of its first record. -/
theorem ended_header {j a : Nat} (hne : ∀ n start, r.coll.st = .filling n start → n.val = j → r.segAddr j + 5 ≤ a)
    (ha : r.segAddr j ≤ a) (hb : a < r.segAddr j + 8) : t.peek a = r.peek a := by
  have hbase : 0x2000 ≤ r.segAddr j := hr.geometry.1.trans (base_le_segAddr r j)
  refine h.region (by omega) ?_
  rintro (hc | ⟨n, start, hst, hc⟩)
  · omega
  · obtain ⟨-, hused, -⟩ := hr.opened n start hst
    rw [hused] at hc
    have hsize := hr.geometry.2.2.2.1
    rcases Nat.lt_trichotomy n.val j with hlt | heq | hlt
    · have := segAddr_apart r hlt
      omega
    · have := hne n start hst heq
      rw [heq] at hc
      omega
    · have := segAddr_apart r hlt
      omega

theorem ended_segments (hpending : ∀ b : WakeCause, r.wake.pending.getLsbD b.index = true → t.wake.pending.getLsbD b.index = true) :
    s.SegmentsRecovered t := by
  obtain ⟨hclosed, hnext⟩ := hr.segments
  have hseg := segAddr_congr h.settings
  obtain ⟨hst, hcnext, hseq⟩ := h.segment
  have hfound := h.foundFilling (s := s)
  refine ⟨fun j hj => ?_, fun n hn => ?_⟩
  · have hj' := (hfound j).1 hj
    have hkept (a : Nat) (ha : r.segAddr j ≤ a) (hb : a < r.segAddr j + 8) : t.peek a = r.peek a :=
      ended_header hr h (fun n start hst hn => by
        obtain ⟨hempty, -⟩ := hr.opened n start hst
        rw [hn, hj'.2] at hempty
        exact absurd hempty (by decide)) ha hb
    obtain ⟨h0, h1, h2, h3, h4, hw⟩ := hclosed j hj'
    rw [hseg, hkept _ (by omega) (by omega), hkept _ (by omega) (by omega), hkept _ (by omega) (by omega),
      hkept _ (by omega) (by omega), hkept _ (by omega) (by omega), h.time]
    exact ⟨h0, h1, h2, h3, h4, hpending .closed hw⟩
  · simp only [hfound, h.settings] at hn
    obtain ⟨hopen, hstarve⟩ := hnext n hn
    rw [hseg, hst, hcnext, hseq, h.settings, h.power]
    refine ⟨fun h0 => ?_, hstarve⟩
    rw [ended_header hr h (j := n) (a := r.segAddr n + 5) (fun _ _ _ _ => le_rfl) (by omega) (by omega),
      ended_header hr h (j := n) (a := r.segAddr n + 7) (fun _ _ _ _ => by omega) (by omega) (by omega)]
    exact hopen h0

theorem ended_visitSettles (i : Fin 16) : s.VisitSettles t i ↔ r.SettlesActive i := by
  unfold VisitSettles SettlesActive
  rw [h.settings, (hr.inputs i).1, afterReset_raw]

theorem ended_causes (hpending : ∀ b : WakeCause, t.wake.pending.getLsbD b.index = true ↔
      r.wake.pending.getLsbD b.index = true ∨ (b = .visit ∧ ∃ i, r.SettlesActive i)) : s.CausesAtEnd t := by
  intro b
  rw [hpending, hr.pending, h.segment.1]
  simp only [h.foundFilling, ended_visitSettles hr h, or_assoc]

theorem ended_visit (hv : r.VisitBegun t i) : s.VisitBegunBySettle t i := by
  have hengine : r.engine = s.engine := by rw [hr.rest]
  have hlist : t.settings.visitList = r.settings.visitList := by rw [h.settings]
  have hdir (k : Fin 32) : readDir r.mem k = readDir s.mem k :=
    readDir_congr (hr.host _ (.inr (.inr (.inl ⟨k, .inl rfl⟩)))) (hr.host _ (.inr (.inr (.inl ⟨k, .inr rfl⟩))))
  have hdirt (k : Fin 32) : readDir t.mem k = readDir r.mem k := by
    have hk := dirAddr_bounds k
    have hhost (a : Nat) (ha : a = dirAddr k ∨ a = dirAddr k + 1) : t.peek a = r.peek a :=
      h.low hr.takes (.inr (.inr (.inr ⟨by omega, by omega, fun l => by unfold dirAddr at *; omega⟩)))
    exact readDir_congr (hhost _ (.inl rfl)) (hhost _ (.inr rfl))
  refine ⟨by rw [hv.visit, h.time], by rw [hv.bus], fun n start hst j hj => ?_, fun hno => ?_, fun k hk hen hgood => ?_⟩
  · rw [h.segment.1] at hst
    obtain ⟨-, hused, -⟩ := hr.opened n start hst
    have hrec := hv.record n start hst j hj
    rw [hused] at hrec
    rw [segAddr_congr h.settings, h.time]
    exact hrec
  · rw [← hengine]
    refine hv.stands ?_
    simp only [hlist] at hno
    exact hno.imp_right fun ⟨k, hk, hdis⟩ => ⟨k, hk, by rw [hdir]; exact hdis⟩
  · rw [hv.runs k (hlist.symm.trans hk) (by rw [hdir]; exact hen) (by rw [hdir]; exact hgood), hengine,
      freshCtx_congr (hdirt k) (by rw [h.time])]

end blocks

/-! ## The end of a reset -/

/-- What the settling of the inputs makes of the causes, and of the engine, the visit machine and its broadcast. -/
structure SettledWith (r t : State) : Prop extends Ended r t where
  pending : ∀ b : WakeCause, t.wake.pending.getLsbD b.index = true ↔
    r.wake.pending.getLsbD b.index = true ∨ (b = .visit ∧ ∃ i, r.SettlesActive i)
  quiet : (∀ i, ¬ r.SettlesActive i) → t.engine = r.engine ∧ t.visit = r.visit ∧ t.bus.visitPending = r.bus.visitPending ∧
    t.coll = r.coll
  visit : ∀ i, r.SettlesActive i → r.VisitBegun t i

theorem settleAll_settled (hr : s.Restored r) (hwork : s.WorkAbandoned) : r.SettledWith r.settleAll := by
  obtain ⟨hengine, hreq, ⟨-, -, -, -, -⟩, ⟨hoff, -, -⟩, ⟨hshed, -⟩, -⟩ := hwork
  have hrest := hr.rest
  have hclean (i : Fin 16) : clearedInput r.inputs[i] = r.inputs[i] := by
    rw [(hr.inputs i).1]
    exact afterReset_clean _ _
  by_cases hact : ∃ i, r.SettlesActive i
  · obtain ⟨i, hi⟩ := hact
    obtain ⟨hv, hset⟩ := settleAll_begins hclean hi (by rw [EngineClear, hrest, hengine]; exact ⟨rfl, rfl, rfl⟩)
      (by rw [hrest]; exact congrArg RequestTable.inflight hreq) (by rw [hrest]; exact hshed) (by rw [hrest]; exact hoff)
      (by rw [hrest]; exact nofun) hr.takes hr.snapshot
    refine ⟨ended_of_visit hv hset, fun b => ?_, fun hno => absurd hi (hno i), fun j hj => ?_⟩
    · rw [hv.pending]
      exact or_congr_right ⟨fun hb => ⟨hb, i, hi⟩, And.left⟩
    · have hij : i = j := Option.some.inj (hi.1.symm.trans hj.1)
      rwa [← hij]
  · have hno (i : Fin 16) : ¬ r.SettlesActive i := fun hi => hact ⟨i, hi⟩
    have hq := settleAll_quiet hclean hno
    refine ⟨ended_of_quiet hq hr.word40 hr.snapshot, fun b => ?_, fun _ => ?_, fun i hi => absurd hi (hno i)⟩
    · rw [show r.settleAll.wake = r.wake by rw [hq.rest]]
      exact ⟨.inl, fun hb => hb.elim id fun hb => absurd hb.2 hact⟩
    · have e := hq.rest
      generalize r.settleAll = t at *
      exact ⟨by rw [e], by rw [e], by rw [e], by rw [e]⟩

theorem settled_resetEnded (hr : s.Restored r) (h : r.SettledWith t) (hline : t.wake.line = t.lineAsserted) : s.ResetEnded t := by
  have he := h.toEnded
  have hrest := hr.rest
  refine ⟨by rw [he.power, hrest], ended_causes hr he h.pending, hline, ended_time hr he, ended_watches hr he, ended_inputs hr he,
    ended_bus hr he, ended_channels hr he, ⟨he.word40, he.snapshot⟩, fun hno => ?_, fun i hi => ?_, ?_⟩
  · obtain ⟨h1, h2, h3, -⟩ := h.quiet fun i hi => hno i ((ended_visitSettles hr he i).2 hi)
    rw [h1, h2, h3, hrest]
    exact ⟨rfl, rfl, rfl⟩
  · exact ended_visit hr he (h.visit i ((ended_visitSettles hr he i).1 hi))
  · have hkept : r.pending = s.pending ∧ r.hostData = s.hostData ∧ r.ident = s.ident ∧ r.req = s.req ∧ r.duty = s.duty ∧
        r.freeIdx = s.freeIdx := by
      rw [hrest]
      exact ⟨rfl, rfl, rfl, rfl, rfl, rfl⟩
    obtain ⟨h1, h2, h3, h4, h5, h6⟩ := hkept
    have e := he.rest
    exact eq_of_fields (by rw [e, h1, h2, h3, h4, h5, h6]; simp)

/-- The reset work, done: every block is as the reset leaves it, the collection recovered. -/
theorem finishReset_ended (hwork : s.WorkAbandoned) (hwake : s.wake = { pending := 0, line := false })
    (hgeo : s.power.cause.cold = true → s.GeometryOk) :
    ∃ r, s.Restored r ∧ r.SettledWith s.finishReset ∧ s.ResetEnded s.finishReset ∧ s.SegmentsRecovered s.finishReset := by
  obtain ⟨r, hr, hf⟩ := finishReset_restored hgeo hwake
  have h := settleAll_settled hr hwork
  have hline := finishReset_line s
  rw [hf] at hline ⊢
  exact ⟨r, hr, h, settled_resetEnded hr h hline, ended_segments hr h.toEnded fun b hb => (h.pending b).2 (.inl hb)⟩

end Sys2Proof.Machine.State

end

section
/-! PROOFS. The ends of hard and soft resets, and the resets that wait for a request (R189, R190, R192; O14, O15). -/

namespace Sys2Proof.Machine.State

variable {s t u : State} {c : ResetCause}

/-- A warm reset has ended, from a part whose memory `s` holds. -/
def WarmEnded (s t : State) : Prop := s.SettingsFromBlock t ∧ s.SegmentsRecovered t

theorem settingsFromBlock_of (h : s.SettingsFromBlock u) (hset : t.settings = u.settings) (href : t.refused = u.refused) :
    s.SettingsFromBlock t := by
  unfold SettingsFromBlock at *
  rw [hset, href]
  exact h

theorem WarmEnded.congr (h : u.WarmEnded t) (hm : u.mem = s.mem) : s.WarmEnded t := by
  unfold WarmEnded SettingsFromBlock SegmentsRecovered FoundFilling at *
  simp only [peek, hm] at h
  exact h

theorem resetEnded_setResetPhase {p : ResetPhase} (h : s.ResetEnded t) : (s.setResetPhase p).ResetEnded t := h

theorem finishReset_warm (hwork : s.WorkAbandoned) (hwake : s.wake = { pending := 0, line := false })
    (hc : s.power.cause.cold = false) : s.ResetEnded s.finishReset ∧ s.WarmEnded s.finishReset := by
  obtain ⟨r, hr, hset, hended, hseg⟩ := finishReset_ended hwork hwake fun h => absurd (hc.symm.trans h) nofun
  refine ⟨hended, settingsFromBlock_of (resetSettings_taken hc) ?_ ?_, hseg⟩
  · rw [hset.settings, hr.rest]
  · rw [show s.finishReset.refused = r.refused by rw [hset.rest], hr.rest]

/-- The reset work of a part whose work was abandoned, with no second cause next. -/
theorem resetWork_warm (hnone : s.secondCauseNext = false) (hwork : s.WorkAbandoned)
    (hwake : s.wake = { pending := 0, line := false }) (hc : s.power.cause.cold = false) :
    s.ResetEnded s.resetWork ∧ s.WarmEnded s.resetWork := by
  rw [resetWork_of_none hnone]
  exact finishReset_warm (s := s.setResetPhase .working) hwork hwake hc

/-- A hard or soft reset that begins and ends in one command. -/
theorem beginReset_warm {p : ResetPhase} (hnone : s.secondCauseNext = false) (hc : c.cold = false) :
    (∃ u, s.ResetBegun u .working c s.power.pin ∧ u.ResetEnded (s.beginReset p c).resetWork) ∧
      s.WarmEnded (s.beginReset p c).resetWork := by
  have hnone' := (beginReset_secondCauseNext s p c).trans hnone
  have hbegun := beginReset_begun s p c
  have hmem : (s.beginReset p c).mem = s.mem := by simp
  generalize s.beginReset p c = u at *
  have hcold : u.power.cause.cold = false := by rw [hbegun.1]; exact hc
  obtain ⟨hended, hwarm⟩ := resetWork_warm hnone' hbegun.2.2.1 hbegun.2.1 hcold
  exact ⟨⟨u.setResetPhase .working, setResetPhase_begun hbegun, resetEnded_setResetPhase hended⟩, hwarm.congr hmem⟩

end Sys2Proof.Machine.State

open Sys2Proof.Machine State in
/-- Settles O14: each command comes to the reset work, whose end `finishReset_ended` describes. -/
theorem warmResetsTakeSettings : Obligations.WarmResetsTakeSettings := by
  intro s hnone
  refine ⟨fun hp hcause hwork hwake => ?_, fun hp hc hwork hwake => ?_, fun hr hd hcur => ?_⟩
  · exact ⟨_, hardResetRelease_waiting (.inl hp),
      resetWork_warm (s := s.setPin false) hnone hwork hwake (show s.power.cause.cold = false by rw [hcause]; rfl)⟩
  · exact ⟨_, softReset_working hp, resetWork_warm hnone hwork hwake hc⟩
  · exact ⟨_, softReset_ready hr hd hcur, beginReset_warm hnone rfl⟩

namespace Sys2Proof.Machine.State

variable {s : State}

/-! ## A reset waits for a request being carried out (R189, R190) -/

theorem hardResetAssert_defers (hr : s.ready) {r : Taken} (hc : s.req.current = some r) :
    exec .hardResetAssert s = .next { s with power := { s.power with pin := true, deferred := some .hard } } := by
  refine congrArg Host.Outcome.next ?_
  have hphase : (s.setPin true).power.phase = .ready := hr
  have hcurrent : (s.setPin true).req.current.isSome = true := by simp [setPin, hc]
  dsimp only
  rw [hphase]
  dsimp only
  rw [if_pos hcurrent]
  rfl

theorem softReset_defers (hr : s.ready) {r : Taken} (hc : s.req.current = some r) (hd : s.power.deferred = none) :
    exec .softReset s = .next { s with power := { s.power with deferred := some .soft } } := by
  refine congrArg Host.Outcome.next ?_
  rw [show s.power.phase = .ready from hr, hd, hc]
  rfl

theorem softReset_discarded (hr : s.ready) {d : DeferredReset} (hd : s.power.deferred = some d) : exec .softReset s = .next s := by
  refine congrArg Host.Outcome.next ?_
  rw [show s.power.phase = .ready from hr, hd]
  rfl

/-- While a reset waits no slot is examined (log 31). -/
theorem sweepSlot_waits (hr : s.ready) {d : DeferredReset} (hd : s.power.deferred = some d) : exec .sweepSlot s = .next s := by
  refine congrArg Host.Outcome.next ((whenReady_of_ready _ hr).trans ?_)
  simp [sweepSlot, nextSlot, hd]

end Sys2Proof.Machine.State

open Sys2Proof.Machine State in
/-- Settles O15: deferral by the branches of the reset commands; the deferred reset begins as one that nothing held. -/
theorem deferredResetsWait : Obligations.DeferredResetsWait := by
  refine fun s hr => ⟨fun r hc => ⟨hardResetAssert_defers hr hc, softReset_defers hr hc⟩,
    fun d hd => ⟨softReset_discarded hr hd, sweepSlot_waits hr hd⟩, fun hc => ?_⟩
  have hexec := deferredResetBegin_ready hr hc
  refine ⟨fun hd hpin => ?_, fun hd hpin hnone => ?_, fun hd hnone => ?_⟩
  · rw [hd] at hexec
    refine ⟨_, hexec, ?_⟩
    rw [beginHard_held hpin, ← hpin]
    exact beginReset_begun s .hardHeld .hard
  · rw [hd] at hexec
    refine ⟨_, hexec, ?_⟩
    rw [beginHard_released hpin]
    exact beginReset_warm hnone rfl
  · rw [hd] at hexec
    exact ⟨_, hexec, beginReset_warm hnone rfl⟩

end

section
/-! PROOFS. The end of a power-on or brown-out reset (R190, R191, R195; O13). -/

namespace Sys2Proof.Machine.State

variable {s t r : State} {i : Fin 16}

/-! ## Memory as the clearing leaves it (R191) -/

theorem peek_cleared_block (h : s.mem = writeWords [] 0 builtInBlock) {a : Nat} (ha : a < 64) : s.peek a = builtInBlock.getD a 0 := by
  have hlen : builtInBlock.length = 64 := by decide
  rw [peek, h, List.getD_eq_getElem _ _ (by omega)]
  have hsame := readWord_writeWords_same [] 0 a builtInBlock (by omega) (by rw [hlen]; decide)
  rwa [Nat.zero_add] at hsame

theorem peek_cleared_zero (h : s.mem = writeWords [] 0 builtInBlock) {a : Nat} (ha : 64 ≤ a) : s.peek a = 0 := by
  have hlen : builtInBlock.length = 64 := by decide
  rw [peek, h, readWord_writeWords_other _ _ _ _ (by omega)]
  rfl

theorem clearMemory_eq (s : State) :
    s.clearMemory = { s with mem := writeWords [] 0 builtInBlock, settings := builtInSettings, refused := 0 } := by
  obtain ⟨hmem, hset, href⟩ := s.clearMemory_cleared
  exact eq_of_fields (by simp [hmem, hset, href])

theorem wiped_of_cleared (h : s.Cleared) :
    ({ s with mem := writeWords [] 0 builtInBlock, settings := builtInSettings, refused := 0 } : State) = s := by
  obtain ⟨hmem, hset, href⟩ := h
  rw [← hmem, ← hset, ← href]

theorem pin_of_eq {b : Bool} (h : s.power.pin = b) : ({ s.power with pin := b } : Power) = s.power := by
  rw [← h]

/-! ## The end of a cold reset -/

theorem Ended.host (h : r.Ended t) (htakes : r.Takes 9) {a : Nat} (ha : HostWord a) : t.peek a = r.peek a := by
  have hplace := ha.place
  refine h.keeps a ?_
  rintro (hb | hb | hb | ⟨k, hb⟩ | hb)
  · omega
  · omega
  · omega
  · exact not_hostWord_of_dir hb ha
  · have := takenWord_place htakes hb
    omega

/-- What the host finds at the end of a cold reset by the cause `c`, besides what `ResetEnded` says. -/
def ColdEnded (t : State) (c : ResetCause) : Prop :=
  t.settings = builtInSettings ∧ t.refused = 0 ∧ (∀ i < 64, t.peek i = builtInBlock.getD i 0) ∧
    (∀ a, HostWord a → 0x40 ≤ a → t.peek a = 0) ∧ t.wake.pending = 0x400 ∧ t.coll.offered = 1 ∧ t.coll.written = 1 ∧
    (∃ start, t.coll.st = .filling 0 start) ∧ t.peek 0x2005 = pack [(8, 18), (9, 3)] ∧ t.peek 0x2006 = 0 ∧
    t.peek 0x2007 = BitVec.ofNat 32 c.code

/-- A set of causes with RESTART alone. -/
theorem pending_restart {p : BitVec 11} (h : ∀ b : WakeCause, p.getLsbD b.index = true ↔ b = .restart) : p = 0x400 := by
  have hindex : ∀ k : Fin 11, ∃ b : WakeCause, b.index = k.val := fun k => by
    fin_cases k
    exacts [⟨.request, rfl⟩, ⟨.closed, rfl⟩, ⟨.grade, rfl⟩, ⟨.edge, rfl⟩, ⟨.raise, rfl⟩, ⟨.station, rfl⟩, ⟨.overrun, rfl⟩,
      ⟨.stall, rfl⟩, ⟨.visit, rfl⟩, ⟨.shed, rfl⟩, ⟨.restart, rfl⟩]
  refine BitVec.eq_of_getLsbD_eq fun k hk => ?_
  obtain ⟨b, hb⟩ := hindex ⟨k, hk⟩
  have hbit : (0x400 : BitVec 11).getLsbD b.index = decide (b = .restart) := by cases b <;> rfl
  have hb' : b.index = k := hb
  rw [← hb', hbit, Bool.eq_iff_iff, h b, decide_eq_true_iff]

theorem finishReset_cold (hcleared : s.Cleared) (hwork : s.WorkAbandoned) (hwake : s.wake = { pending := 0, line := false })
    (hc : s.power.cause.cold = true) : s.ResetEnded s.finishReset ∧ s.finishReset.ColdEnded s.power.cause := by
  obtain ⟨hmem, hbuilt, href⟩ := hcleared
  have hgeo : s.GeometryOk := by
    unfold GeometryOk
    rw [hbuilt]
    decide
  obtain ⟨r, hr, h, hended, hseg⟩ := finishReset_ended hwork hwake fun _ => hgeo
  generalize s.finishReset = t at *
  have he := h.toEnded
  have hcold := resetSettings_cold hc
  have hrset : r.settings = builtInSettings := by rw [hr.rest, hcold, hbuilt]
  have htset : t.settings = builtInSettings := he.settings.trans hrset
  have hzero (j : Nat) : t.segAddr j = 0x2000 + j * 3072 := by
    unfold segAddr
    rw [htset]
    rfl
  have hnone (j : Nat) : ¬ s.FoundFilling t j := fun hj => by
    have hj' := hj.2
    rw [peek_cleared_zero hmem (by rw [hzero]; omega)] at hj'
    exact absurd hj' (by decide)
  have hquiet (i : Fin 16) : ¬ r.SettlesActive i := fun hi => by
    have hv := hi.1
    rw [hrset] at hv
    exact absurd hv nofun
  obtain ⟨-, -, -, hcoll⟩ := h.quiet hquiet
  obtain ⟨⟨n, start, hst, hn⟩, -, -, hhead, hcode⟩ := (hseg.2 0 (.inr ⟨hnone, rfl⟩)).1 (by
    rw [peek_cleared_zero hmem (by rw [hzero]; omega)]
    decide)
  obtain rfl : n = 0 := Fin.ext hn
  obtain ⟨-, -, hcounts, hstamp⟩ := hr.opened 0 start (hcoll ▸ hst)
  rw [hzero] at hhead hcode
  refine ⟨hended, htset, ?_, fun a ha => ?_, fun a ha h40 => ?_, ?_, hcoll ▸ hcounts.1, hcoll ▸ hcounts.2, ⟨start, hst⟩, hhead, ?_, ?_⟩
  · rw [show t.refused = r.refused by rw [he.rest], hr.rest, hcold, href]
  · rw [he.host hr.takes (.inl ha), hr.host a (.inl ha), peek_cleared_block hmem ha]
  · rw [he.host hr.takes ha, hr.host a ha, peek_cleared_zero hmem h40]
  · refine pending_restart fun b => (hended.2.1 b).trans ?_
    have hvisit : ¬ ∃ i, s.VisitSettles t i := fun ⟨i, hi⟩ => hquiet i ((ended_visitSettles hr he i).1 hi)
    simp [hnone, hvisit, hst]
  · have hseg : r.segAddr 0 = 0x2000 := by rw [← segAddr_congr he.settings, hzero]
    have hsoft : s.power.cause ≠ .soft := fun e => by rw [e] at hc; exact absurd hc nofun
    have hkept := ended_header hr he (j := 0) (a := 0x2006) (fun _ _ _ _ => by omega) (by omega) (by omega)
    rw [show (0 : Fin 16).val = 0 from rfl, hseg] at hstamp
    rw [hkept, hstamp, hr.time.2.1, if_neg hsoft]
  · rw [hcode, he.power, hr.rest]

/-! ## The commands of a cold reset -/

theorem secondCauseNext_congr (h : t.pending = s.pending) : t.secondCauseNext = s.secondCauseNext := by
  unfold secondCauseNext
  rw [h]

theorem supplyRestored_clears (hp : s.power.phase = .supplyLow) :
    exec .supplyRestored s = .next { s with power := { s.power with phase := .clearing } } :=
  congrArg Host.Outcome.next (if_pos hp)

theorem memoryClearDone_released (hp : s.power.phase = .clearing) (hpin : s.power.pin = false) :
    exec .memoryClearDone s = .next s.clearMemory.resetWork := by
  have hcleared : ¬ s.clearMemory.power.pin = true := by simp [hpin]
  exact congrArg Host.Outcome.next ((if_pos hp).trans (if_neg hcleared))

theorem memoryClearDone_held (hp : s.power.phase = .clearing) (hpin : s.power.pin = true) :
    exec .memoryClearDone s = .next (s.clearMemory.setResetPhase .clearedHeld) := by
  have hcleared : s.clearMemory.power.pin = true := by simp [hpin]
  exact congrArg Host.Outcome.next ((if_pos hp).trans (if_pos hcleared))

theorem resetWork_cold (hnone : s.secondCauseNext = false) (hcleared : s.Cleared) (hwork : s.WorkAbandoned)
    (hwake : s.wake = { pending := 0, line := false }) (hc : s.power.cause.cold = true) :
    s.ResetEnded s.resetWork ∧ s.resetWork.ColdEnded s.power.cause := by
  rw [resetWork_of_none hnone]
  exact finishReset_cold (s := s.setResetPhase .working) hcleared hwork hwake hc

end Sys2Proof.Machine.State

open Sys2Proof.Machine State in
/-- Settles O13: the clearing leaves the built-in settings, and the reset work ends as `finishReset_cold` says. -/
theorem coldResetEnds : Obligations.ColdResetEnds := by
  intro s hc hwork hwake
  refine ⟨supplyRestored_clears, fun hp hpin hnone => ⟨_, memoryClearDone_released hp hpin, ?_⟩, fun hp hpin hsecond => ?_,
    fun hp hpin => ?_, fun hmem hset href hnone => ⟨fun hp => ⟨_, hardResetRelease_waiting (.inr hp), ?_⟩,
      fun hp => ⟨_, softReset_working hp, ?_⟩⟩⟩
  · have hwiped := clearMemory_eq s
    have hcleared := s.clearMemory_cleared
    have habandoned := clearMemory_abandoned hwork
    generalize s.clearMemory = u at *
    have hcause : u.power.cause = s.power.cause := by rw [hwiped]
    have hpending : u.pending = s.pending := by rw [hwiped]
    have h := resetWork_cold (s := u) ((secondCauseNext_congr hpending).trans hnone) hcleared habandoned (by rw [hwiped]; exact hwake)
      (by rw [hcause]; exact hc)
    rw [hcause] at h
    rw [pin_of_eq hpin, ← hwiped]
    exact h
  · rw [memoryClearDone_released hp hpin, resetWork_of_second (by simpa [secondCauseNext] using hsecond), clearMemory_eq]
    rfl
  · rw [memoryClearDone_held hp hpin, clearMemory_eq]
    rfl
  · have h := resetWork_cold (s := s.setPin false) hnone ⟨hmem, hset, href⟩ hwork hwake hc
    have hwiped := wiped_of_cleared (s := s.setPin false) ⟨hmem, hset, href⟩
    generalize (s.setPin false).resetWork = t at *
    rw [← hwiped] at h
    exact h
  · have h := resetWork_cold hnone ⟨hmem, hset, href⟩ hwork hwake hc
    have hwiped := wiped_of_cleared ⟨hmem, hset, href⟩
    generalize s.resetWork = t at *
    rw [pin_of_eq rfl, hwiped]
    exact h

end
